-- ==== Sys2Proof/Word.lean ====
section
/-! DEFINITION. The word types of the link and of the retained areas, and the integer arithmetic of R1. -/

namespace Sys2Proof

/-- One byte of a frame, a report or a retained area (R186, R187, R197). -/
abbrev Byte := BitVec 8

/-- The register of the retained areas' CRC-16 (R197). -/
abbrev Word16 := BitVec 16

/-- Division truncates toward zero (R1). -/
abbrev divT (a b : Int) : Int := Int.tdiv a b

/-- A value clamped to `lo..hi` is replaced by the nearer end of the range (R1). -/
def clampInt (lo hi x : Int) : Int := if x < lo then lo else if hi < x then hi else x

/-- The unsigned form of `clampInt` (R1). -/
def clampNat (lo hi x : Nat) : Nat := if x < lo then lo else if hi < x then hi else x

/-- A counter that saturates stays at its limit (R1). -/
def satAdd (limit x d : Nat) : Nat := min limit (x + d)

end Sys2Proof
end

