-- ==== Sys2Proof/Syntax.lean ====
section
/-! DEFINITION. The commands of the block: one constructor of `Instr` per row of spec/opcode_table.json, with the row's
operands. A request's operands are the raw numbers its payload carries (R191), so that an out-of-range value can still be
judged by the owning rule; `tag` is the frame's TAG (R187). -/

namespace Sys2Proof

/-- The field inputs a measurement samples (R4, R5). A conversion that fails is `none`. -/
structure Samples where
  vbat     : Nat
  shunt    : Int
  cabin    : Option Int
  outside  : Option Int
  cabinet  : Option Int
  flame    : Option Int
  overheat : Option Int
  battery  : Option Int
  deriving DecidableEq, Repr

/-- The levels of the switch inputs at a reset (00 2.3; R26, R92, R120, R121, R192). -/
structure Pins where
  ign       : Bool
  door      : Bool
  btn1      : Bool
  btn2      : Bool
  service   : Bool
  compFault : Bool
  deriving DecidableEq, Repr

/-- The two bunk buttons (R121). -/
inductive Button
  | btn1
  | btn2
  deriving DecidableEq, Repr

/-- The content of HEAT_SET, in payload order (R80). -/
structure HeatArgs where
  setpoint     : Int
  deadband     : Int
  maxLevel     : Nat
  quietCap     : Nat
  frostGuard   : Nat
  frostLimit   : Int
  flamePresent : Int
  vHeat        : Nat
  startCharge  : Nat
  mLo          : Nat
  mHi          : Nat
  deriving DecidableEq, Repr

/-- The content of COOL_SET, in payload order (R98). -/
structure CoolArgs where
  enable   : Nat
  setpoint : Int
  band     : Int
  hostMax  : Nat
  offset   : Int
  qRun     : Nat
  qPause   : Nat
  currents : List Int
  deriving DecidableEq, Repr

/-- One level of the heater level table (R76). -/
structure LevelRow where
  pump    : Nat
  burner  : Nat
  air     : Nat
  current : Int
  deriving DecidableEq, Repr

/-- The eight battery parameters, in the order of R22. -/
structure BatteryParams where
  cNom  : Nat
  e     : Nat
  vFull : Nat
  iTail : Int
  rBase : Nat
  rCold : Nat
  vCut  : Nat
  vHard : Nat
  deriving DecidableEq, Repr

/-- The rest settings, in the order of R138. -/
structure RestSettings where
  splitFirst  : Nat
  splitSecond : Nat
  breakMin    : Nat
  driveLimit  : Nat
  lead        : Nat
  reducedMin  : Nat
  regularMin  : Nat
  quietDelay  : Nat
  hIdle       : Nat
  deriving DecidableEq, Repr

/-- One item of a scene (R112). -/
structure SceneItem where
  channel : Nat
  level   : Nat
  fade    : Nat
  deriving DecidableEq, Repr

/-- The content of LIGHT_SET (R109): address kind 0 is a channel, 1 a group. -/
structure LightArgs where
  kind   : Nat
  number : Nat
  target : Nat
  fade   : Nat
  hold   : Nat
  deriving DecidableEq, Repr

/-- The content of SCHED_ADD (R148). -/
structure SchedArgs where
  due    : Nat
  action : Nat
  param  : Option Int
  period : Option Nat
  deriving DecidableEq, Repr

/-- The content of CAPTURE_ARM (R182). -/
structure ArmArgs where
  desc       : Nat
  cause      : Nat
  quantities : List Nat
  count      : Nat
  start      : Nat
  deriving DecidableEq, Repr

/-- The content of DEMAND_DECLARE (R47). -/
structure DeclareArgs where
  entry     : Nat
  cls       : Nat
  currents  : List Int
  requested : Nat
  duty      : Nat
  deriving DecidableEq, Repr

/-- The commands, in the order of the table. -/
inductive Instr
  | powerOn (pins : Pins)
  | brownOut (pins : Pins)
  | restartReset (pins : Pins)
  | measurement (m : Samples)
  | sensorValid (input : Nat)
  | fullSync
  | restVoltageCorrection
  | lowCountLimit
  | hardCountLimit
  | clearCountLimit
  | chargeCountLimit
  | dozeTimerExpiry
  | ignChange (on : Bool)
  | budgetTimerExpiry
  | precheckExpiry
  | preheatExpiry
  | igniteExpiry
  | rampExpiry
  | controlPeriodEnd
  | idleStop
  | flameOut
  | purgeMinimumExpiry
  | purgeTimeout
  | fixedPurgeEnd
  | frostRetryExpiry
  | minOnExpiry
  | minOffExpiry
  | quietRunEnd
  | stallCountClear
  | blindRunEnd
  | pauseExpiry
  | compFault (asserted : Bool)
  | backoffExpiry
  | blindOffExpiry
  | minuteTimerExpiry
  | warmConditionRaised
  | fadeStep
  | flashStep
  | doorChange (isOpen : Bool)
  | doorTimerExpiry
  | buttonChange (button : Button) (pressed : Bool)
  | longPress (button : Button)
  | secondTimer
  | fullQualification
  | splitQualification
  | breakDue
  | breakOverdue
  | scheduleFiring
  | refreshTimerExpiry
  | soundingTimeExpiry (kind : Nat)
  | reSoundExpiry (kind : Nat)
  | burstStart
  | burstBoundary
  | receiveByte (byte : Byte)
  | gapTimerExpiry
  | frameSent
  | serviceChange (high : Bool)
  | settingsSaveComplete
  | stateWriteComplete
  | hourlyStateTimer
  | unknownRequest (tag code : Byte)
  | status (tag : Byte)
  | readings (tag : Byte)
  | heatStart (tag : Byte)
  | heatStop (tag : Byte)
  | heatSet (tag : Byte) (args : HeatArgs)
  | coolSet (tag : Byte) (args : CoolArgs)
  | lightSet (tag : Byte) (args : LightArgs)
  | sceneRecall (tag : Byte) (scene : Nat)
  | lightSave (tag : Byte)
  | lightRestore (tag : Byte)
  | activity (tag : Byte) (code : Nat)
  | restPlan (tag : Byte) (wake : Nat)
  | alertAck (tag : Byte) (kind : Nat)
  | alertAckSettings (tag : Byte) (channel : Nat)
  | reportGate (tag : Byte) (gate clear : Nat)
  | clockSet (tag : Byte) (time : Nat)
  | clockSetSettings (tag : Byte) (settings : RestSettings)
  | schedAdd (tag : Byte) (args : SchedArgs)
  | schedRemove (tag : Byte) (slot : Nat)
  | schedList (tag : Byte) (start : Nat)
  | logWindow (tag : Byte) (first last : Nat)
  | logRead (tag : Byte)
  | sceneStore (tag : Byte) (scene : Nat) (items : List SceneItem)
  | groupSetGroup (tag : Byte) (group : Nat) (members : Byte)
  | groupSetChannel (tag : Byte) (currents : List Int) (quietCap : Nat)
  | causeLevel (tag : Byte) (cause level : Nat)
  | causeLevelSettings (tag : Byte) (mask threshold : Nat)
  | captureArm (tag : Byte) (args : ArmArgs)
  | captureRead (tag : Byte) (desc index : Nat)
  | captureFree (tag : Byte) (desc : Nat)
  | heatTableRead (tag : Byte)
  | heatTableWrite (tag : Byte) (rows : List LevelRow)
  | demandDeclare (tag : Byte) (args : DeclareArgs)
  | demandRelease (tag : Byte) (entry : Nat)
  | budgetRead (tag : Byte)
  | linkStats (tag : Byte) (clear : Nat)
  | settingsSave (tag : Byte)
  | heatClearLockout (tag : Byte)
  | batterySet (tag : Byte) (params : BatteryParams)
  | chargeSet (tag : Byte) (charge : Nat)
  | ocvSet (tag : Byte) (voltages : List Nat)
  | sensorTrim (tag : Byte) (input : Nat) (offset : Int)
  | defaults (tag : Byte)
  | restart (tag : Byte)
  | beepPhase
  deriving DecidableEq, Repr

end Sys2Proof
end

