-- ==== Sys2Proof/Decode.lean ====
section
/-! DEFINITION. The commands as the table's words: the table gives no row bits. -/

namespace Sys2Proof

/-- The command that a word spells by the table's bits. No row of spec/opcode_table.json gives bits, so none does. -/
def decodeTableWord (_nbits _w : Nat) : Option Instr := none

end Sys2Proof
end

