-- ==== Sys2Proof/Config.lean ====
section
/-! DEFINITION. The values the spec leaves open. Each is a constant without a body, so that no proof can rest on what it is.
The first argument of the per-event ones is the model's own event counter (`State.free`), which every event advances. -/

namespace Sys2Proof.Config

/-- The trimmed sample that SENSOR_FAULT carries when the input's conversion failed: R5 says only that such a sample is out
of range. Arguments: the event counter, the input's number. (Assumption log 20.) -/
opaque failedSample : Nat → Nat → Int

/-- The figure that READINGS shows before the first measurement for V, I, A or a figure of R15, and that a floor report shows
for V or I then: R26 gives them no value. Arguments: the event counter, the figure's place in R25. (Assumption log 21.) -/
opaque unmeasuredFigure : Nat → Nat → Int

/-- The byte that stands for UNASSESSED in a granted-level field: R47 and R50 name the value and give it no code.
(Assumption log 22.) -/
opaque unassessedCode : Byte

end Sys2Proof.Config
end

