-- ==== Sys2Proof/Machine/Types.lean ====
section
/-! DEFINITION. The names and records the blocks' state is made of: one enumeration per table of states, reasons or kinds,
each in the order of the rule's table (R191 numbers them by that order). -/

namespace Sys2Proof.Machine

/-! ### CHG -/

/-- The part mode (R2, R19 to R21). -/
inductive PartMode
  | active
  | doze
  | hibernate
  deriving DecidableEq, Repr

/-- The floor state (R16). -/
inductive Floor
  | clear
  | critical
  | cutoff
  deriving DecidableEq, Repr

/-- The validity condition of a temperature input (R6). -/
inductive TempCond
  | starting
  | valid
  | faulted
  deriving DecidableEq, Repr

/-- A temperature input: condition, run of in-range samples, published value, latest in-range sample of the run (R6). -/
structure TempInput where
  cond   : TempCond
  run    : Nat
  value  : Option Int
  sample : Option Int
  deriving DecidableEq, Repr

/-- The figures of R15, in the order R25 lists them, with the available charge A. -/
structure Figures where
  qd        : Nat
  k         : Nat
  coldSteps : Nat
  reserve   : Nat
  u         : Nat
  a         : Nat
  deriving DecidableEq, Repr

/-! ### DMD -/

/-- The budget state (R40). -/
inductive Budget
  | normal
  | trimmed
  | critical
  | cutoff
  deriving DecidableEq, Repr

/-- The owner of a demand entry (R27). -/
inductive Owner
  | htr
  | clr
  | lgt
  | host
  deriving DecidableEq, Repr

/-- One demand entry (R27). Its number is its position and its level count the number of its level currents. -/
structure Entry where
  owner       : Owner
  cls         : Nat
  currents    : List Int
  requested   : Nat
  duty        : Nat
  startCharge : Option Nat
  granted     : Option Nat
  deriving DecidableEq, Repr

/-- What ran a pass (R33, R41). -/
inductive Trigger
  | timer
  | demand
  | entryAdded
  | entryRemoved
  | floor
  | ign
  | rest
  | battery
  | firstA
  deriving DecidableEq, Repr

/-- Which of the three ways a pass took (R41). -/
inductive Way
  | cutoff
  | ignition
  | walk
  deriving DecidableEq, Repr

/-- What a pass records of one entry (R41): the position it stands for, and its three values. -/
structure PassEntry where
  number    : Nat
  requested : Nat
  granted   : Nat
  need      : Nat
  deriving DecidableEq, Repr

/-- The last pass results (R41). -/
structure PassResult where
  time         : Nat
  trigger      : Trigger
  way          : Way
  a            : Nat
  floor        : Floor
  ign          : Bool
  h            : Nat
  eNeed        : Nat
  b            : Nat
  br           : Nat
  sum          : Nat
  firstTrimmed : Option Nat
  entries      : List PassEntry
  state        : Budget
  deriving DecidableEq, Repr

/-- A demand update (R29): the class and the start charge are carried for the HEATER entry only. -/
structure Demand where
  requested   : Nat
  currents    : List Int
  duty        : Nat
  cls         : Option Nat
  startCharge : Option (Option Nat)
  deriving DecidableEq, Repr

/-! ### HTR -/

/-- The sequencer state (R52). -/
inductive HeaterState
  | off
  | precheck
  | preheat
  | ignite
  | ramp
  | run
  | purge
  | wait
  | lockout
  deriving DecidableEq, Repr

/-- The fault codes (R70). -/
inductive HeaterFault
  | f1
  | f2
  | f3
  | f4
  | f5
  | f6
  | f7
  | f8
  | f9
  deriving DecidableEq, Repr

/-- The reason HEATER_STATE carries (R53). -/
inductive HeaterReason
  | host
  | schedule
  | frost
  | thermostat
  | fault
  | noBudget
  | none
  deriving DecidableEq, Repr

/-- The destination of a purge (R66). -/
inductive PurgeDest
  | preheat
  | off
  | wait
  | lockout
  deriving DecidableEq, Repr

/-- The kind of a purge (R66, R67). -/
inductive PurgeKind
  | normal
  | fixed
  deriving DecidableEq, Repr

/-- The bias of the step counter (R63). -/
inductive Bias
  | raise
  | lower
  deriving DecidableEq, Repr

/-- The heater profile (R80). -/
structure HeatProfile where
  setpoint     : Int
  deadband     : Int
  maxLevel     : Nat
  quietCap     : Nat
  frostGuard   : Bool
  frostLimit   : Int
  flamePresent : Int
  vHeat        : Nat
  startCharge  : Nat
  mLo          : Nat
  mHi          : Nat
  deriving DecidableEq, Repr

/-- The four heater outputs (R52). A pump rate or a fan duty of 0 is off. -/
structure HeaterOut where
  glow   : Bool
  pump   : Nat
  burner : Nat
  air    : Nat
  deriving DecidableEq, Repr

/-- The heater items of the State area (R197). -/
structure Retained where
  lockout  : Bool
  failures : Nat
  overheats : Nat
  fault    : Option HeaterFault
  deriving DecidableEq, Repr

/-- The purge in progress (R66): `startUp` marks one entered by R83. -/
structure Purge where
  dest    : PurgeDest
  kind    : PurgeKind
  time    : Nat
  startUp : Bool
  deriving DecidableEq, Repr

/-- What CHG hands HTR at a measurement (R25, R83). -/
structure HeaterReadings where
  dt               : Nat
  flame            : Option Int
  overheat         : Option Int
  cabin            : Option Int
  volts            : Nat
  flameStarting    : Bool
  overheatStarting : Bool
  flameSample      : Option Int
  deriving DecidableEq, Repr

/-! ### CLR -/

/-- The cooler state (R84). -/
inductive CoolerState
  | disabled
  | idle
  | waitOff
  | running
  | pause
  | backoff
  | shed
  | faulted
  deriving DecidableEq, Repr

/-- The reason COOLER_STATE carries (R100). -/
inductive CoolerReason
  | thermostat
  | grant
  | cutoff
  | quiet
  | stall
  | timer
  | blind
  | host
  | schedule
  deriving DecidableEq, Repr

/-- The cooler settings (R98). -/
structure CoolSettings where
  enable   : Bool
  setpoint : Int
  band     : Int
  hostMax  : Nat
  offset   : Int
  qRun     : Nat
  qPause   : Nat
  currents : List Int
  deriving DecidableEq, Repr

/-! ### LGT -/

/-- A flash override (R118): the pattern, its phase and the steps left in the phase. -/
structure Flash where
  level    : Nat
  onSteps  : Nat
  offSteps : Nat
  onPhase  : Bool
  left     : Nat
  deriving DecidableEq, Repr

/-- One light channel (R102). Its level is computed from the fine level. -/
structure Channel where
  fine   : Nat
  target : Nat
  steps  : Nat
  held   : Bool
  flash  : Option Flash
  output : Nat
  deriving DecidableEq, Repr

/-- The owner of a light stack frame (R114). -/
inductive FrameOwner
  | host
  | flash (channel : Nat)
  deriving DecidableEq, Repr

/-- A frame of the light stack (R114). -/
structure Frame where
  owner   : FrameOwner
  targets : List Nat
  helds   : List Bool
  deriving DecidableEq, Repr

/-- What LGT knows of a button (R121): `blocked` is pressed since the reset and not yet seen released, `longTaken` is still
down after its long press. -/
inductive ButtonState
  | blocked
  | released
  | pressed
  | longTaken
  deriving DecidableEq, Repr

/-! ### RCL -/

/-- The driver's activity (R126). -/
inductive Activity
  | drive
  | work
  | available
  | rest
  deriving DecidableEq, Repr

/-- The qualified marker of a break run (R126). -/
inductive Marker
  | none
  | split
  | full
  deriving DecidableEq, Repr

/-- The period in progress (R126). -/
structure Period where
  activity : Activity
  start    : Nat
  duration : Nat
  deriving DecidableEq, Repr

/-- The break run in progress (R126). -/
structure BreakRun where
  start     : Nat
  length    : Nat
  rest      : Nat
  available : Nat
  marker    : Marker
  deriving DecidableEq, Repr

/-- The rest record (R133). -/
structure RestRecord where
  start   : Nat
  length  : Nat
  wake    : Nat
  planned : Bool
  deriving DecidableEq, Repr

/-- The class of a closed rest record (R135). -/
inductive RestClass
  | regular
  | reduced
  | brk
  | short
  deriving DecidableEq, Repr

/-- The class of a BREAK_RUN log record, in the order of Table 10-4 (R139). -/
inductive LogClass
  | short
  | splitFirst
  | splitSecond
  | brk
  | reduced
  | regular
  deriving DecidableEq, Repr

/-- The kind of a log record, with the fields only that kind has (R139). -/
inductive LogKind
  | drive (accumulator : Nat)
  | work
  | breakRun (rest available : Nat) (cls : LogClass) (wake : Option Nat)
  deriving DecidableEq, Repr

/-- A log record (R139). -/
structure LogRecord where
  serial   : Nat
  kind     : LogKind
  start    : Nat
  duration : Nat
  deriving DecidableEq, Repr

/-- The log readout window and its cursor (R141). -/
structure Window where
  first  : Nat
  last   : Nat
  cursor : Nat
  deriving DecidableEq, Repr

/-! ### SCH -/

/-- The eleven schedule actions (R147). -/
inductive Action
  | preheatStart
  | heatStop
  | coolEnable
  | coolDisable
  | prechillBegin
  | scene
  | wakeLight
  | quietBegin
  | quietEnd
  | wakeAlarm
  | userAlarm
  deriving DecidableEq, Repr

/-- Why an owner refuses an action (R152), in the order of the codes of R191. -/
inductive Refuse
  | state
  | range
  | noBudget
  | held
  deriving DecidableEq, Repr

/-- A schedule entry (R145). Its slot is its position and its origin follows from the slot. -/
structure SchedEntry where
  due       : Nat
  action    : Action
  param     : Option Int
  period    : Option Nat
  insertion : Nat
  late      : Bool
  deriving DecidableEq, Repr

/-- The firing in progress between its delivery and its owner's answer (R152); `sweep` says whether the sweep goes on. -/
structure Firing where
  slot  : Nat
  entry : SchedEntry
  sweep : Bool
  deriving DecidableEq, Repr

/-! ### ALR -/

/-- The state of an alert record (R162). -/
inductive AlertState
  | inactive
  | sounding
  | held
  | silenced
  deriving DecidableEq, Repr

/-- One alert record (R161). Its kind is its position. -/
structure AlertRecord where
  state    : AlertState
  raised   : Bool
  sounding : Nat
  resound  : Option Nat
  deriving DecidableEq, Repr

/-- The phase of the owner's pattern (R167): beep `n` (from 1) of a burst, on or off, or the gap between bursts. -/
inductive BuzzPhase
  | silent
  | beep (n : Nat) (on : Bool)
  | gap
  deriving DecidableEq, Repr

/-! ### RPQ -/

/-- An entry of the report queue (R176). `since` counts the posts since the take of an entry in flight and `sinceFirst` is
the time of the first of them; the reposted mark of R180 is `since > 0`. -/
structure QEntry where
  cause      : Nat
  level      : Nat
  count      : Nat
  firstTime  : Nat
  lastTime   : Nat
  data       : List Byte
  inFlight   : Bool
  since      : Nat
  sinceFirst : Nat
  deriving DecidableEq, Repr

/-- The state of a capture descriptor (R182). -/
inductive DescState
  | free
  | armed
  | done
  deriving DecidableEq, Repr

/-- A capture descriptor (R182). -/
structure Desc where
  state      : DescState
  cause      : Nat
  quantities : List Nat
  count      : Nat
  start      : Nat
  taken      : Nat
  deriving DecidableEq, Repr

/-- A capture record (R183). -/
structure CapRecord where
  time   : Nat
  values : List Int
  deriving DecidableEq, Repr

/-! ### LNK -/

/-- The frame assembler (R188): `body` holds the kept bytes in order. -/
inductive Assembler
  | hunt
  | length
  | body (len : Nat) (kept : List Byte)
  | check (len : Nat) (kept : List Byte)
  deriving DecidableEq, Repr

/-- A completed reply (R189, R190). -/
structure Reply where
  kind   : Byte
  tag    : Byte
  status : Nat
  body   : List Byte
  deriving DecidableEq, Repr

/-- What the transmitter is sending (R193): part `n` of the reply in the earlier-filled slot, or a report. -/
inductive Tx
  | idle
  | reply (part : Nat)
  | report
  deriving DecidableEq, Repr

/-- Which link error is struck (R194). -/
inductive LinkError
  | gap
  | length
  | crc
  | overrun
  deriving DecidableEq, Repr

/-! ### STO -/

/-- The reset kinds (R201). -/
inductive ResetKind
  | powerOn
  | brownOut
  | restart
  deriving DecidableEq, Repr

/-- How far the State write that a RESTART requested has come (R202): a write before it in progress, its own in progress, the one
that was pending behind it in progress, all of them completed. -/
inductive RestartStage
  | none
  | ahead
  | own
  | behind
  | done
  deriving DecidableEq, Repr

/-- The fields of the Settings area (R197). -/
structure Settings where
  battery      : BatteryParams
  ocv          : List Nat
  trims        : List Int
  profile      : HeatProfile
  table        : List LevelRow
  cooler       : CoolSettings
  groups       : List Byte
  fullCurrents : List Int
  quietLight   : Nat
  scenes       : List (List SceneItem)
  levels       : List Nat
  mask         : Nat
  threshold    : Nat
  rest         : RestSettings
  alertChannel : Nat
  deriving DecidableEq, Repr

/-- The fields of the State area (R197). -/
structure Saved where
  heater : Retained
  q      : Nat
  deriving DecidableEq, Repr

/-- A written area: its fields and the stored CRC-16 (R197). -/
structure Area (α : Type) where
  fields : α
  crc    : Word16
  deriving DecidableEq, Repr

/-! ### The requests (R190, R192, 10.4) -/

/-- The reply statuses, in the order of their codes (R190). -/
inductive Status
  | ok
  | accepted
  | clamped
  | range
  | state
  | full
  | denied
  | busy
  | noBudget
  | unknown
  deriving DecidableEq, Repr

/-- A well-formed request with its content. -/
inductive Request
  | status
  | readings
  | heatStart
  | heatStop
  | heatSet (args : HeatArgs)
  | coolSet (args : CoolArgs)
  | lightSet (args : LightArgs)
  | sceneRecall (scene : Nat)
  | lightSave
  | lightRestore
  | activity (code : Nat)
  | restPlan (wake : Nat)
  | alertAck (kind : Nat)
  | alertChannel (channel : Nat)
  | reportGate (gate clear : Nat)
  | clockSet (time : Nat)
  | restSettings (settings : RestSettings)
  | schedAdd (args : SchedArgs)
  | schedRemove (slot : Nat)
  | schedList (start : Nat)
  | logWindow (first last : Nat)
  | logRead
  | sceneStore (scene : Nat) (items : List SceneItem)
  | groupSet (group : Nat) (members : Byte)
  | channelSet (currents : List Int) (quietCap : Nat)
  | causeLevel (cause level : Nat)
  | levelMask (mask threshold : Nat)
  | captureArm (args : ArmArgs)
  | captureRead (desc index : Nat)
  | captureFree (desc : Nat)
  | tableRead
  | tableWrite (rows : List LevelRow)
  | demandDeclare (args : DeclareArgs)
  | demandRelease (entry : Nat)
  | budgetRead
  | linkStats (clear : Nat)
  | settingsSave
  | clearLockout
  | batterySet (params : BatteryParams)
  | chargeSet (charge : Nat)
  | ocvSet (voltages : List Nat)
  | sensorTrim (input : Nat) (offset : Int)
  | defaults
  | restart
  deriving DecidableEq, Repr

end Sys2Proof.Machine
end

