-- ==== Sys2Proof/Machine/Bytes.lean ====
section
/-! DEFINITION. Bytes of messages: field encodings and enumeration codes (R191), the link CRC and frames (R187), the CRC of
the retained areas (R197), and reading a payload's fields. -/

namespace Sys2Proof.Machine

/-! ### Writing fields (00 5.2: most significant byte first) -/

/-- The low `n` bytes of `x`, two's complement, most significant first. -/
def beBytes : Nat → Int → List Byte
  | 0, _ => []
  | n + 1, x => BitVec.ofInt 8 (x / (256 ^ n : Nat)) :: beBytes n x

def u8 (x : Nat) : List Byte := beBytes 1 x
def u16 (x : Nat) : List Byte := beBytes 2 x
def u32 (x : Nat) : List Byte := beBytes 4 x
def s16 (x : Int) : List Byte := beBytes 2 x
def s32 (x : Int) : List Byte := beBytes 4 x

/-- A flag or a choice between two values: 1 for the second of R191's pairs (R191). -/
def flagByte (b : Bool) : List Byte := [if b then 1 else 0]

/-- An optional field: a presence byte, then the field (R191). -/
def optField {α : Type} (enc : α → List Byte) : Option α → List Byte
  | none => [0]
  | some x => 1 :: enc x

/-- A list of varying length: its count, then its items (R191). -/
def listField {α : Type} (enc : α → List Byte) (l : List α) : List Byte :=
  u8 l.length ++ l.flatMap enc

/-- A temperature reads -32,768 when invalid (R195, R25), in reports as well (log 46). -/
def tempField (t : Option Int) : List Byte := s16 (t.getD (-32768))

/-- A timer as the whole seconds it has left, 0 when stopped (R191). -/
def timerField (t : Option Nat) : List Byte := u32 (t.getD 0)

/-! ### Enumeration codes (R191: numbered from 0 in the order of the owning rule's table) -/

def PartMode.code : PartMode → Nat
  | .active => 0 | .doze => 1 | .hibernate => 2

def Floor.code : Floor → Nat
  | .clear => 0 | .critical => 1 | .cutoff => 2

def Budget.code : Budget → Nat
  | .normal => 0 | .trimmed => 1 | .critical => 2 | .cutoff => 3

def Owner.code : Owner → Nat
  | .htr => 0 | .clr => 1 | .lgt => 2 | .host => 3

def Trigger.code : Trigger → Nat
  | .timer => 0 | .demand => 1 | .entryAdded => 2 | .entryRemoved => 3 | .floor => 4 | .ign => 5 | .rest => 6
  | .battery => 7 | .firstA => 8

def Way.code : Way → Nat
  | .cutoff => 0 | .ignition => 1 | .walk => 2

def HeaterState.code : HeaterState → Nat
  | .off => 0 | .precheck => 1 | .preheat => 2 | .ignite => 3 | .ramp => 4 | .run => 5 | .purge => 6 | .wait => 7
  | .lockout => 8

/-- 0 none, 1 to 9 for F1 to F9 (Table 10-6). -/
def faultCode : Option HeaterFault → Nat
  | none => 0
  | some .f1 => 1 | some .f2 => 2 | some .f3 => 3 | some .f4 => 4 | some .f5 => 5 | some .f6 => 6 | some .f7 => 7
  | some .f8 => 8 | some .f9 => 9

def HeaterReason.code : HeaterReason → Nat
  | .host => 0 | .schedule => 1 | .frost => 2 | .thermostat => 3 | .fault => 4 | .noBudget => 5 | .none => 6

def CoolerState.code : CoolerState → Nat
  | .disabled => 0 | .idle => 1 | .waitOff => 2 | .running => 3 | .pause => 4 | .backoff => 5 | .shed => 6 | .faulted => 7

def CoolerReason.code : CoolerReason → Nat
  | .thermostat => 0 | .grant => 1 | .cutoff => 2 | .quiet => 3 | .stall => 4 | .timer => 5 | .blind => 6 | .host => 7
  | .schedule => 8

def Activity.code : Activity → Nat
  | .drive => 0 | .work => 1 | .available => 2 | .rest => 3

def Marker.code : Marker → Nat
  | .none => 0 | .split => 1 | .full => 2

def RestClass.code : RestClass → Nat
  | .regular => 0 | .reduced => 1 | .brk => 2 | .short => 3

def LogClass.code : LogClass → Nat
  | .short => 0 | .splitFirst => 1 | .splitSecond => 2 | .brk => 3 | .reduced => 4 | .regular => 5

def Action.code : Action → Nat
  | .preheatStart => 0 | .heatStop => 1 | .coolEnable => 2 | .coolDisable => 3 | .prechillBegin => 4 | .scene => 5
  | .wakeLight => 6 | .quietBegin => 7 | .quietEnd => 8 | .wakeAlarm => 9 | .userAlarm => 10

/-- The action a code names (R147, R148). -/
def Action.ofCode : Nat → Option Action
  | 0 => some .preheatStart | 1 => some .heatStop | 2 => some .coolEnable | 3 => some .coolDisable
  | 4 => some .prechillBegin | 5 => some .scene | 6 => some .wakeLight | 7 => some .quietBegin | 8 => some .quietEnd
  | 9 => some .wakeAlarm | 10 => some .userAlarm | _ => none

def Activity.ofCode : Nat → Option Activity
  | 0 => some .drive | 1 => some .work | 2 => some .available | 3 => some .rest | _ => none

def Refuse.code : Refuse → Nat
  | .state => 0 | .range => 1 | .noBudget => 2 | .held => 3

def AlertState.code : AlertState → Nat
  | .inactive => 0 | .sounding => 1 | .held => 2 | .silenced => 3

def DescState.code : DescState → Nat
  | .free => 0 | .armed => 1 | .done => 2

def ResetKind.code : ResetKind → Nat
  | .powerOn => 0 | .brownOut => 1 | .restart => 2

def LinkError.code : LinkError → Nat
  | .gap => 0 | .length => 1 | .crc => 2 | .overrun => 3

def Status.code : Status → Nat
  | .ok => 0 | .accepted => 1 | .clamped => 2 | .range => 3 | .state => 4 | .full => 5 | .denied => 6 | .busy => 7
  | .noBudget => 8 | .unknown => 9

/-! ### The link CRC and frames (R187) -/

/-- One bit into the CRC register: shift, and combine with 0x2F when the register's top bit differs from the data bit. -/
def crc8Bit (reg : Byte) (bit : Bool) : Byte :=
  if reg.msb != bit then (reg <<< 1) ^^^ 0x2F#8 else reg <<< 1

/-- One byte into the CRC register, from its most significant bit. -/
def crc8Byte (reg b : Byte) : Byte :=
  [7, 6, 5, 4, 3, 2, 1, 0].foldl (fun r i => crc8Bit r (b.getLsbD i)) reg

/-- The CRC over the bytes, the register preset to 0xFF (R187). -/
def crc8 (bytes : List Byte) : Byte := bytes.foldl crc8Byte 0xFF#8

/-- A frame: SYNC, LEN, KIND, TAG, payload, CRC (R187, Table 10-1). -/
def frameOf (kind tag : Byte) (payload : List Byte) : List Byte :=
  let covered := BitVec.ofNat 8 (payload.length + 2) :: kind :: tag :: payload
  0x5A#8 :: covered ++ [crc8 covered]

/-- The number of parts of a reply body: 54 bytes each, at least one part (R190). -/
def partCount (body : List Byte) : Nat := max 1 ((body.length + 53) / 54)

/-- The frame of part `n` of a reply (R190, Table 10-2). -/
def replyFrame (r : Reply) (n : Nat) : List Byte :=
  let lastBit := if n + 1 = partCount r.body then 128 else 0
  frameOf r.kind r.tag (u8 r.status ++ u8 (n + lastBit) ++ (r.body.drop (54 * n)).take 54)

/-- A report frame: KIND 0xC0, TAG 0, and the payload of Table 10-3 (R193). -/
def reportFrame (e : QEntry) : List Byte :=
  frameOf 0xC0#8 0#8 (u8 e.cause ++ u8 e.level ++ u8 e.count ++ u32 e.firstTime ++ u32 e.lastTime ++ e.data)

/-! ### The CRC of the retained areas (R197) -/

/-- One bit into the CRC-16 register, generator x^16 + x^12 + x^5 + 1. -/
def crc16Bit (reg : Word16) (bit : Bool) : Word16 :=
  if reg.msb != bit then (reg <<< 1) ^^^ 0x1021#16 else reg <<< 1

def crc16Byte (reg : Word16) (b : Byte) : Word16 :=
  [7, 6, 5, 4, 3, 2, 1, 0].foldl (fun r i => crc16Bit r (b.getLsbD i)) reg

/-- The CRC-16 over an area's field bytes, preset 0xFFFF, no final inversion (R197). -/
def crc16 (bytes : List Byte) : Word16 := bytes.foldl crc16Byte 0xFFFF#16

/-! ### Field groups used by replies and by the areas -/

/-- The heater profile in HEAT_SET's payload order (R80). -/
def profileBytes (p : HeatProfile) : List Byte :=
  s16 p.setpoint ++ s16 p.deadband ++ u8 p.maxLevel ++ u8 p.quietCap ++ flagByte p.frostGuard ++ s16 p.frostLimit ++
    s16 p.flamePresent ++ u16 p.vHeat ++ u32 p.startCharge ++ u8 p.mLo ++ u8 p.mHi

/-- The cooler settings in COOL_SET's payload order (R98). -/
def coolBytes (c : CoolSettings) : List Byte :=
  flagByte c.enable ++ s16 c.setpoint ++ s16 c.band ++ u8 c.hostMax ++ s16 c.offset ++ u32 c.qRun ++ u32 c.qPause ++
    c.currents.flatMap s16

/-- A level table, level by level (R76). -/
def tableBytes (t : List LevelRow) : List Byte :=
  t.flatMap fun r => u16 r.pump ++ u16 r.burner ++ u16 r.air ++ s16 r.current

def batteryBytes (b : BatteryParams) : List Byte :=
  u32 b.cNom ++ u16 b.e ++ u16 b.vFull ++ s16 b.iTail ++ u32 b.rBase ++ u32 b.rCold ++ u16 b.vCut ++ u16 b.vHard

def restBytes (r : RestSettings) : List Byte :=
  u32 r.splitFirst ++ u32 r.splitSecond ++ u32 r.breakMin ++ u32 r.driveLimit ++ u32 r.lead ++ u32 r.reducedMin ++
    u32 r.regularMin ++ u32 r.quietDelay ++ u32 r.hIdle

def itemBytes (i : SceneItem) : List Byte := u8 i.channel ++ u16 i.level ++ u16 i.fade

/-- The bytes of the Settings area's fields, in the order of R197's table (log 18). -/
def settingsBytes (s : Settings) : List Byte :=
  batteryBytes s.battery ++ s.ocv.flatMap u16 ++ s.trims.flatMap s16 ++ profileBytes s.profile ++ tableBytes s.table ++
    coolBytes s.cooler ++ s.groups ++ s.fullCurrents.flatMap s16 ++ u16 s.quietLight ++
    s.scenes.flatMap (listField itemBytes) ++ s.levels.flatMap u8 ++ u8 s.mask ++ u8 s.threshold ++ restBytes s.rest ++
    u8 s.alertChannel

/-- The bytes of the State area's fields, in the order of R197's table (log 18). -/
def savedBytes (s : Saved) : List Byte :=
  flagByte s.heater.lockout ++ u8 s.heater.failures ++ u8 s.heater.overheats ++ u8 (faultCode s.heater.fault) ++ u32 s.q

/-- A written Settings area: the fields followed by their CRC (R197). -/
def writeSettings (s : Settings) : Area Settings := ⟨s, crc16 (settingsBytes s)⟩

/-- A written State area (R197). -/
def writeSaved (s : Saved) : Area Saved := ⟨s, crc16 (savedBytes s)⟩

/-- The Settings area's fields when it is valid: its stored CRC matches them (R197). -/
def readSettings : Option (Area Settings) → Option Settings
  | some a => if a.crc = crc16 (settingsBytes a.fields) then some a.fields else none
  | none => none

/-- The State area's fields when it is valid (R197). -/
def readSaved : Option (Area Saved) → Option Saved
  | some a => if a.crc = crc16 (savedBytes a.fields) then some a.fields else none
  | none => none

/-! ### Reading a payload -/

/-- The unsigned number that starts a payload in `n` bytes, and the rest. -/
def takeNat : Nat → List Byte → Option (Nat × List Byte)
  | 0, l => some (0, l)
  | _ + 1, [] => none
  | n + 1, b :: l =>
    match takeNat n l with
    | some (x, rest) => some (b.toNat * 256 ^ n + x, rest)
    | none => none

/-- The signed 16-bit number that starts a payload, and the rest. -/
def takeS16 (l : List Byte) : Option (Int × List Byte) :=
  match takeNat 2 l with
  | some (x, rest) => some (if x < 32768 then (x : Int) else (x : Int) - 65536, rest)
  | none => none

/-- `n` items read one after another by `item`. -/
def takeMany {α : Type} (item : List Byte → Option (α × List Byte)) : Nat → List Byte → Option (List α × List Byte)
  | 0, l => some ([], l)
  | n + 1, l =>
    match item l with
    | some (x, rest) =>
      match takeMany item n rest with
      | some (xs, rest') => some (x :: xs, rest')
      | none => none
    | none => none

/-- An optional field: its presence byte, 0 or 1, then the field (R191; log 19). -/
def takeOpt {α : Type} (item : List Byte → Option (α × List Byte)) (l : List Byte) : Option (Option α × List Byte) :=
  match takeNat 1 l with
  | some (0, rest) => some (none, rest)
  | some (1, rest) => (item rest).map fun (x, r) => (some x, r)
  | _ => none

end Sys2Proof.Machine
end

