-- ==== Sys2Proof/Machine/Messages.lean ====
section
/-! DEFINITION. The events each block takes (00 5.4): what a command brings to it, and what other blocks hand on to it. A
message names the block and carries the event; the machine takes messages in the order in which they were handed on. -/

namespace Sys2Proof.Machine

/-- Events at CHG. `stir` is a link byte or a post (R19, R20), `wake` another of the events that end DOZE (R20), `review` a
change of a part-mode condition (R19, R21). -/
inductive ChgEv
  | measure (m : Samples)
  | sensorValid (input : Nat)
  | fullSync
  | restCorrection
  | lowLimit
  | hardLimit
  | clearLimit
  | chargeLimit
  | dozeExpiry
  | ign (on : Bool)
  | second
  | review
  | wake
  | stir
  | batterySet (params : BatteryParams)
  | chargeSet (charge : Nat)
  | ocvSet (voltages : List Nat)
  | sensorTrim (input : Nat) (offset : Int)
  | defaults
  deriving DecidableEq, Repr

/-- Events at DMD. -/
inductive DmdEv
  | update (number : Nat) (demand : Demand)
  | figures (a : Nat) (floor : Floor)
  | battery (a : Nat)
  | floor (floor : Floor)
  | ign (on : Bool)
  | rest (wake : Option Nat)
  | budgetExpiry
  | second
  | declare (args : DeclareArgs)
  | release (entry : Nat)
  | read
  deriving DecidableEq, Repr

/-- Events at HTR. -/
inductive HtrEv
  | measured (r : HeaterReadings)
  | second
  | precheckExpiry
  | preheatExpiry
  | igniteExpiry
  | rampExpiry
  | controlPeriod
  | idleStop
  | flameOut
  | purgeMinimum
  | purgeTimeout
  | fixedPurge
  | frostRetry
  | frostStart
  | grant (level : Nat) (budget : Budget)
  | quiet
  | start
  | stop
  | set (args : HeatArgs)
  | tableRead
  | tableWrite (rows : List LevelRow)
  | clearLockout
  | defaults
  | act (action : Action) (param : Option Int)
  deriving DecidableEq, Repr

/-- Events at CLR. -/
inductive ClrEv
  | measured (dt : Nat) (cabinet : Option Int)
  | second
  | minOnExpiry
  | minOffExpiry
  | quietRunEnd
  | stallClear
  | blindRunEnd
  | pauseExpiry
  | compFault (asserted : Bool)
  | backoffExpiry
  | blindOffExpiry
  | minuteExpiry
  | warmRaise
  | grant (level : Nat) (budget : Budget)
  | quiet (flag : Bool)
  | restClosed
  | set (args : CoolArgs)
  | defaults
  | act (action : Action) (param : Option Int)
  deriving DecidableEq, Repr

/-- Events at LGT. -/
inductive LgtEv
  | fadeStep
  | flashStep
  | door (isOpen : Bool)
  | doorExpiry
  | button (button : Button) (pressed : Bool)
  | longPress (button : Button)
  | second
  | grant (entry level : Nat) (budget : Budget)
  | quiet
  | flashStart (channel level onSteps offSteps : Nat)
  | flashCancel (channel : Nat)
  | set (args : LightArgs)
  | recall (scene : Nat)
  | save
  | restore
  | groupSet (group : Nat) (members : Byte)
  | channelSet (currents : List Int) (quietCap : Nat)
  | sceneStore (scene : Nat) (items : List SceneItem)
  | defaults
  | act (action : Action) (param : Option Int)
  deriving DecidableEq, Repr

/-- Events at RCL. -/
inductive RclEv
  | second
  | fullQualification
  | splitQualification
  | breakDue
  | breakOverdue
  | activity (code : Nat)
  | restPlan (wake : Nat)
  | clockSet (time : Nat)
  | settings (settings : RestSettings)
  | logWindow (first last : Nat)
  | logRead
  | defaults
  | act (action : Action)
  deriving DecidableEq, Repr

/-- Events at SCH. -/
inductive SchEv
  | sweep
  | fire
  | answer (refused : Option Refuse)
  | refreshExpiry
  | second
  | outside (reading : Option Int)
  | restOpened (start wake : Nat)
  | restWake (wake : Nat)
  | restClosed
  | clockSet (start : Option Nat)
  | add (args : SchedArgs)
  | remove (slot : Nat)
  | list (start : Nat)
  deriving DecidableEq, Repr

/-- Events at ALR. -/
inductive AlrEv
  | condition (kind : Nat) (raised : Bool)
  | raise (kind : Nat)
  | quiet (flag : Bool)
  | second
  | soundingExpiry (kind : Nat)
  | resoundExpiry (kind : Nat)
  | burstStart
  | boundary
  | beepPhase
  | ack (kind : Nat)
  | buttonAck
  | channel (channel : Nat)
  | defaults
  | act (action : Action)
  | flashAccepted
  | flashEnded (channel : Nat)
  deriving DecidableEq, Repr

/-- Events at RPQ. -/
inductive RpqEv
  | post (cause : Nat) (data : List Byte)
  | reportEnd
  | linkFree
  | clearMarks (carried : List Bool)
  | gate (gate clear : Nat)
  | level (cause level : Nat)
  | settings (mask threshold : Nat)
  | arm (args : ArmArgs)
  | read (desc index : Nat)
  | free (desc : Nat)
  | defaults
  deriving DecidableEq, Repr

/-- Events at LNK. -/
inductive LnkEv
  | byte (b : Byte)
  | gapExpiry
  | frameSent
  | service (high : Bool)
  | request (tag : Byte) (r : Request)
  | unknown (tag code : Byte)
  | reply (status : Status) (body : List Byte)
  | commit
  | sendReport (frame : List Byte)
  deriving DecidableEq, Repr

/-- Events at STO. -/
inductive StoEv
  | heater (items : Retained)
  | writeState
  | saveComplete
  | writeComplete
  | hourlyExpiry
  | second
  | save
  | defaults
  | restart
  deriving DecidableEq, Repr

/-- A message: the block it goes to and the event it brings there. -/
inductive Msg
  | chg (e : ChgEv)
  | dmd (e : DmdEv)
  | htr (e : HtrEv)
  | clr (e : ClrEv)
  | lgt (e : LgtEv)
  | rcl (e : RclEv)
  | sch (e : SchEv)
  | alr (e : AlrEv)
  | rpq (e : RpqEv)
  | lnk (e : LnkEv)
  | sto (e : StoEv)
  deriving DecidableEq, Repr

end Sys2Proof.Machine
end

