-- ==== Sys2Proof/Machine/Blocks.lean ====
section
/-! DEFINITION. The state each of the eleven blocks owns (00 2.1): one structure per block. -/

namespace Sys2Proof.Machine

/-- Charge Monitor (chapter 1). `figures`, `v`, `i` hold no value until the first measurement (R26). `syncDone` says that the
full sync of the present run of 60 measurements has been performed (R9). A timer is `none` when stopped and otherwise holds
the seconds it has left. `interval` is the length of the measurement interval in progress (R2). -/
structure Chg where
  battery   : BatteryParams
  ocv       : List Nat
  trims     : List Int
  q         : Nat
  r         : Int
  synced    : Bool
  syncCount : Nat
  syncDone  : Bool
  restTime  : Nat
  temps     : List TempInput
  tb        : Option Int
  figures   : Option Figures
  v         : Option Nat
  i         : Option Int
  floor     : Floor
  low       : Nat
  hard      : Nat
  clearCnt  : Nat
  charge    : Nat
  ign       : Bool
  mode      : PartMode
  doze      : Option Nat
  interval  : Nat
  deriving DecidableEq, Repr

/-- Demand Table (chapter 2), with its own copies of A, the floor state, IGN and the rest record's W (R32). -/
structure Dmd where
  entries  : List (Option Entry)
  budget   : Budget
  lastPass : Option PassResult
  timer    : Option Nat
  a        : Option Nat
  floor    : Floor
  ign      : Bool
  wake     : Option Nat
  deriving DecidableEq, Repr

/-- Heater Sequencer (chapter 3), with the readings it holds. `startUpDue` is the outstanding start-up check (R83);
`frostDeferred` puts a further frost start off to the next measurement (assumption log 11). -/
structure Htr where
  seq           : HeaterState
  level         : Nat
  timer         : Option Nat
  purge         : Purge
  attempts      : Nat
  restartUsed   : Bool
  reference     : Option Int
  sessionRun    : Nat
  sc            : Nat
  bias          : Bias
  samples       : Nat
  cold          : Nat
  warm          : Nat
  flameLow      : Nat
  idle          : Nat
  keep          : Retained
  frostFlag     : Bool
  frostLimited  : Bool
  frostRetry    : Option Nat
  frostDeferred : Bool
  table         : List LevelRow
  pendingTable  : Option (List LevelRow)
  profile       : HeatProfile
  grant         : Option Nat
  startUpDue    : Bool
  flame         : Option Int
  overheat      : Option Int
  cabin         : Option Int
  volts         : Option Nat
  out           : HeaterOut
  deriving DecidableEq, Repr

/-- Cooler Controller (chapter 4). `speed` is what COMP_SPD is driven at, 0 for off. The ring holds its filled buckets, the
oldest first. `posted` is the demand update last posted (R94, R95). `faultPin` is the level of COMP_FAULT. -/
structure Clr where
  state     : CoolerState
  call      : Bool
  prechill  : Bool
  compEn    : Bool
  speed     : Nat
  grant     : Option (Nat × Budget)
  minOn     : Option Nat
  minOff    : Option Nat
  runTime   : Nat
  pause     : Option Nat
  backoff   : Option Nat
  stalls    : Nat
  ring      : List Nat
  secondsOn : Nat
  minute    : Nat
  duty      : Nat
  warmTime  : Nat
  warm      : Bool
  blind     : Bool
  blindOff  : Option Nat
  settings  : CoolSettings
  posted    : Demand
  faultPin  : Bool
  deriving DecidableEq, Repr

/-- Light Engine (chapter 5). The stack is listed bottom first. -/
structure Lgt where
  channels     : List Channel
  stack        : List Frame
  cabGrant     : Option Nat
  safetyGrant  : Option Nat
  cabBudget    : Budget
  safetyBudget : Budget
  groups       : List Byte
  scenes       : List (List SceneItem)
  fullCurrents : List Int
  quietLight   : Nat
  doorOpen     : Bool
  doorTimer    : Option Nat
  btn1         : ButtonState
  btn2         : ButtonState
  postedCab    : Demand
  postedSafety : Demand
  deriving DecidableEq, Repr

/-- Rest Clock (chapter 6). The log is listed oldest first. -/
structure Rcl where
  cabTime    : Nat
  timeSet    : Bool
  period     : Period
  breakRun   : Option BreakRun
  acc        : Nat
  split      : Bool
  due        : Bool
  overdue    : Bool
  record     : Option RestRecord
  quiet      : Bool
  settings   : RestSettings
  log        : List LogRecord
  nextSerial : Nat
  window     : Option Window
  deriving DecidableEq, Repr

/-- Schedule Table (chapter 7), with its copies of the rest record (start stamp, W) and of OUTSIDE (R155). -/
structure Sch where
  slots   : List (Option SchedEntry)
  counter : Nat
  rest    : Option (Nat × Nat)
  outside : Option Int
  done    : List Bool
  refresh : Option Nat
  firing  : Option Firing
  deriving DecidableEq, Repr

/-- Alert Unit (chapter 8). `nextBurst` is the time to the next burst in ms, as it stood at the last change of phase. -/
structure Alr where
  records   : List AlertRecord
  owner     : Option Nat
  phase     : BuzzPhase
  nextBurst : Nat
  buzzer    : Bool
  flashFlag : Bool
  channel   : Nat
  deriving DecidableEq, Repr

/-- Report Queue (chapter 9). -/
structure Rpq where
  levels    : List Nat
  mask      : Nat
  threshold : Nat
  queue     : List QEntry
  gate      : Bool
  lost      : Nat
  marks     : List Bool
  attn      : Bool
  descs     : List Desc
  buffer    : List (Option CapRecord)
  deriving DecidableEq, Repr

/-- Link Interface (chapter 10). `slots` lists the filled reply slots, the one filled earlier first; `reserved` is the KIND
and TAG of the reply being completed and `answer` that reply once its owner has answered. `txFrame` is the frame on TXD. -/
structure Lnk where
  asm       : Assembler
  slots     : List Reply
  reserved  : Option (Byte × Byte)
  answer    : Option Reply
  tx        : Tx
  txFrame   : List Byte
  gapErrs   : Nat
  lenErrs   : Nat
  crcErrs   : Nat
  overruns  : Nat
  service   : Bool
  deriving DecidableEq, Repr

/-- Settings Store (chapter 11): the two non-volatile areas (`none` while a write is in progress or before the first one),
the snapshot being written, the State write in progress, HTR's items as last handed on, and the stage of a RESTART (R202). -/
structure Sto where
  settingsArea : Option (Area Settings)
  stateArea    : Option (Area Saved)
  saving       : Option Settings
  writing      : Option Saved
  writeAgain   : Bool
  hourly       : Nat
  items        : Retained
  restarting   : RestartStage
  deriving DecidableEq, Repr

end Sys2Proof.Machine
end

