-- ==== Sys2Proof/Machine/Defaults.lean ====
section
/-! DEFINITION. The default of every setting, as the blocks' chapters give it. -/

namespace Sys2Proof.Machine

/-- R22. -/
def defaultBattery : BatteryParams where
  cNom := 225000
  e := 950
  vFull := 27600
  iTail := 400
  rBase := 40000
  rCold := 10000
  vCut := 23400
  vHard := 22800

/-- R11. -/
def defaultOcv : List Nat := [23000, 23800, 24400, 24900, 25300, 25600]

/-- R5: no trim on any of the six inputs. -/
def defaultTrims : List Int := [0, 0, 0, 0, 0, 0]

/-- R80. -/
def defaultProfile : HeatProfile where
  setpoint := 200
  deadband := 5
  maxLevel := 4
  quietCap := 2
  frostGuard := true
  frostLimit := 50
  flamePresent := 900
  vHeat := 24000
  startCharge := 120
  mLo := 4
  mHi := 16

/-- R82. -/
def defaultTable : List LevelRow :=
  [⟨120, 350, 400, 90⟩, ⟨210, 520, 600, 140⟩, ⟨320, 720, 800, 200⟩, ⟨460, 1000, 1000, 280⟩]

/-- R98. -/
def defaultCooler : CoolSettings where
  enable := true
  setpoint := 40
  band := 30
  hostMax := 3
  offset := 20
  qRun := 600
  qPause := 600
  currents := [150, 220, 300]

/-- R110: groups 0 to 3, channel c in bit c. -/
def defaultGroups : List Byte := [0x03#8, 0xCF#8, 0x30#8, 0x00#8]

/-- 05 5.1. -/
def defaultFullCurrents : List Int := [40, 40, 60, 120, 10, 20, 30, 30]

/-- R111. -/
def defaultQuietLight : Nat := 300

/-- R112: scene 0 is the all-off scene, scenes 1 to 11 are empty. -/
def defaultScenes : List (List SceneItem) :=
  [⟨0, 0, 20⟩, ⟨1, 0, 20⟩, ⟨2, 0, 20⟩, ⟨3, 0, 20⟩, ⟨6, 0, 20⟩, ⟨7, 0, 20⟩] :: List.replicate 11 []

/-- 09 9.1: the levels of causes 1 to 33. -/
def defaultLevels : List Nat :=
  [0, 0, 1, 1, 2, 2, 3, 2, 3, 2, 2] ++ [4, 2, 1, 2, 4, 2, 5, 3, 2, 4, 5] ++ [5, 4, 6, 1, 1, 3, 6, 2, 5, 3, 3]

/-- R138. -/
def defaultRest : RestSettings where
  splitFirst := 900
  splitSecond := 1800
  breakMin := 2700
  driveLimit := 16200
  lead := 900
  reducedMin := 32400
  regularMin := 39600
  quietDelay := 900
  hIdle := 3600

/-- Every default of the Settings area (R197). -/
def defaultSettings : Settings where
  battery := defaultBattery
  ocv := defaultOcv
  trims := defaultTrims
  profile := defaultProfile
  table := defaultTable
  cooler := defaultCooler
  groups := defaultGroups
  fullCurrents := defaultFullCurrents
  quietLight := defaultQuietLight
  scenes := defaultScenes
  levels := defaultLevels
  mask := 7
  threshold := 2
  rest := defaultRest
  alertChannel := 4

end Sys2Proof.Machine
end

