-- ==== Sys2Proof/Machine/ResetValues.lean ====
section
/-! DEFINITION. The values each block takes at a reset of any kind (R26, R51, R82, R101, R124, R144, R160, R173, R185, R196,
R201), from the settings in use, the retained values in use and the pins. -/

namespace Sys2Proof.Machine

/-- A temperature input after a reset (R26). -/
def startingInput : TempInput := ⟨.starting, 0, none, none⟩

/-- R26. `q` is the Q in use (R200). -/
def Chg.atReset (s : Settings) (q : Nat) (pins : Pins) : Chg where
  battery := s.battery
  ocv := s.ocv
  trims := s.trims
  q := q
  r := 0
  synced := false
  syncCount := 0
  syncDone := false
  restTime := 0
  temps := List.replicate 6 startingInput
  tb := none
  figures := none
  v := none
  i := none
  floor := .clear
  low := 0
  hard := 0
  clearCnt := 0
  charge := 0
  ign := pins.ign
  mode := .active
  doze := none
  interval := 1

/-- The requested level of R95 with the quiet flag clear and blind mode off. -/
def coolRequestAtReset (c : CoolSettings) : Nat := if c.enable then c.hostMax else 0

/-- R51, with the fixed entries as their owners post them at reset (R82, R101, R124). -/
def Dmd.atReset (s : Settings) (pins : Pins) : Dmd where
  entries :=
    [some ⟨.lgt, 0, [1], 0, 1000, none, none⟩,
     some ⟨.htr, 1, s.table.map LevelRow.current, 0, 1000, none, none⟩,
     some ⟨.clr, 2, s.cooler.currents, coolRequestAtReset s.cooler, 500, none, none⟩,
     some ⟨.lgt, 3, [1, 1, 1], 0, 1000, none, none⟩,
     none, none, none, none]
  budget := .normal
  lastPass := none
  timer := none
  a := none
  floor := .clear
  ign := pins.ign
  wake := none

/-- R82. -/
def Htr.atReset (s : Settings) (keep : Retained) : Htr where
  seq := if keep.lockout then .lockout else .off
  level := 0
  timer := none
  purge := ⟨.off, .normal, 0, false⟩
  attempts := 0
  restartUsed := false
  reference := none
  sessionRun := 0
  sc := s.profile.mLo
  bias := .raise
  samples := 0
  cold := 0
  warm := 0
  flameLow := 0
  idle := 0
  keep := keep
  frostFlag := false
  frostLimited := false
  frostRetry := none
  frostDeferred := false
  table := s.table
  pendingTable := none
  profile := s.profile
  grant := none
  startUpDue := true
  flame := none
  overheat := none
  cabin := none
  volts := none
  out := ⟨false, 0, 0, 0⟩

/-- R101. -/
def Clr.atReset (s : Settings) (pins : Pins) : Clr where
  state := if s.cooler.enable then .idle else .disabled
  call := false
  prechill := false
  compEn := false
  speed := 0
  grant := none
  minOn := none
  minOff := some 180
  runTime := 0
  pause := none
  backoff := none
  stalls := 0
  ring := []
  secondsOn := 0
  minute := 60
  duty := 500
  warmTime := 0
  warm := false
  blind := false
  blindOff := none
  settings := s.cooler
  posted := ⟨coolRequestAtReset s.cooler, s.cooler.currents, 500, none, none⟩
  faultPin := pins.compFault

/-- A channel after a reset (R124). -/
def restingChannel : Channel := ⟨0, 0, 0, false, none, 0⟩

/-- R124. -/
def Lgt.atReset (s : Settings) (pins : Pins) : Lgt where
  channels := List.replicate 8 restingChannel
  stack := []
  cabGrant := none
  safetyGrant := none
  cabBudget := .normal
  safetyBudget := .normal
  groups := s.groups
  scenes := s.scenes
  fullCurrents := s.fullCurrents
  quietLight := s.quietLight
  doorOpen := pins.door
  doorTimer := none
  btn1 := if pins.btn1 then .blocked else .released
  btn2 := if pins.btn2 then .blocked else .released
  postedCab := ⟨0, [1, 1, 1], 1000, none, none⟩
  postedSafety := ⟨0, [1], 1000, none, none⟩

/-- R144. -/
def Rcl.atReset (s : Settings) : Rcl where
  cabTime := 0
  timeSet := false
  period := ⟨.available, 0, 0⟩
  breakRun := some ⟨0, 0, 0, 0, .none⟩
  acc := 0
  split := false
  due := false
  overdue := false
  record := none
  quiet := false
  settings := s.rest
  log := []
  nextSerial := 1
  window := none

/-- R160. -/
def Sch.atReset : Sch where
  slots := List.replicate 16 none
  counter := 0
  rest := none
  outside := none
  done := List.replicate 6 false
  refresh := none
  firing := none

/-- An alert record after a reset (R173). -/
def inactiveRecord : AlertRecord := ⟨.inactive, false, 0, none⟩

/-- R173. -/
def Alr.atReset (s : Settings) : Alr where
  records := List.replicate 8 inactiveRecord
  owner := none
  phase := .silent
  nextBurst := 0
  buzzer := false
  flashFlag := false
  channel := s.alertChannel

/-- A FREE descriptor (R185). -/
def freeDesc : Desc := ⟨.free, 0, [], 0, 0, 0⟩

/-- R185. -/
def Rpq.atReset (s : Settings) : Rpq where
  levels := s.levels
  mask := s.mask
  threshold := s.threshold
  queue := []
  gate := false
  lost := 0
  marks := List.replicate 33 false
  attn := false
  descs := List.replicate 4 freeDesc
  buffer := List.replicate 32 none

/-- R196, with SERVICE at its present level (R192). -/
def Lnk.atReset (pins : Pins) : Lnk where
  asm := .hunt
  slots := []
  reserved := none
  answer := none
  tx := .idle
  txFrame := []
  gapErrs := 0
  lenErrs := 0
  crcErrs := 0
  overruns := 0
  service := pins.service

/-- R201: a write in progress is cut off and its area left invalid (R197); the areas are kept otherwise. -/
def Sto.atReset (settings : Option (Area Settings)) (saved : Option (Area Saved)) (keep : Retained) : Sto where
  settingsArea := settings
  stateArea := saved
  saving := none
  writing := none
  writeAgain := false
  hourly := 3600
  items := keep
  restarting := .none

end Sys2Proof.Machine
end

