-- ==== Sys2Proof/Machine/State.lean ====
section
/-! DEFINITION. The state of the part as plain data, the state after reset, and the reasons a step could stop. -/

namespace Sys2Proof.Machine

/-- The eleven blocks, the queue of commands waiting (first in, first out), and the model's own event counter at which free
values are taken. -/
structure State where
  chg     : Chg
  dmd     : Dmd
  htr     : Htr
  clr     : Clr
  lgt     : Lgt
  rcl     : Rcl
  sch     : Sch
  alr     : Alr
  rpq     : Rpq
  lnk     : Lnk
  sto     : Sto
  pending : List Instr
  free    : Nat
  deriving DecidableEq, Repr

/-- Why a step could stop with a fault. No command of this block does: the spec gives every command an effect. -/
inductive Fault where
  /-- Raised by no command; kept so that the type is not empty. Safe: a step that answered it would stop where the part
  goes on. -/
  | unreachable
  deriving DecidableEq, Repr

/-- Why a step could be refused. -/
inductive Refusal where
  /-- Raised by exec for a command that has no meaning yet; no arm raises it now. Safe: the model stops where the part
  goes on. -/
  | notModelled (mnemonic : String)
  deriving DecidableEq, Repr

/-- The switch inputs all low (log 7). -/
def lowPins : Pins := ⟨false, false, false, false, false, false⟩

/-- The heater items when the State area is invalid (R82, R200). -/
def lostItems : Retained := ⟨true, 0, 0, some .f9⟩

/-- The state right after a POWER_ON reset that found both areas without a valid content and every switch low (R200, R201;
log 7): STARTED, SETTINGS_LOST and STATE_LOST have been posted, and the State area is being rewritten. -/
def State.reset : State where
  chg := Chg.atReset defaultSettings 112500 lowPins
  dmd := Dmd.atReset defaultSettings lowPins
  htr := Htr.atReset defaultSettings lostItems
  clr := Clr.atReset defaultSettings lowPins
  lgt := Lgt.atReset defaultSettings lowPins
  rcl := Rcl.atReset defaultSettings
  sch := Sch.atReset
  alr := Alr.atReset defaultSettings
  rpq := { Rpq.atReset defaultSettings with
    queue :=
      [⟨26, 1, 1, 0, 0, [0], false, 0, 0⟩,
       ⟨27, 1, 1, 0, 0, [0, 0, 1, 0xB7, 0x74], false, 0, 0⟩,
       ⟨28, 3, 1, 0, 0, [0, 0, 0], false, 0, 0⟩]
    attn := true }
  lnk := Lnk.atReset lowPins
  sto := { Sto.atReset none none lostItems with writing := some ⟨lostItems, 112500⟩ }
  pending := []
  free := 0

end Sys2Proof.Machine
end

