-- ==== Sys2Proof/Machine/Ops.lean ====
section
/-! DEFINITION. Operations the blocks share: posts and replies, timers counted in seconds, ranges, and list positions. -/

namespace Sys2Proof.Machine

/-! ### Report causes (R174) -/

namespace Cause

abbrev batteryCutoff : Nat := 1
abbrev batteryCritical : Nat := 2
abbrev heaterLockout : Nat := 3
abbrev heaterOverheat : Nat := 4
abbrev heaterFlameOut : Nat := 5
abbrev heaterIgnitionFailed : Nat := 6
abbrev heaterState : Nat := 7
abbrev budgetTrimmed : Nat := 8
abbrev budgetRestored : Nat := 9
abbrev coolerWarm : Nat := 10
abbrev coolerFault : Nat := 11
abbrev coolerState : Nat := 12
abbrev breakDue : Nat := 13
abbrev breakOverdue : Nat := 14
abbrev restShort : Nat := 15
abbrev restClosed : Nat := 16
abbrev wakeAlarm : Nat := 17
abbrev scheduleFired : Nat := 18
abbrev scheduleFailed : Nat := 19
abbrev sensorFault : Nat := 20
abbrev sensorRestored : Nat := 21
abbrev chargeSync : Nat := 22
abbrev alertAcked : Nat := 23
abbrev captureDone : Nat := 24
abbrev linkErrors : Nat := 25
abbrev settingsLost : Nat := 26
abbrev stateLost : Nat := 27
abbrev started : Nat := 28
abbrev lightStackDrop : Nat := 29
abbrev frostGuard : Nat := 30
abbrev tableApplied : Nat := 31
abbrev floorClear : Nat := 32
abbrev hostLoadGrant : Nat := 33

end Cause

/-! ### Alert kinds (R161) -/

namespace Kind

abbrev batteryCritical : Nat := 0
abbrev heaterLockout : Nat := 1
abbrev breakOverdue : Nat := 2
abbrev coolerWarm : Nat := 3
abbrev breakDue : Nat := 4
abbrev wake : Nat := 5
abbrev restShort : Nat := 6
abbrev user : Nat := 7

end Kind

/-- A block posts a cause with its data to RPQ (R175). -/
def post (cause : Nat) (data : List Byte) : Msg := .rpq (.post cause data)

/-- An owner hands its reply to LNK, within the dispatch (R189). -/
def answer (status : Status) (body : List Byte) : Msg := .lnk (.reply status body)

/-- A message list that is there only when the condition holds. -/
def msgsIf (c : Bool) (ms : List Msg) : List Msg := if c then ms else []

/-- One second passes at a timer counted in seconds (00 5.4; log 2): at 0 it has run out and waits for its expiry. -/
def tick (t : Option Nat) : Option Nat := t.map (· - 1)

/-- A timer that has run out. -/
def ranOut (t : Option Nat) : Bool := t == some 0

/-- Whether a value lies in a range, limits included. -/
def natIn (lo hi x : Nat) : Bool := decide (lo ≤ x) && decide (x ≤ hi)

/-- The signed form of `natIn`. -/
def intIn (lo hi x : Int) : Bool := decide (lo ≤ x) && decide (x ≤ hi)

/-- Item `n` of a list changed by `f`, the others kept. -/
def modifyAt {α : Type} (f : α → α) (n : Nat) (l : List α) : List α := l.modify n f

/-- The strict increase that R24 asks of the OCV voltages. -/
def increasing : List Nat → Bool
  | a :: b :: l => decide (a < b) && increasing (b :: l)
  | _ => true

end Sys2Proof.Machine
end

