-- ==== Sys2Proof/Machine/Flags.lean ====
section
/-! DEFINITION. The conditions one block reads from the state of others: the part-mode conditions of R19 and R21, and the
brightness conditions of LGT they rest on. -/

namespace Sys2Proof.Machine

/-- The heater states in which DOZE is possible (R19). -/
def HeaterState.resting : HeaterState → Bool
  | .off | .wait | .lockout => true
  | _ => false

/-- A channel at level 0 with no fade in progress and no flash override (R19, R102). -/
def Channel.dark (c : Channel) : Bool := c.fine == 0 && c.steps == 0 && c.flash.isNone

/-- Every light channel is dark (R19). -/
def lightsDark (l : Lgt) : Bool := l.channels.all Channel.dark

/-- Some alert is SOUNDING (R19). -/
def anySounding (a : Alr) : Bool := a.records.any fun r => r.state == .sounding

/-- The conditions of R19, with CHG's own part `c`. -/
def dozeConditions (c : Chg) (s : State) : Bool :=
  s.htr.seq.resting && s.clr.state != .running && lightsDark s.lgt && !anySounding s.alr && s.rpq.queue.isEmpty && !c.ign

/-- The conditions of R21 under which HIBERNATE is entered. -/
def hibernateConditions (c : Chg) (s : State) : Bool :=
  c.floor == .cutoff && (s.htr.seq == .off || s.htr.seq == .lockout) && !s.lnk.service

end Sys2Proof.Machine
end

