-- ==== Sys2Proof/Machine/Chg.lean ====
section
/-! DEFINITION. The Charge Monitor (chapter 1): measurements, the charge count, the available charge, the voltage floor and
the part mode. -/

namespace Sys2Proof.Machine

/-! ### Samples (R4 to R6) -/

/-- R4: a reading above 32,767 mV is taken as 32,767 mV. -/
def sampledVolts (raw : Nat) : Nat := min raw 32767

/-- R4: a reading beyond 30,000 cA either way is clamped. -/
def sampledCurrent (raw : Int) : Int := clampInt (-30000) 30000 raw

/-- R5: the limits of an in-range sample. -/
def sampleInRange (x : Int) : Bool := intIn (-550) 4000 x

/-- R6: what consumers see of an input. -/
def TempInput.reading (t : TempInput) : Option Int := if t.cond = .valid then t.value else none

/-- The sample a report carries: that of the conversion, or the free value of one that failed (R5, R6; log 20). -/
def reportedSample (free n : Nat) (x : Option Int) : Int := x.getD (Config.failedSample free n)

/-- R6: a run of three in-range samples makes the input VALID; SENSOR_RESTORED is posted when it was FAULTED. -/
def completeRun (n : Nat) (t : TempInput) : TempInput × List Msg :=
  if t.cond ≠ .valid ∧ 3 ≤ t.run then
    ({ t with cond := .valid, value := t.sample },
      msgsIf (t.cond == .faulted) [post Cause.sensorRestored (u8 n ++ s16 (t.sample.getD 0))])
  else (t, [])

/-- R6: one sample, already trimmed, at input `n`. -/
def sampleInput (free n : Nat) (x : Option Int) (t : TempInput) : TempInput × List Msg :=
  match x.filter sampleInRange with
  | some v =>
    if t.cond = .valid then ({ t with value := some v }, [])
    else completeRun n { t with run := t.run + 1, sample := some v }
  | none =>
    ({ t with cond := .faulted, run := 0, sample := none, value := none },
      msgsIf (t.cond != .faulted) [post Cause.sensorFault (u8 n ++ s16 (reportedSample free n x))])

/-- The six conversions in input order (R5), each with its input's trim. -/
def trimmedSamples (m : Samples) (trims : List Int) : List (Option Int) :=
  List.zipWith (fun x d => x.map (· + d)) [m.cabin, m.outside, m.cabinet, m.flame, m.overheat, m.battery] trims

/-- R6 at every input, from number `n` on. The posts of one measurement go in input order, the model's choice (log 47). -/
def sampleInputs (free : Nat) : Nat → List (Option Int) → List TempInput → List TempInput × List Msg
  | n, x :: xs, t :: ts =>
    let r := sampleInput free n x t
    let rest := sampleInputs free (n + 1) xs ts
    (r.1 :: rest.1, r.2 ++ rest.2)
  | _, _, ts => (ts, [])

/-- The reading of input `n` (R6): none when invalid. -/
def Chg.temp (c : Chg) (n : Nat) : Option Int := (c.temps[n]?).bind TempInput.reading

/-- Whether input `n` is STARTING (R6). -/
def Chg.tempStarting (c : Chg) (n : Nat) : Bool := (c.temps[n]?).any fun t => t.cond == .starting

/-! ### The count (R7 to R12) -/

/-- R7. -/
def contribution (i : Int) (dt e : Nat) : Int := if i ≤ 0 then i * dt else divT (i * dt * e) 1000

/-- R8: whole milliampere-hours move from the residue to Q, and Q stays in 0..C_nom. -/
def moveCharge (cNom q : Nat) (r : Int) : Nat × Int :=
  let moved := divT r 360
  let q' := (q : Int) + moved
  if q' < 0 then (0, 0) else if (cNom : Int) < q' then (cNom, 0) else (q'.toNat, r - moved * 360)

/-- R7 and R8. -/
def countCharge (c : Chg) (i : Int) (dt : Nat) : Chg :=
  let m := moveCharge c.battery.cNom c.q (c.r + contribution i dt c.battery.e)
  { c with q := m.1, r := m.2 }

/-- R9: the sync count reached 60 and no sync of this run has been performed. -/
def fullSync (c : Chg) : Chg × List Msg :=
  if 60 ≤ c.syncCount ∧ c.syncDone = false then
    ({ c with q := c.battery.cNom, r := 0, synced := true, syncDone := true }, [post Cause.chargeSync (u32 c.q)])
  else (c, [])

/-- R9. -/
def syncStep (c : Chg) (v : Nat) (i : Int) : Chg × List Msg :=
  if c.battery.vFull ≤ v ∧ 0 ≤ i ∧ i ≤ c.battery.iTail then fullSync { c with syncCount := satAdd 60 c.syncCount 1 }
  else ({ c with syncCount := 0, syncDone := false }, [])

/-- R11, from the point whose state of charge is `s` on. -/
def socFrom (v : Nat) : Nat → List Nat → Nat
  | s, a :: b :: l => if v < b then s + (v - a) * 200 / (b - a) else socFrom v (s + 200) (b :: l)
  | s, _ => s

/-- R11. -/
def socOf (ocv : List Nat) (v : Nat) : Nat := if v ≤ ocv.headD 0 then 0 else socFrom v 0 ocv

/-- R12. -/
def correctedCharge (cNom : Nat) (ocv : List Nat) (q v : Nat) : Nat :=
  ((q : Int) + divT (((cNom * socOf ocv v / 1000 : Nat) : Int) - q) 4).toNat

/-- R10, R12: the correction is performed when the rest-current time has reached 1,800 s. -/
def restCorrection (c : Chg) (v : Nat) : Chg :=
  if 1800 ≤ c.restTime then { c with q := correctedCharge c.battery.cNom c.ocv c.q v, restTime := 0 } else c

/-- R10. -/
def restStep (c : Chg) (v : Nat) (i : Int) (dt : Nat) : Chg :=
  restCorrection { c with restTime := if i.natAbs ≤ 50 then c.restTime + dt else 0 } v

/-! ### The figures (R13 to R15) -/

/-- R13. -/
def batteryTemp (c : Chg) : Option Int := (c.temp 5).or (c.temp 1)

/-- R14: the derating factor; without a temperature the coldest band (R13). -/
def deratingOf : Option Int → Nat
  | none => 600
  | some t => if 200 ≤ t then 1000 else if 0 ≤ t then 900 else if -100 ≤ t then 800 else if -200 ≤ t then 700 else 600

/-- R14: the cold steps; without a temperature 4 (R13). -/
def coldStepsOf : Option Int → Nat
  | none => 4
  | some t => let w := divT t 10; if w < 0 then (-w + 9).toNat / 10 else 0

/-- R14, R15. -/
def figuresOf (b : BatteryParams) (q : Nat) (synced : Bool) (tb : Option Int) : Figures :=
  let k := deratingOf tb
  let steps := coldStepsOf tb
  let qd := q * k / 1000
  let reserve := min (b.rBase + b.rCold * steps) b.cNom
  let u := if synced then 0 else b.cNom / 10
  ⟨qd, k, steps, reserve, u, qd - reserve - u⟩

/-- R15: the figures replaced, from T_b as held. -/
def refigure (c : Chg) : Chg := { c with figures := some (figuresOf c.battery c.q c.synced c.tb) }

/-! ### The floor (R16 to R18) -/

/-- R16: each counter advances, restarts, or stays at 0. -/
def floorCounts (c : Chg) (v : Nat) (i : Int) : Chg :=
  { c with
    low := if c.floor = .clear ∧ v < c.battery.vCut then c.low + 1 else 0
    hard := if c.floor ≠ .cutoff ∧ v < c.battery.vHard ∧ c.ign = false then c.hard + 1 else 0
    clearCnt := if c.floor = .critical ∧ c.battery.vCut + 400 ≤ v then c.clearCnt + 1 else 0
    charge := if c.floor = .cutoff ∧ 500 ≤ i then c.charge + 1 else 0 }

/-- R16, R18: the floor state that the counters and IGN call for. -/
def nextFloor (c : Chg) : Floor :=
  match c.floor with
  | .clear => if 10 ≤ c.hard then .cutoff else if 10 ≤ c.low then .critical else .clear
  | .critical => if 10 ≤ c.hard then .cutoff else if 60 ≤ c.clearCnt then .clear else .critical
  | .cutoff => if 30 ≤ c.charge ∨ c.ign = true then .critical else .cutoff

/-- R16: a counter that does not run in the floor state is 0. -/
def dropCounts (c : Chg) : Chg :=
  { c with
    low := if c.floor = .clear then c.low else 0
    hard := if c.floor = .cutoff then 0 else c.hard
    clearCnt := if c.floor = .critical then c.clearCnt else 0
    charge := if c.floor = .cutoff then c.charge else 0 }

/-- R17: the report of an entry to a floor state. -/
def floorCause : Floor → Nat
  | .clear => Cause.floorClear
  | .critical => Cause.batteryCritical
  | .cutoff => Cause.batteryCutoff

/-- V and I as reports and readings show them: free values before the first measurement (R26; log 21). -/
def shownVolts (free : Nat) (c : Chg) : Int := (c.v.map Int.ofNat).getD (Config.unmeasuredFigure free 0)
def shownCurrent (free : Nat) (c : Chg) : Int := c.i.getD (Config.unmeasuredFigure free 1)

/-- R17: a change of floor state goes to DMD, then RPQ, then ALR. -/
def floorMsgs (free : Nat) (c : Chg) (f : Floor) : List Msg :=
  [.dmd (.floor f),
   post (floorCause f) (u8 f.code ++ u16 (shownVolts free c).toNat ++ s16 (shownCurrent free c)),
   .alr (.condition Kind.batteryCritical (f != .clear))]

/-! ### The part mode (R19 to R21) -/

/-- R20: the return from DOZE. Every change of part mode stops the doze timer. -/
def endDoze (c : Chg) : Chg := if c.mode = .doze then { c with mode := .active, doze := none } else c

/-- R19 in ACTIVE: the timer runs exactly while the conditions hold. -/
def runDozeTimer (c : Chg) (s : State) : Chg :=
  { c with doze := if dozeConditions c s then some (c.doze.getD 30) else none }

/-- R19 to R21, after anything that bears on them: HIBERNATE first, then DOZE. -/
def reviewMode (c : Chg) (s : State) : Chg × List Msg :=
  match c.mode with
  | .hibernate =>
    if c.floor ≠ .cutoff ∨ s.lnk.service = true then (runDozeTimer { c with mode := .active, doze := none } s, [])
    else (c, [])
  | .active =>
    if hibernateConditions c s then ({ c with mode := .hibernate, doze := none }, [.sto .writeState])
    else (runDozeTimer c s, [])
  | .doze =>
    if hibernateConditions c s then ({ c with mode := .hibernate, doze := none }, [.sto .writeState])
    else if dozeConditions c s then (c, []) else (runDozeTimer (endDoze c) s, [])

/-- The floor state becomes `f` (R16, R17, R20): nothing when it is `f` already. -/
def enterFloor (c : Chg) (f : Floor) (s : State) : Chg × List Msg :=
  if f = c.floor then (c, []) else (endDoze (dropCounts { c with floor := f }), floorMsgs s.free c f)

/-- A floor change followed by the part-mode review; no event when the floor state is `f` already (log 4). -/
def floorEvent (c : Chg) (f : Floor) (s : State) : Chg × List Msg :=
  if f = c.floor then (c, [])
  else
    let e := enterFloor c f s
    let r := reviewMode e.1 s
    (r.1, e.2 ++ r.2)

/-! ### The measurement (R2, R3, R25) -/

/-- R2: the measurement period of a part mode. -/
def PartMode.seconds : PartMode → Nat
  | .active => 1
  | .doze => 10
  | .hibernate => 60

/-- What HTR receives (R25), with what the start-up check needs (R83). -/
def heaterReadings (c : Chg) (dt v : Nat) : HeaterReadings where
  dt := dt
  flame := c.temp 3
  overheat := c.temp 4
  cabin := c.temp 0
  volts := v
  flameStarting := c.tempStarting 3
  overheatStarting := c.tempStarting 4
  flameSample := (c.temps[3]?).bind TempInput.sample

/-- Steps 1 to 6 of R3: samples, count, sync, correction, figures. -/
def measureCharge (free : Nat) (m : Samples) (c : Chg) : Chg × List Msg :=
  let dt := c.interval
  let v := sampledVolts m.vbat
  let i := sampledCurrent m.shunt
  let t := sampleInputs free 0 (trimmedSamples m c.trims) c.temps
  let sy := syncStep (countCharge { c with temps := t.1, v := some v, i := some i } i dt) v i
  let c4 := restStep sy.1 v i dt
  (refigure { c4 with tb := batteryTemp c4 }, t.2 ++ sy.2)

/-- R3, R25: the results go to HTR, CLR, SCH and DMD in this order, the model's choice (log 38). The next interval takes the period
of the part mode in force as it starts (R2; log 31). -/
def measure (m : Samples) (s : State) : Chg × List Msg :=
  let c := s.chg
  let v := sampledVolts m.vbat
  let i := sampledCurrent m.shunt
  let r := measureCharge s.free m c
  let c7 := floorCounts r.1 v i
  let f := nextFloor c7
  let e := enterFloor { c7 with interval := c.mode.seconds } f s
  let w := reviewMode e.1 s
  (w.1,
    r.2 ++ [.htr (.measured (heaterReadings r.1 c.interval v)), .clr (.measured c.interval (r.1.temp 2)),
      .sch (.outside (r.1.temp 1)), .dmd (.figures ((r.1.figures.map Figures.a).getD 0) f)] ++ e.2 ++ w.2)

/-! ### Service requests (R22 to R24) -/

/-- R22: the ranges. -/
def batteryInRange (p : BatteryParams) : Bool :=
  natIn 20000 400000 p.cNom && natIn 800 1000 p.e && natIn 24000 30000 p.vFull && intIn 0 2000 p.iTail &&
    natIn 0 200000 p.rBase && natIn 0 50000 p.rCold && natIn 21000 26000 p.vCut && natIn 20000 25800 p.vHard &&
    decide (p.vHard + 200 ≤ p.vCut)

/-- R22: the eight parameters applied. -/
def setBattery (p : BatteryParams) (c : Chg) : Chg :=
  if p.cNom = c.battery.cNom then { c with battery := p }
  else
    { c with
      battery := p
      synced := false
      syncCount := 0
      syncDone := false
      q := min c.q p.cNom
      r := if p.cNom < c.q then 0 else c.r }

/-- R22, R23, R24: the figures are recomputed and handed to DMD. Before the first measurement there are no samples to compute
them from (R26), and nothing is handed on (log 23). -/
def handFigures (c : Chg) : Chg × List Msg :=
  match c.figures with
  | none => (c, [])
  | some _ =>
    let c' := refigure c
    (c', [.dmd (.battery ((c'.figures.map Figures.a).getD 0))])

/-- A setting request taken by CHG: RANGE and no change, or applied with OK (1.6). -/
def chgRequest (ok : Bool) (apply : Chg → Chg) (c : Chg) : Chg × List Msg :=
  if ok then
    let h := handFigures (apply c)
    (h.1, answer .ok [] :: h.2)
  else (c, [answer .range []])

/-- R23. -/
def setCharge (q : Nat) (c : Chg) : Chg := { c with q := q, r := 0, synced := true, syncCount := 0, syncDone := false }

/-- R24. -/
def ocvInRange (l : List Nat) : Bool := l.length == 6 && l.all (fun v => decide (v ≤ 32767)) && increasing l

/-- R24. -/
def setTrim (n : Nat) (offset : Int) (c : Chg) : Chg × List Msg :=
  if n ≤ 5 ∧ intIn (-100) 100 offset = true then ({ c with trims := c.trims.set n offset }, [answer .ok []])
  else (c, [answer .range []])

/-! ### Other events -/

/-- R18: a change of IGN; a floor change it brings about is handed on before it (log 37). The same level again is no change
(log 24). -/
def ignEvent (on : Bool) (s : State) : Chg × List Msg :=
  let c := s.chg
  if on = c.ign then (c, [])
  else
    let c1 := endDoze { c with ign := on, hard := if on then c.hard else 0 }
    let e := enterFloor c1 (if on = true ∧ c1.floor = .cutoff then .critical else c1.floor) s
    let w := reviewMode e.1 s
    (w.1, e.2 ++ [.dmd (.ign on)] ++ w.2)

/-- R19: the doze timer's expiry. -/
def dozeExpiry (s : State) : Chg × List Msg :=
  let c := s.chg
  if c.mode = .active ∧ c.doze = some 0 then
    if hibernateConditions c s then ({ c with mode := .hibernate, doze := none }, [.sto .writeState])
    else ({ c with mode := .doze, doze := none }, [])
  else (c, [])

/-- R19, R20: a link byte, or a post. The timer starts afresh from 30 s while the conditions hold. -/
def stirMode (s : State) : Chg × List Msg :=
  let c := endDoze s.chg
  reviewMode { c with doze := none } s

/-- R202: the defaults applied as BATTERY_SET, OCV_SET and SENSOR_TRIM apply them (log 29). -/
def chgDefaults (c : Chg) : Chg × List Msg :=
  handFigures { setBattery defaultBattery c with ocv := defaultOcv, trims := defaultTrims }

/-- SENSOR_VALID as an event of its own (R6; log 4). -/
def sensorValidEvent (n : Nat) (c : Chg) : Chg × List Msg :=
  match c.temps[n]? with
  | some t => let r := completeRun n t; ({ c with temps := c.temps.set n r.1 }, r.2)
  | none => (c, [])

/-- REST_VOLTAGE_CORRECTION as an event of its own, with the latest V (R10, R12; log 4). -/
def restCorrectionEvent (c : Chg) : Chg :=
  match c.v with
  | some v => restCorrection c v
  | none => c

/-- What each event at CHG does. -/
def chgHandle (e : ChgEv) (s : State) : Chg × List Msg :=
  let c := s.chg
  match e with
  | .measure m => measure m s
  | .sensorValid n => sensorValidEvent n c
  | .fullSync => fullSync c
  | .restCorrection => (restCorrectionEvent c, [])
  | .lowLimit => floorEvent c (if c.floor = .clear ∧ 10 ≤ c.low ∧ c.hard < 10 then .critical else c.floor) s
  | .hardLimit => floorEvent c (if c.floor ≠ .cutoff ∧ 10 ≤ c.hard then .cutoff else c.floor) s
  | .clearLimit => floorEvent c (if c.floor = .critical ∧ 60 ≤ c.clearCnt ∧ c.hard < 10 then .clear else c.floor) s
  | .chargeLimit => floorEvent c (if c.floor = .cutoff ∧ 30 ≤ c.charge then .critical else c.floor) s
  | .dozeExpiry => dozeExpiry s
  | .ign on => ignEvent on s
  | .second => ({ c with doze := tick c.doze }, [])
  | .review => reviewMode c s
  | .wake => reviewMode (endDoze c) s
  | .stir => stirMode s
  | .batterySet p => chgRequest (batteryInRange p) (setBattery p) c
  | .chargeSet q => chgRequest (decide (q ≤ c.battery.cNom)) (setCharge q) c
  | .ocvSet l => chgRequest (ocvInRange l) (fun c => { c with ocv := l }) c
  | .sensorTrim n d => setTrim n d c
  | .defaults => chgDefaults c

end Sys2Proof.Machine
end

