-- ==== Sys2Proof/Machine/Dmd.lean ====
section
/-! DEFINITION. The Demand Table (chapter 2): need and horizon, budget passes, admission, and the host's entries. -/

namespace Sys2Proof.Machine

/-! ### Order, horizon and need (R28, R30, R31) -/

/-- The present entries with their numbers, in number order (R27). -/
def presentEntries (d : Dmd) : List (Nat × Entry) := d.entries.zipIdx.filterMap fun p => p.1.map (Prod.mk p.2)

/-- R28: class ascending, then number ascending. -/
def budgetOrder (d : Dmd) : List (Nat × Entry) :=
  [0, 1, 2, 3].flatMap fun c => (presentEntries d).filter fun p => p.2.cls == c

/-- R31: before the clamp. `now` is cab time and `hIdle` the setting. -/
def rawHorizon (wake : Option Nat) (now hIdle : Nat) : Int :=
  match wake with
  | some w => (w : Int) - now
  | none => hIdle

/-- R31. -/
def horizonOf (wake : Option Nat) (now hIdle : Nat) : Nat := (clampInt 600 43200 (rawHorizon wake now hIdle)).toNat

/-- The horizon at this moment. -/
def horizon (d : Dmd) (s : State) : Nat := horizonOf d.wake s.rcl.cabTime s.rcl.settings.hIdle

/-- R30 without the start charge. -/
def levelNeed (current : Int) (duty h : Nat) : Nat := (current.toNat * duty * h + 359999) / 360000

/-- R30. -/
def need (e : Entry) (h level : Nat) : Nat :=
  match level with
  | 0 => 0
  | l + 1 => levelNeed (e.currents.getD l 0) e.duty h + e.startCharge.getD 0

/-! ### The walk (R37 to R39) -/

/-- R37: the Needs of the class-0 entries at their requested levels. -/
def essentialNeed (order : List (Nat × Entry)) (h : Nat) : Nat :=
  ((order.filter fun p => p.2.cls == 0).map fun p => need p.2 h p.2.requested).sum

/-- R34: UNASSESSED counts as 0. -/
def Entry.previous (e : Entry) : Nat := e.granted.getD 0

/-- R38: whether level `l` fits on top of the running sum `sum`. -/
def fits (e : Entry) (h b br sum l : Nat) : Bool :=
  decide (sum + need e h l ≤ if l ≤ e.previous then b else br)

/-- R38: the first level from `l` down to 1 that fits, 0 when none does. -/
def fitLevel (e : Entry) (h b br sum : Nat) : Nat → Nat
  | 0 => 0
  | l + 1 => if fits e h b br sum (l + 1) then l + 1 else fitLevel e h b br sum l

/-- R38: the grants of the walk and the running sum it ends with; `tail` says that the shed tail has begun. -/
def walk (h b br : Nat) : Bool → Nat → List (Nat × Entry) → List (Nat × Nat) × Nat
  | _, sum, [] => ([], sum)
  | true, sum, (n, _) :: l =>
    let r := walk h b br true sum l
    ((n, 0) :: r.1, r.2)
  | false, sum, (n, e) :: l =>
    let g := fitLevel e h b br sum e.requested
    let r := walk h b br (decide (g = 0 ∧ e.requested ≠ 0)) (sum + need e h g) l
    ((n, g) :: r.1, r.2)

/-- The level granted to entry `n`. -/
def grantOf (grants : List (Nat × Nat)) (n : Nat) : Nat :=
  match grants with
  | [] => 0
  | (m, g) :: l => if m = n then g else grantOf l n

/-! ### A pass (R34 to R43) -/

/-- What a pass decides: the way, the grants, S and the budget state. -/
structure Decision where
  way    : Way
  grants : List (Nat × Nat)
  sum    : Nat
  state  : Budget
  deriving DecidableEq, Repr

/-- R35. -/
def cutoffDecision (order : List (Nat × Entry)) : Decision := ⟨.cutoff, order.map fun p => (p.1, 0), 0, .cutoff⟩

/-- R36. -/
def ignitionDecision (order : List (Nat × Entry)) (floor : Floor) : Decision :=
  ⟨.ignition, order.map fun p => (p.1, p.2.requested), 0, if floor = .critical then .critical else .normal⟩

/-- R37 to R39. -/
def walkDecision (order : List (Nat × Entry)) (floor : Floor) (h b br : Nat) : Decision :=
  let essential := order.filter fun p => p.2.cls == 0
  let others := order.filter fun p => p.2.cls != 0
  let funded := essential.map fun p => (p.1, p.2.requested)
  if floor = .critical then ⟨.walk, funded ++ others.map (fun p => (p.1, 0)), 0, .critical⟩
  else
    let w := walk h b br false 0 others
    ⟨.walk, funded ++ w.1, w.2,
      if others.all fun p => decide (p.2.requested ≤ grantOf w.1 p.1) then .normal else .trimmed⟩

/-- R34: the way is chosen by the floor state and IGN. -/
def decidePass (order : List (Nat × Entry)) (floor : Floor) (ign : Bool) (h b br : Nat) : Decision :=
  if floor = .cutoff then cutoffDecision order
  else if ign then ignitionDecision order floor
  else walkDecision order floor h b br

/-- R39, R41: the first non-Essential entry in budget order granted below its request. -/
def firstTrimmed (order : List (Nat × Entry)) (grants : List (Nat × Nat)) : Option Nat :=
  (order.find? fun p => p.2.cls != 0 && decide (grantOf grants p.1 < p.2.requested)).map Prod.fst

/-- Every present entry takes its grant (R40). -/
def applyGrants (entries : List (Option Entry)) (grants : List (Nat × Nat)) : List (Option Entry) :=
  entries.zipIdx.map fun p => p.1.map fun e => { e with granted := some (grantOf grants p.2) }

/-- R42: the delivery of one entry's grant. -/
def deliverGrant (n level : Nat) (budget : Budget) : Msg :=
  match n with
  | 0 => .lgt (.grant 0 level budget)
  | 1 => .htr (.grant level budget)
  | 2 => .clr (.grant level budget)
  | _ => .lgt (.grant 3 level budget)

/-- R42: the deliveries to the owners of the fixed entries, in number order (the model's choice, log 48). -/
def fixedDeliveries (present : List (Nat × Entry)) (grants : List (Nat × Nat)) (before after : Budget) : List Msg :=
  (present.filter fun p => decide (p.1 < 4) && (decide (before ≠ after) || p.2.granted != some (grantOf grants p.1))).map
    fun p => deliverGrant p.1 (grantOf grants p.1) after

/-- R43: HOST_LOAD_GRANT for each host entry whose grant was delivered, in number order (the model's choice, log 48). -/
def hostReports (present : List (Nat × Entry)) (grants : List (Nat × Nat)) (after : Budget) : List Msg :=
  (present.filter fun p => decide (4 ≤ p.1) && p.2.granted != some (grantOf grants p.1)).map fun p =>
    post Cause.hostLoadGrant (u8 p.1 ++ u8 p.2.requested ++ u8 (grantOf grants p.1) ++ u8 after.code)

/-- R43: BUDGET_TRIMMED or BUDGET_RESTORED. -/
def budgetReports (before : Budget) (r : PassResult) : List Msg :=
  msgsIf (before == .normal && r.state == .trimmed)
      [post Cause.budgetTrimmed (u32 r.a ++ u32 r.b ++ u32 r.sum ++ u8 (r.firstTrimmed.getD 0))] ++
    msgsIf (before == .trimmed && r.state == .normal) [post Cause.budgetRestored (u32 r.a ++ u32 r.b)]

/-- R37: the remaining budget. -/
def remainingBudget (a eNeed : Nat) : Nat := a - eNeed

/-- R37: the restore limit. -/
def restoreLimit (b : Nat) : Nat := b * 95 / 100

/-- R34, R41: the pass as a function of its inputs. -/
def passResult (d : Dmd) (t : Trigger) (a now h : Nat) : Decision × PassResult :=
  let order := budgetOrder d
  let eNeed := essentialNeed order h
  let b := remainingBudget a eNeed
  let br := restoreLimit b
  let w := decidePass order d.floor d.ign h b br
  (w,
    { time := now, trigger := t, way := w.way, a := a, floor := d.floor, ign := d.ign, h := h, eNeed := eNeed, b := b
      br := br, sum := w.sum, firstTrimmed := firstTrimmed order w.grants
      entries := (presentEntries d).map fun p =>
        ⟨p.1, p.2.requested, grantOf w.grants p.1, need p.2 h (grantOf w.grants p.1)⟩
      state := w.state })

/-- R33, R34: one budget pass, none before the first A. -/
def budgetPass (t : Trigger) (d : Dmd) (s : State) : Dmd × List Msg :=
  match d.a with
  | none => (d, [])
  | some a =>
    let r := passResult d t a s.rcl.cabTime (horizon d s)
    let present := presentEntries d
    ({ d with
        entries := applyGrants d.entries r.1.grants
        budget := r.1.state
        lastPass := some r.2
        timer := some (d.timer.getD 60) },
      fixedDeliveries present r.1.grants d.budget r.1.state ++ budgetReports d.budget r.2 ++
        hostReports present r.1.grants r.1.state)

/-! ### Demand updates (R29) -/

/-- R29: the carried fields written into an entry. -/
def writeDemand (u : Demand) (e : Entry) : Entry :=
  { e with
    requested := u.requested
    currents := u.currents
    duty := u.duty
    cls := u.cls.getD e.cls
    startCharge := u.startCharge.getD e.startCharge }

/-- R29, R33: an update that changes a field runs a pass. -/
def demandUpdate (n : Nat) (u : Demand) (d : Dmd) (s : State) : Dmd × List Msg :=
  match d.entries[n]? with
  | some (some e) =>
    if writeDemand u e = e then (d, [])
    else budgetPass .demand { d with entries := d.entries.set n (some (writeDemand u e)) } s
  | _ => (d, [])

/-! ### Admission (R44) -/

/-- R44: the Needs of the class-0 entries other than HEATER. -/
def admissionNeed (d : Dmd) (h : Nat) : Nat := essentialNeed ((budgetOrder d).filter fun p => p.1 != 1) h

/-- The HEATER entry (R27). -/
def heaterEntry (d : Dmd) : Option Entry := (d.entries[1]?).join

/-- R44: DMD's answer to a heater start with this start charge and duty. -/
def admits (d : Dmd) (s : State) (duty startCharge : Nat) : Bool :=
  let h := horizon d s
  match heaterEntry d with
  | none => false
  | some e =>
    if d.floor = .clear ∧ d.ign = true then true
    else if e.cls = 0 ∧ d.floor ≠ .cutoff then true
    else if d.floor = .cutoff then false
    else if d.floor = .critical ∧ d.ign = false then false
    else
      decide (need { e with duty := duty, startCharge := some startCharge } h 1 ≤
        remainingBudget (d.a.getD 0) (admissionNeed d h))

/-! ### The host's entries (R47 to R50) -/

/-- R47: a list that does not decrease. -/
def nonDecreasing : List Int → Bool
  | a :: b :: l => decide (a ≤ b) && nonDecreasing (b :: l)
  | _ => true

/-- R27: level currents are 1..3,000 cA and do not decrease. -/
def currentsOk (l : List Int) : Bool := l.all (intIn 1 3000) && nonDecreasing l

/-- R47, check 1. -/
def declareInRange (x : DeclareArgs) : Bool :=
  (natIn 4 7 x.entry || x.entry == 255) && natIn 1 3 x.cls && natIn 1 4 x.currents.length && currentsOk x.currents &&
    decide (x.requested ≤ x.currents.length) && decide (x.duty ≤ 1000)

/-- R47: the lowest-numbered empty slot. -/
def emptySlot (d : Dmd) : Option Nat := [4, 5, 6, 7].find? fun n => d.entries[n]? == some none

/-- R47: the slot a declaration goes to. -/
def declareSlot (d : Dmd) (x : DeclareArgs) : Option Nat := if x.entry = 255 then emptySlot d else some x.entry

/-- A granted level as a byte; UNASSESSED by a free value (log 22). -/
def grantedByte : Option Nat → List Byte
  | some g => u8 g
  | none => [Config.unassessedCode]

/-- R47: the entry a declaration makes of what the slot holds. -/
def declaredEntry (x : DeclareArgs) (granted : Option Nat) : Entry :=
  ⟨.host, x.cls, x.currents, x.requested, x.duty, none, granted⟩

/-- R47: the reply to an accepted declaration. -/
def declareReply (n : Nat) (d : Dmd) : Msg :=
  answer .ok (u8 n ++ grantedByte (((d.entries[n]?).join).bind Entry.granted))

/-- R47. -/
def declareEntry (x : DeclareArgs) (d : Dmd) (s : State) : Dmd × List Msg :=
  if declareInRange x = false then (d, [answer .range []])
  else
    match declareSlot d x with
    | none => (d, [answer .full []])
    | some n =>
      match (d.entries[n]?).join with
      | none =>
        let p := budgetPass .entryAdded { d with entries := d.entries.set n (some (declaredEntry x none)) } s
        (p.1, declareReply n p.1 :: p.2)
      | some e =>
        if declaredEntry x e.granted = e then (d, [declareReply n d])
        else
          let p := budgetPass .demand { d with entries := d.entries.set n (some (declaredEntry x e.granted)) } s
          (p.1, declareReply n p.1 :: p.2)

/-- R48. -/
def releaseEntry (n : Nat) (d : Dmd) (s : State) : Dmd × List Msg :=
  if natIn 4 7 n = false then (d, [answer .range []])
  else if (d.entries[n]?).join = none then (d, [answer .state []])
  else
    let p := budgetPass .entryRemoved { d with entries := d.entries.set n none } s
    (p.1, answer .ok [] :: p.2)

/-- The last pass results as BUDGET_READ shows them, in the order of R41. Its per-entry results are a list (R191) with an item
of R41's three values for each present entry, in ascending entry number, the model's reading (log 16). -/
def passBytes (r : PassResult) : List Byte :=
  u32 r.time ++ u8 r.trigger.code ++ u8 r.way.code ++ u32 r.a ++ u8 r.floor.code ++ flagByte r.ign ++ u32 r.h ++
    u32 r.eNeed ++ u32 r.b ++ u32 r.br ++ u32 r.sum ++ optField u8 r.firstTrimmed ++
    listField (fun p : PassEntry => u8 p.requested ++ u8 p.granted ++ u32 p.need) r.entries ++
    u8 r.state.code

/-- A position as BUDGET_READ shows it (R50; log 16). -/
def entryBytes (e : Entry) : List Byte :=
  u8 e.cls ++ u8 e.owner.code ++ listField s16 e.currents ++ u8 e.requested ++ u16 e.duty ++ optField u32 e.startCharge ++
    grantedByte e.granted

/-- R50. -/
def budgetReadBody (d : Dmd) : List Byte :=
  u8 d.budget.code ++ optField passBytes d.lastPass ++ d.entries.flatMap (optField entryBytes)

/-! ### Events -/

/-- What each event at DMD does. -/
def dmdHandle (e : DmdEv) (s : State) : Dmd × List Msg :=
  let d := s.dmd
  match e with
  | .update n u => demandUpdate n u d s
  | .figures a f =>
    if d.a.isNone then budgetPass .firstA { d with a := some a, floor := f } s
    else ({ d with a := some a, floor := f }, [])
  | .battery a => budgetPass .battery { d with a := some a } s
  | .floor f => budgetPass .floor { d with floor := f } s
  | .ign on => budgetPass .ign { d with ign := on } s
  | .rest w => budgetPass .rest { d with wake := w } s
  | .budgetExpiry => if d.timer = some 0 then budgetPass .timer { d with timer := some 60 } s else (d, [])
  | .second => ({ d with timer := tick d.timer }, [])
  | .declare x => declareEntry x d s
  | .release n => releaseEntry n d s
  | .read => (d, [answer .ok (budgetReadBody d)])

end Sys2Proof.Machine
end

