-- ==== Sys2Proof/Machine/Clr.lean ====
section
/-! DEFINITION. The Cooler Controller (chapter 4): thermostat, compressor timing, quiet runs, stalls, duty ring, warm watch and
blind mode. -/

namespace Sys2Proof.Machine

/-! ### Speed, call and demand (R85 to R87, R95, R97) -/

/-- The least of the host max speed, 1 while quiet, 1 while blind (R87, R95). -/
def wishedSpeed (c : Clr) (quiet : Bool) : Nat := if quiet || c.blind then min c.settings.hostMax 1 else c.settings.hostMax

/-- R87. -/
def coolSpeed (c : Clr) (quiet : Bool) : Nat := min (wishedSpeed c quiet) ((c.grant.map Prod.fst).getD 0)

/-- R87: in RUNNING a recomputed speed drives COMP_SPD, at 1 while a stop waits. -/
def driveSpeed (c : Clr) (quiet : Bool) : Clr :=
  if c.state = .running then { c with speed := max 1 (coolSpeed c quiet) } else c

/-- R95: the requested level. -/
def coolRequest (c : Clr) (quiet : Bool) : Nat :=
  if c.settings.enable = false ∨ c.state = .faulted then 0 else wishedSpeed c quiet

/-- R95: the demand update. -/
def coolDemand (c : Clr) (quiet : Bool) : Demand := ⟨coolRequest c quiet, c.settings.currents, c.duty, none, none⟩

/-- R85: the effective setpoint. -/
def effectiveSetpoint (c : Clr) : Int :=
  if c.prechill then c.settings.setpoint - c.settings.offset else c.settings.setpoint

/-- R85: the call after a valid reading with blind mode off. -/
def nextCall (c : Clr) (t : Int) : Bool :=
  let half := divT c.settings.band 2
  if c.call then !decide (t ≤ effectiveSetpoint c - half) else decide (effectiveSetpoint c + half ≤ t)

/-- R97: the blind call. -/
def blindCall (c : Clr) : Bool := c.blindOff.isNone && (c.state != .running || decide (c.runTime < 600))

/-- R88, R89: the call that settling and the stop conditions test. -/
def activeCall (c : Clr) : Bool := if c.blind then blindCall c else c.call

/-! ### Starts, stops and settling (R84, R88, R89, R91 to R93) -/

/-- R84: a stop. -/
def stopCompressor (c : Clr) : Clr :=
  { c with
    compEn := false
    speed := 0
    minOn := none
    minOff := some 180
    blindOff := if c.blind then some 600 else c.blindOff }

/-- R84: a start. -/
def startCompressor (c : Clr) (quiet : Bool) : Clr :=
  { c with state := .running, compEn := true, speed := coolSpeed c quiet, runTime := 0, minOn := some 60, minOff := none }

/-- Whether the held grant is 0 (R88 to R90). -/
def grantZero (c : Clr) : Bool := c.grant.any fun g => g.1 == 0

/-- R88: the state that settling chooses. -/
def settledState (c : Clr) : CoolerState :=
  if c.settings.enable = false then .disabled
  else if grantZero c then .shed
  else if activeCall c = false then .idle
  else if c.minOff.isSome ∨ c.grant.isNone then .waitOff
  else .running

/-- R88. -/
def settleCooler (c : Clr) (quiet : Bool) : Clr :=
  match settledState c with
  | .running => startCompressor c quiet
  | st => { c with state := st }

/-- R89: a stop condition holds. -/
def stopCondition (c : Clr) : Bool := !c.settings.enable || grantZero c || !activeCall c

/-- R84, R88: the compressor stops and CLR settles. -/
def stopAndSettle (c : Clr) (quiet : Bool) : Clr :=
  let c1 := stopCompressor c
  settleCooler { c1 with state := .idle } quiet

/-- R93: a run that has reached 300 s clears the stall count. -/
def clearStalls (c : Clr) : Clr := if c.state = .running ∧ 300 ≤ c.runTime then { c with stalls := 0 } else c

/-- R91: the end of a quiet run. -/
def endQuietRun (c : Clr) : Clr :=
  { stopCompressor c with state := .pause, pause := some (max c.settings.qPause 180) }

/-- R91: a quiet run has reached Q_run. With cooling disabled it is none: a disable then stops the run straight to DISABLED
(log 50). -/
def quietRunDue (c : Clr) (quiet : Bool) : Bool :=
  quiet && c.state == .running && c.settings.enable && decide (c.settings.qRun ≤ c.runTime)

/-- R92: a stall. -/
def stallCooler (c : Clr) : Clr :=
  let c1 := clearStalls c
  let n := satAdd 5 c1.stalls 1
  let c2 := { stopCompressor c1 with stalls := n }
  if n = 5 then { c2 with state := .faulted } else { c2 with state := .backoff, backoff := some 60 }

/-- What the close of an event does (R88, R89, R91): a run that is due ends, a resting state settles. The reason is the
event's, or QUIET for a quiet run end. -/
def closeEvent (c : Clr) (quiet : Bool) (reason : CoolerReason) : Clr × CoolerReason :=
  match c.state with
  | .running =>
    let c1 := clearStalls c
    if grantZero c1 ∧ c1.minOn.isNone then (stopAndSettle c1 quiet, reason)
    else if quietRunDue c1 quiet then (endQuietRun c1, .quiet)
    else if stopCondition c1 ∧ c1.minOn.isNone then (stopAndSettle c1 quiet, reason)
    else (c1, reason)
  | .idle | .waitOff | .shed => (settleCooler c quiet, reason)
  | _ => (c, reason)

/-! ### What is handed on (R93, R95, R96, R100) -/

/-- R100: COOLER_STATE. The speed it carries is the one COMP_SPD is driven at, the model's choice (log 55). -/
def coolerStateReport (old new : Clr) (reason : CoolerReason) : Msg :=
  post Cause.coolerState (u8 old.state.code ++ u8 new.state.code ++ u8 new.speed ++ u8 new.stalls ++ u8 reason.code)

/-- R100: the report of a change of state. -/
def stateReports (old new : Clr) (reason : CoolerReason) : List Msg :=
  msgsIf (old.state != new.state) [coolerStateReport old new reason]

/-- R97: the reports of a change of blind mode that leaves `mid`, with the close of its event that leaves `new`: reason BLIND for
both, or one of its own for a quiet run that ends (log 14). -/
def blindReports (old mid new : Clr) (reason : CoolerReason) : List Msg :=
  if reason = .blind then [coolerStateReport old new .blind]
  else coolerStateReport old mid .blind :: stateReports mid new reason

/-- R96: the alert condition handed on. -/
def warmAlert (raised : Bool) : Msg := .alr (.condition Kind.coolerWarm raised)

/-- R96: COOLER_WARM. -/
def warmReport (raised : Bool) (cabinet : Option Int) : Msg := post Cause.coolerWarm (flagByte raised ++ tempField cabinet)

/-- R96: the warm condition handed on. -/
def warmMsgs (raised : Bool) (cabinet : Option Int) : List Msg := [warmAlert raised, warmReport raised cabinet]

/-- R96: the cooler enters DISABLED. -/
def entersDisabled (old new : Clr) : Bool := new.state == .disabled && old.state != .disabled

/-- R96: on entry to DISABLED the warm time is set to 0 and a raised condition cleared. -/
def dropWarm (old new : Clr) : Clr := if entersDisabled old new then { new with warmTime := 0, warm := false } else new

/-- R100: what a change from `old` to `new` hands on, in the order of that rule's table: to CHG, to DMD, to ALR, and to RPQ the
given reports of the change, COOLER_FAULT and COOLER_WARM. R100 states that order at a stop; at every other change it is the
model's choice (log 57). -/
def handCooler (s : State) (old new : Clr) (reports : List Msg) : Clr × List Msg :=
  let cabinet := s.chg.temp 2
  let d := coolDemand new s.rcl.quiet
  let warmEnds := entersDisabled old new && new.warm
  ({ dropWarm old new with posted := d },
    msgsIf ((old.state == .running) != (new.state == .running)) [.chg .review] ++
      msgsIf (d != new.posted) [.dmd (.update 2 d)] ++ msgsIf warmEnds [warmAlert false] ++ reports ++
      msgsIf (old.state != .faulted && new.state == .faulted) [post Cause.coolerFault (u8 new.stalls ++ tempField cabinet)] ++
      msgsIf warmEnds [warmReport false cabinet])

/-- R100: a change of state with its reason, handed on. -/
def handChange (s : State) (old new : Clr) (reason : CoolerReason) : Clr × List Msg :=
  handCooler s old new (stateReports old new reason)

/-- A start is left as it is unless it finds COMP_FAULT asserted: then it stalls at once (R92). -/
def stallAtStart (s : State) (old : Clr) (f : Clr × List Msg) : Clr × List Msg :=
  if old.state ≠ .running ∧ f.1.state = .running ∧ f.1.faultPin = true then
    let g := handChange s f.1 (stallCooler f.1) .stall
    (g.1, f.2 ++ g.2)
  else f

/-- The end of an event at CLR: the close, what is handed on, and a stall found at a start. -/
def conclude (s : State) (old new : Clr) (reason : CoolerReason) : Clr × List Msg :=
  let c := closeEvent new s.rcl.quiet reason
  stallAtStart s old (handChange s old c.1 c.2)

/-- The end of a measurement that changed blind mode (R97). -/
def concludeBlind (s : State) (old mid : Clr) : Clr × List Msg :=
  let c := closeEvent mid s.rcl.quiet .blind
  stallAtStart s old (handCooler s old c.1 (blindReports old mid c.1 c.2))

/-! ### Measurements (R85, R96, R97) -/

/-- R97, R85: blind mode and the call at a measurement. -/
def cabinetReading (c : Clr) (cabinet : Option Int) : Clr :=
  match cabinet with
  | none => if c.blind then c else { c with blind := true, blindOff := none }
  | some t =>
    if c.blind then { c with blind := false, blindOff := none, call := decide (effectiveSetpoint c ≤ t) }
    else { c with call := nextCall c t }

/-- R85: the rise of the call that ends DOZE. -/
def callRise (old new : Clr) : List Msg :=
  msgsIf (!old.call && new.call && new.settings.enable && new.state != .faulted) [.chg .wake]

/-- R96: the warm condition is raised when the warm time has reached 1,800 s. -/
def raiseWarm (c : Clr) (cabinet : Option Int) : Clr × List Msg :=
  if 1800 ≤ c.warmTime ∧ c.warm = false ∧ c.state ≠ .disabled then ({ c with warm := true }, warmMsgs true cabinet)
  else (c, [])

/-- R96: the warm watch at a measurement. -/
def warmWatch (c : Clr) (dt : Nat) (cabinet : Option Int) : Clr × List Msg :=
  match cabinet with
  | none => (c, [])
  | some t =>
    if c.state = .disabled then (c, [])
    else if c.settings.setpoint + 80 < t then raiseWarm { c with warmTime := satAdd 1800 c.warmTime dt } cabinet
    else if t ≤ c.settings.setpoint + divT c.settings.band 2 ∧ c.warm = true then
      ({ c with warmTime := 0, warm := false }, warmMsgs false cabinet)
    else ({ c with warmTime := 0 }, [])

/-- A measurement at CLR, in the order of log 14. -/
def coolerMeasured (dt : Nat) (cabinet : Option Int) (s : State) : Clr × List Msg :=
  let c := s.clr
  let c1 := cabinetReading c cabinet
  let r := if c.blind = c1.blind then conclude s c c1 .thermostat else concludeBlind s c (driveSpeed c1 s.rcl.quiet)
  let w := warmWatch r.1 dt cabinet
  (w.1, callRise c c1 ++ r.2 ++ w.2)

/-! ### Timers (R84, R89, R91 to R94, R97) -/

/-- R94: the ring duty. -/
def ringDuty (ring : List Nat) : Nat := if ring.length < 15 then 500 else ring.sum * 1000 / (ring.length * 60)

/-- R94: the minute timer's expiry. -/
def minuteEvent (s : State) : Clr × List Msg :=
  let c := s.clr
  if c.minute = 0 then
    let ring := (if c.ring.length < 60 then c.ring else c.ring.drop 1) ++ [c.secondsOn]
    conclude s c { c with ring := ring, secondsOn := 0, minute := 60, duty := ringDuty ring } .timer
  else (c, [])

/-- One second at CLR. -/
def coolerSecond (c : Clr) : Clr :=
  { c with
    runTime := if c.state = .running then c.runTime + 1 else c.runTime
    minOn := tick c.minOn
    minOff := tick c.minOff
    pause := tick c.pause
    backoff := tick c.backoff
    blindOff := tick c.blindOff
    secondsOn := if c.compEn then c.secondsOn + 1 else c.secondsOn
    minute := c.minute - 1 }

/-- R92: COMP_FAULT. The same level again is no change (log 24). -/
def compFaultEvent (asserted : Bool) (s : State) : Clr × List Msg :=
  let c := s.clr
  if asserted = c.faultPin then (c, [])
  else
    let c1 := { c with faultPin := asserted }
    if asserted = true ∧ c.state = .running then handChange s c (stallCooler c1) .stall else (c1, [])

/-! ### Grants and the quiet flag (R86, R90, R91) -/

/-- R100: the reason of a change by a grant. -/
def grantReason (level : Nat) (budget : Budget) : CoolerReason := if level = 0 ∧ budget = .cutoff then .cutoff else .grant

/-- R90. A grant of 0 that ends a PAUSE has the reason of the grant, GRANT or CUTOFF, and not QUIET, the model's choice (log 14). -/
def coolerGrant (level : Nat) (budget : Budget) (s : State) : Clr × List Msg :=
  let c := s.clr
  let quiet := s.rcl.quiet
  let c1 := driveSpeed { c with grant := some (level, budget) } quiet
  let reason := grantReason level budget
  match c.state with
  | .running =>
    if level = 0 ∧ budget = .cutoff then handChange s c (stopAndSettle (clearStalls c1) quiet) reason
    else conclude s c c1 reason
  | .pause => if level = 0 then handChange s c { c1 with state := .shed, pause := none } reason else (c1, [])
  | _ => conclude s c c1 reason

/-- R86, R87, R91: a change of the quiet flag. -/
def coolerQuiet (flag : Bool) (s : State) : Clr × List Msg :=
  let c := s.clr
  let quiet := s.rcl.quiet
  let c1 := driveSpeed (if flag then c else { c with prechill := false }) quiet
  if flag = false ∧ c.state = .pause then
    conclude s c { c1 with pause := none, state := .idle } .quiet
  else conclude s c c1 .quiet

/-! ### Settings and actions (R98, R99) -/

/-- R98: the settings that COOL_SET applies, clamped. -/
def clampCool (x : CoolArgs) : CoolSettings where
  enable := x.enable == 1
  setpoint := clampInt (-200) 100 x.setpoint
  band := clampInt 10 60 x.band
  hostMax := clampNat 1 3 x.hostMax
  offset := clampInt 0 50 x.offset
  qRun := clampNat 300 1800 x.qRun
  qPause := x.qPause
  currents := x.currents

/-- Whether COOL_SET's values needed no clamp (R98). -/
def coolExact (x : CoolArgs) : Bool :=
  let p := clampCool x
  p.setpoint == x.setpoint && p.band == x.band && p.hostMax == x.hostMax && p.offset == x.offset && p.qRun == x.qRun

/-- R98: the rows marked RANGE. -/
def coolInRange (x : CoolArgs) : Bool :=
  decide (x.enable ≤ 1) && [0, 300, 600, 1200].contains x.qPause && x.currents.length == 3 && currentsOk x.currents

/-- R98: how the enable setting, as now set, acts by the state; the close of the event does the rest. -/
def actEnable (c : Clr) : Clr :=
  match c.state with
  | .disabled => if c.settings.enable then { c with state := .idle } else c
  | .faulted => { c with stalls := 0, state := .idle }
  | .pause | .backoff => if c.settings.enable then c else { c with state := .idle, pause := none, backoff := none }
  | _ => c

/-- R98: new settings applied. -/
def applyCool (p : CoolSettings) (reason : CoolerReason) (s : State) : Clr × List Msg :=
  let c := s.clr
  conclude s c (driveSpeed (actEnable { c with settings := p }) s.rcl.quiet) reason

/-- R98: COOL_SET. -/
def coolSet (x : CoolArgs) (s : State) : Clr × List Msg :=
  if coolInRange x then
    let r := applyCool (clampCool x) .host s
    (r.1, (if coolExact x then answer .ok [] else answer .clamped (coolBytes (clampCool x))) :: r.2)
  else (s.clr, [answer .range []])

/-- R99: the setpoint a COOL_ENABLE may carry, clamped. -/
def coolSetpoint (param : Option Int) (p : CoolSettings) : CoolSettings :=
  match param with
  | some x => { p with setpoint := clampInt (-200) 100 x }
  | none => p

/-- R99: the schedule's actions at CLR; the answer to SCH stands last (log 54). -/
def coolerAction (a : Action) (param : Option Int) (s : State) : Clr × List Msg :=
  let c := s.clr
  match a with
  | .coolEnable =>
    let p := coolSetpoint param c.settings
    if c.state = .faulted then ({ c with settings := p }, [.sch (.answer (some .state))])
    else
      let r := applyCool { p with enable := true } .schedule s
      (r.1, r.2 ++ [.sch (.answer none)])
  | .coolDisable =>
    let r := applyCool { c.settings with enable := false } .schedule s
    (r.1, r.2 ++ [.sch (.answer none)])
  | _ =>
    if c.state = .faulted ∨ c.state = .disabled then (c, [.sch (.answer (some .state))])
    else ({ c with prechill := true }, [.sch (.answer none)])

/-! ### Events -/

/-- A timer's expiry: when it has run out, the changed state is concluded with the given reason. -/
def coolerExpiry (due : Bool) (change : Clr → Clr) (reason : CoolerReason) (s : State) : Clr × List Msg :=
  if due then conclude s s.clr (change s.clr) reason else (s.clr, [])

/-- R91: the pause has run its time, which is never shorter than the min-off time: a min-off timer that has run out with it counts
as expired. -/
def endPause (c : Clr) : Clr :=
  { c with pause := none, state := .idle, minOff := if ranOut c.minOff then none else c.minOff }

/-- What each event at CLR does. -/
def clrHandle (e : ClrEv) (s : State) : Clr × List Msg :=
  let c := s.clr
  match e with
  | .measured dt cabinet => coolerMeasured dt cabinet s
  | .second => (coolerSecond c, [])
  | .minOnExpiry => coolerExpiry (ranOut c.minOn) (fun c => { c with minOn := none }) .timer s
  | .minOffExpiry => coolerExpiry (ranOut c.minOff) (fun c => { c with minOff := none }) .timer s
  | .quietRunEnd => coolerExpiry (quietRunDue c s.rcl.quiet) id .quiet s
  | .stallClear => (clearStalls c, [])
  | .blindRunEnd => coolerExpiry (c.blind && c.state == .running && decide (600 ≤ c.runTime)) id .thermostat s
  | .pauseExpiry =>
    coolerExpiry (c.state == .pause && ranOut c.pause) endPause .quiet s
  | .compFault asserted => compFaultEvent asserted s
  | .backoffExpiry =>
    coolerExpiry (c.state == .backoff && ranOut c.backoff) (fun c => { c with backoff := none, state := .idle }) .timer s
  | .blindOffExpiry => coolerExpiry (ranOut c.blindOff) (fun c => { c with blindOff := none }) .timer s
  | .minuteExpiry => minuteEvent s
  | .warmRaise => raiseWarm c (s.chg.temp 2)
  | .grant level budget => coolerGrant level budget s
  | .quiet flag => coolerQuiet flag s
  | .restClosed => ({ c with prechill := false }, [])
  | .set x => coolSet x s
  | .defaults => applyCool defaultCooler .host s
  | .act a p => coolerAction a p s

end Sys2Proof.Machine
end

