-- ==== Sys2Proof/Machine/Htr.lean ====
section
/-! DEFINITION. The Heater Sequencer (chapter 3): states and outputs, starts, level control, purges, faults, lockout, level
tables and the frost guard. -/

namespace Sys2Proof.Machine

/-! ### Outputs, cap and demand (R52, R61, R77) -/

/-- Level `n` (1 to 4) of a level table (R76). -/
def tableRow (t : List LevelRow) (n : Nat) : LevelRow := t.getD (n - 1) ⟨0, 0, 0, 0⟩

/-- R52: the outputs each state sets. -/
def outputsOf (seq : HeaterState) (table : List LevelRow) (level : Nat) : HeaterOut :=
  match seq with
  | .off | .precheck | .wait | .lockout => ⟨false, 0, 0, 0⟩
  | .preheat => ⟨true, 0, 200, 0⟩
  | .ignite => ⟨true, (tableRow table 1).pump, (tableRow table 1).burner, 0⟩
  | .ramp => ⟨false, (tableRow table 1).pump, (tableRow table 1).burner, (tableRow table 1).air⟩
  | .run => ⟨false, (tableRow table level).pump, (tableRow table level).burner, (tableRow table level).air⟩
  | .purge => ⟨false, 0, 1000, 1000⟩

/-- The outputs follow the state, the active table and the level (R52). -/
def driveHeater (h : Htr) : Htr := { h with out := outputsOf h.seq h.table h.level }

/-- R61. -/
def effectiveMax (h : Htr) : Nat := if h.frostLimited then 1 else h.profile.maxLevel

/-- R61: the level cap. An owner without a grant acts as on a grant of 0 (R51). -/
def levelCap (h : Htr) (quiet : Bool) : Nat :=
  let c := min (effectiveMax h) (h.grant.getD 0)
  if quiet then min c h.profile.quietCap else c

/-- R61, R62: what a new cap does to the level in RUN. -/
def recap (h : Htr) (quiet : Bool) : Htr :=
  let cap := levelCap h quiet
  if h.seq = .run ∧ 1 ≤ cap then
    driveHeater { h with level := if h.cabin.isNone then min 2 cap else min h.level cap }
  else h

/-- R77: the requested level. -/
def heaterRequest (h : Htr) : Nat :=
  match h.seq with
  | .off | .wait | .lockout | .purge => 0
  | .precheck | .preheat | .ignite => 1
  | .ramp | .run => effectiveMax h

/-- R77: the start charge is present in PRECHECK, PREHEAT and IGNITE. -/
def heaterStartCharge (h : Htr) : Option Nat :=
  match h.seq with
  | .precheck | .preheat | .ignite => some h.profile.startCharge
  | _ => none

/-- R77: the class. -/
def heaterClass (h : Htr) : Nat := if h.frostFlag && h.profile.frostGuard then 0 else 1

/-- R77: HTR's demand update. -/
def heaterDemand (h : Htr) : Msg :=
  .dmd (.update 1 ⟨heaterRequest h, h.table.map LevelRow.current, 1000, some (heaterClass h), some (heaterStartCharge h)⟩)

/-! ### Faults and retained items (R70, R74, R75) -/

/-- R70: a fault replaces the code unless the lockout flag is set. -/
def recordFault (f : HeaterFault) (k : Retained) : Retained := if k.lockout then k else { k with fault := some f }

/-- R74: a failure counted; the third sets the lockout flag. -/
def countFailure (k : Retained) : Retained :=
  { k with failures := satAdd 3 k.failures 1, lockout := k.lockout || decide (3 ≤ k.failures + 1) }

/-- R74: an overheat counted; the second sets the lockout flag. -/
def countOverheat (k : Retained) : Retained :=
  { k with overheats := satAdd 2 k.overheats 1, lockout := k.lockout || decide (2 ≤ k.overheats + 1) }

/-- The destination of a purge after a fault: LOCKOUT with the flag set, else OFF (R72, R74, R83). -/
def faultDest (k : Retained) : PurgeDest := if k.lockout then .lockout else .off

/-- R53, R74: a change of the retained items is handed to STO. -/
def handItems (before after : Retained) : List Msg := msgsIf (before != after) [.sto (.heater after)]

/-- The retained items replaced without a change of state. -/
def setKeep (k : Retained) (h : Htr) : Htr × List Msg := ({ h with keep := k }, handItems h.keep k)

/-! ### A change of state (R53) -/

/-- The length of the state timer (R57 to R60). -/
def stateSeconds : HeaterState → Option Nat
  | .precheck => some 5
  | .preheat => some 30
  | .ignite => some 90
  | .ramp => some 60
  | _ => none

/-- R76: a pending table becomes active. -/
def adoptTable (h : Htr) : Htr :=
  match h.pendingTable with
  | some t => { h with table := t, pendingTable := none }
  | none => h

/-- The level a state is entered with: RUN keeps the one its caller chose (R52). -/
def entryLevel (new : HeaterState) (level : Nat) : Nat :=
  match new with
  | .ramp => 1
  | .run => level
  | _ => 0

/-- What a state's own rule sets on its entry: R59 for IGNITE, R65 for RAMP, R60 for RUN. -/
def entrySettings (new : HeaterState) (h : Htr) : Htr :=
  match new with
  | .ignite => { h with attempts := satAdd 2 h.attempts 1, reference := h.flame }
  | .ramp => { h with flameLow := 0 }
  | .run => { h with sc := h.profile.mLo, bias := .raise, samples := 0, cold := 0, warm := 0, idle := 0 }
  | _ => h

/-- HTR's own state on entry to `new` (R53): timer, level, the frost start limit (R79), an adopted table, the outputs. -/
def enteredState (new : HeaterState) (h : Htr) : Htr :=
  let h1 := entrySettings new h
  let h2 : Htr :=
    { h1 with
      seq := new
      level := entryLevel new h.level
      timer := stateSeconds new
      frostLimited := h.frostLimited && !(new == .off || new == .lockout)
      frostRetry := if new = .off then h.frostRetry else none }
  driveHeater (if new = .off ∨ new = .wait then adoptTable h2 else h2)

/-- R53: the messages of a change of state from `old` to `h`, in that rule's order, with the posts of R75 and R76 in their places
by the model's choice (log 53). -/
def entryMsgs (old h : Htr) (reason : HeaterReason) : List Msg :=
  msgsIf (old.pendingTable.isSome && h.pendingTable.isNone) [post Cause.tableApplied []] ++
    [.chg .review, heaterDemand h] ++ handItems old.keep h.keep ++
    msgsIf (h.seq == .lockout && old.seq != .lockout)
      [post Cause.heaterLockout (u8 (faultCode h.keep.fault) ++ u8 h.keep.failures ++ u8 h.keep.overheats),
        .alr (.condition Kind.heaterLockout true)] ++
    msgsIf (old.seq == .lockout && h.seq != .lockout) [.alr (.condition Kind.heaterLockout false)] ++
    [post Cause.heaterState (u8 old.seq.code ++ u8 h.seq.code ++ u8 (faultCode h.keep.fault) ++ u8 reason.code)]

/-- R53: the sequencer enters `new` with the retained items `keep`. -/
def enter (new : HeaterState) (reason : HeaterReason) (keep : Retained) (h : Htr) : Htr × List Msg :=
  let h' := enteredState new { h with keep := keep }
  (h', entryMsgs h h' reason)

/-- R79: an entry to OFF while the frost flag is held makes a frost start, taken as a later event (log 12). -/
def frostAtOff (h : Htr) : List Msg := msgsIf (h.seq == .off && h.frostFlag && !h.startUpDue) [.htr .frostStart]

/-- R53 and R79: an entry to a state, followed by the frost start that an entry to OFF makes. -/
def goTo (new : HeaterState) (reason : HeaterReason) (keep : Retained) (h : Htr) : Htr × List Msg :=
  let r := enter new reason keep h
  (r.1, r.2 ++ frostAtOff r.1)

/-- R66: an entry to PURGE. -/
def purgeTo (dest : PurgeDest) (kind : PurgeKind) (startUp : Bool) (reason : HeaterReason) (keep : Retained) (h : Htr) :
    Htr × List Msg :=
  goTo .purge reason keep { h with purge := ⟨dest, kind, 0, startUp⟩ }

/-- The state a purge destination names (R66). -/
def PurgeDest.state : PurgeDest → HeaterState
  | .preheat => .preheat
  | .off => .off
  | .wait => .wait
  | .lockout => .lockout

/-! ### Starts (R54 to R57, R79) -/

/-- R57: the first check that fails, with its fault. -/
def precheckFault (h : Htr) : Option HeaterFault :=
  match h.flame with
  | none => some .f1
  | some f =>
    if 600 ≤ f then some .f1
    else if h.overheat.isNone then some .f2
    else if h.volts.any fun v => decide (v < h.profile.vHeat) then some .f6
    else none

/-- R57: a check that fails ends the start in OFF. -/
def precheckTest (h : Htr) : Htr × List Msg :=
  match precheckFault h with
  | some f => goTo .off .fault (recordFault f h.keep) h
  | none => (h, [])

/-- R54: what an admitted start sets before it enters PRECHECK. -/
def startSettings (h : Htr) : Htr :=
  { h with attempts := 0, restartUsed := false, sessionRun := 0, flameLow := 0, idle := 0 }

/-- R54, R70: the fault code at a start. -/
def startKeep (k : Retained) : Retained := if k.lockout then k else { k with fault := none }

/-- R54: admission (R44) is asked with a duty of 1000 and the start charge. -/
def startAdmitted (h : Htr) (s : State) : Bool := admits s.dmd s 1000 h.profile.startCharge

/-- R54: an admitted start, with the checks at the entry to PRECHECK (R57). -/
def beginStart (reason : HeaterReason) (h : Htr) : Htr × List Msg :=
  let r := enter .precheck reason (startKeep h.keep) (startSettings h)
  let c := precheckTest r.1
  (c.1, r.2 ++ c.2)

/-- R55: what a start request or action comes to. -/
inductive StartAnswer
  | accepted
  | already
  | refused
  | noBudget
  deriving DecidableEq, Repr

/-- R55, R56: a start asked for by the host or the schedule. -/
def requestStart (reason : HeaterReason) (h : Htr) (s : State) : Htr × List Msg × StartAnswer :=
  match h.seq with
  | .off =>
    if h.startUpDue then (h, [], .refused)
    else if startAdmitted h s then
      let r := beginStart reason h
      (r.1, r.2, .accepted)
    else (h, [], .noBudget)
  | .purge => (h, [], if h.purge.dest = .preheat ∨ h.purge.dest = .wait then .already else .refused)
  | .lockout => (h, [], .refused)
  | _ => (h, [], .already)

/-- R55: the reply. -/
def StartAnswer.status : StartAnswer → Status
  | .accepted => .accepted
  | .already => .ok
  | .refused => .state
  | .noBudget => .noBudget

/-- R56: the answer to SCH. -/
def StartAnswer.refuse : StartAnswer → Option Refuse
  | .accepted | .already => none
  | .refused => some .state
  | .noBudget => some .noBudget

/-- A HEATER_STATE report without a change of state: the refused frost start from OFF (R79). -/
def stayReport (h : Htr) (reason : HeaterReason) : Msg :=
  post Cause.heaterState (u8 h.seq.code ++ u8 h.seq.code ++ u8 (faultCode h.keep.fault) ++ u8 reason.code)

/-- R79: a frost start, in OFF or WAIT. One whose entry checks fail at once is tried again at the next measurement in OFF
(log 11). -/
def frostStart (h : Htr) (s : State) : Htr × List Msg :=
  if startAdmitted h s then
    let r := enter .precheck .frost (startKeep h.keep) (startSettings { h with frostLimited := true })
    match precheckFault r.1 with
    | some f =>
      let c := enter .off .fault (recordFault f r.1.keep) r.1
      ({ c.1 with frostDeferred := true }, r.2 ++ c.2)
    | none => r
  else if h.seq = .off then ({ h with frostRetry := some 60 }, [stayReport h .noBudget])
  else
    let r := enter .off .noBudget h.keep h
    ({ r.1 with frostRetry := some 60 }, r.2)

/-- R79 as an event: in OFF or WAIT with the flag held. -/
def frostEvent (h : Htr) (s : State) : Htr × List Msg :=
  if h.frostFlag ∧ h.startUpDue = false ∧ (h.seq = .off ∨ h.seq = .wait) then frostStart h s
  else (h, [])

/-! ### Frost guard (R78) -/

/-- R78: the flag changes; FROST_GUARD and the demand update follow. A release clears the frost start limit and stops the
retry timer (R79). -/
def setFrostFlag (held : Bool) (h : Htr) : Htr × List Msg :=
  let h' : Htr :=
    if held then { h with frostFlag := true }
    else { h with frostFlag := false, frostLimited := false, frostRetry := none, frostDeferred := false }
  (h', [post Cause.frostGuard (flagByte held ++ tempField h.cabin), heaterDemand h'])

/-- R78: the test at each measurement; a flag that becomes held in OFF makes a frost start (R79). -/
def frostTest (h : Htr) : Htr × List Msg :=
  match h.profile.frostGuard, h.cabin with
  | true, some c =>
    if c < h.profile.frostLimit ∧ h.frostFlag = false then
      let r := setFrostFlag true h
      (r.1, r.2 ++ frostAtOff r.1)
    else if h.profile.frostLimit + 20 ≤ c ∧ h.frostFlag = true then setFrostFlag false h
    else (h, [])
  | _, _ => (h, [])

/-! ### Burning: faults, flame-out, control periods, idle stop (R62 to R65, R71, R72) -/

/-- R59, R65, R74: a counted failure ends the start in a purge. -/
def failStart (f : HeaterFault) (h : Htr) : Htr × List Msg :=
  let k := countFailure (recordFault f h.keep)
  purgeTo (faultDest k) .normal false .fault k h

/-- R65: a flame-out. -/
def flameOut (h : Htr) : Htr × List Msg :=
  let p := post Cause.heaterFlameOut (u8 h.seq.code ++ tempField h.flame)
  if h.restartUsed then
    let r := failStart .f4 h
    (r.1, p :: r.2)
  else
    let r := purgeTo .preheat .normal false .none h.keep { h with restartUsed := true, attempts := 0 }
    (r.1, p :: r.2)

/-- R71, R72: the first fault that a measurement finds while burning, taken. -/
def burningFault (vHard : Nat) (h : Htr) : Option (Htr × List Msg) :=
  match h.flame, h.overheat with
  | none, _ => some (purgeTo .off .fixed false .fault (recordFault .f1 h.keep) h)
  | some _, none => some (purgeTo .off .fixed false .fault (recordFault .f2 h.keep) h)
  | some _, some o =>
    if 1200 < o then
      let k := countOverheat (recordFault .f5 h.keep)
      let r := purgeTo (faultDest k) .normal false .fault k h
      some (r.1, post Cause.heaterOverheat (s16 o) :: r.2)
    else if h.volts.any fun v => decide (v < vHard) then
      some (purgeTo .off .normal false .fault (recordFault .f6 h.keep) h)
    else none

/-- R65: the flame-low time after a measurement. -/
def flameLowAfter (h : Htr) (dt : Nat) : Nat :=
  match h.flame with
  | some f => if f < h.profile.flamePresent then h.flameLow + dt else 0
  | none => h.flameLow

/-- R63: SC and the bias after net. -/
def stepCount (sc : Nat) (bias : Bias) (net : Int) : Nat × Bias :=
  let n := if bias = .raise then net else -net
  if 0 ≤ n then (sc + n.toNat, bias)
  else if n.natAbs ≤ sc then (sc - n.natAbs, bias)
  else (n.natAbs - sc, if bias = .raise then .lower else .raise)

/-- R63: one step of the level in the bias direction, kept within 1..cap. -/
def stepLevel (bias : Bias) (level cap : Nat) : Nat :=
  match bias with
  | .raise => if level + 1 ≤ cap then level + 1 else level
  | .lower => if 2 ≤ level then level - 1 else level

/-- R63. -/
def stepCounter (h : Htr) (net : Int) (quiet : Bool) : Htr :=
  let c := stepCount h.sc h.bias net
  if h.profile.mHi ≤ c.1 then
    driveHeater { h with sc := h.profile.mLo, bias := c.2, level := stepLevel c.2 h.level (levelCap h quiet) }
  else { h with sc := c.1, bias := c.2 }

/-- R62: the control period ends when the sample count has reached 10. -/
def controlPeriod (h : Htr) (quiet : Bool) : Htr :=
  if h.seq = .run ∧ 10 ≤ h.samples then
    stepCounter { h with samples := 0, cold := 0, warm := 0 } ((h.cold : Int) - h.warm) quiet
  else h

/-- R62: one measurement in RUN. -/
def thermostatSample (h : Htr) (quiet : Bool) : Htr :=
  match h.cabin with
  | some c =>
    controlPeriod
      { h with
        samples := h.samples + 1
        cold := if c < h.profile.setpoint - h.profile.deadband then h.cold + 1 else h.cold
        warm := if h.profile.setpoint + h.profile.deadband < c then h.warm + 1 else h.warm } quiet
  | none => recap { h with samples := 0, cold := 0, warm := 0 } quiet

/-- R64: the idle time after a measurement in RUN. -/
def idleAfter (h : Htr) (dt : Nat) : Nat :=
  if h.level = 1 ∧ (h.cabin.any fun c => decide (h.profile.setpoint + 30 < c)) = true then h.idle + dt else 0

/-- R74: the overheat count after a session of this length that ends by HEAT_STOP or by idle stop. -/
def endSessionKeep (sessionRun : Nat) (k : Retained) : Retained := if 1800 ≤ sessionRun then { k with overheats := 0 } else k

/-- R64: the idle stop, when the idle time has reached 300 s. -/
def idleStop (h : Htr) : Htr × List Msg :=
  if h.seq = .run ∧ 300 ≤ h.idle then purgeTo .wait .normal false .thermostat (endSessionKeep h.sessionRun h.keep) h
  else (h, [])

/-- R65: the flame-out watch at a measurement, and what follows when there is none. -/
def flameWatch (dt : Nat) (h : Htr) (next : Htr → Htr × List Msg) : Htr × List Msg :=
  let h' := { h with flameLow := flameLowAfter h dt }
  if 15 ≤ h'.flameLow then flameOut h' else next h'

/-- A measurement in IGNITE (R59, R71, R72): the faults are tested before the success of the ignition (log 40). -/
def measuredIgnite (vHard : Nat) (h : Htr) : Htr × List Msg :=
  match burningFault vHard h with
  | some r => r
  | none =>
    match h.flame, h.reference with
    | some f, some ref => if ref + 400 ≤ f then goTo .ramp .none h.keep h else (h, [])
    | _, _ => (h, [])

/-- A measurement in RAMP (R60, R65, R71, R72). -/
def measuredRamp (vHard dt : Nat) (h : Htr) : Htr × List Msg :=
  match burningFault vHard h with
  | some r => r
  | none => flameWatch dt h fun h => (h, [])

/-- A measurement in RUN, in the order of log 15 (R62 to R65, R71, R72, R74). -/
def measuredRun (vHard dt : Nat) (quiet : Bool) (h : Htr) : Htr × List Msg :=
  let h1 := { h with sessionRun := h.sessionRun + dt }
  match burningFault vHard h1 with
  | some r => r
  | none =>
    flameWatch dt h1 fun h2 =>
      let h3 := thermostatSample h2 quiet
      idleStop { h3 with idle := idleAfter h3 dt }

/-! ### Purge (R66, R67, R71) -/

/-- R66: a NORMAL purge may end. -/
def purgeDone (h : Htr) : Bool :=
  h.purge.kind == .normal && decide (120 ≤ h.purge.time) && h.flame.any fun f => decide (f < 600)

/-- The purge ends in its destination (R66, R67). -/
def endPurge (h : Htr) : Htr × List Msg := goTo h.purge.dest.state .none h.keep h

/-- R71: what an invalid OVERHEAT does in a purge. -/
def purgeOverheat (h : Htr) (starting : Bool) : Htr :=
  if h.overheat.isSome ∨ (h.purge.startUp = true ∧ starting = true) then h
  else
    { h with
      keep := recordFault .f2 h.keep
      purge := { h.purge with dest := if h.purge.dest = .lockout then .lockout else .off } }

/-- R67, R71: what an invalid FLAME does in a purge. -/
def purgeFlame (h : Htr) (starting : Bool) : Htr :=
  if h.flame.isSome ∨ (h.purge.startUp = true ∧ starting = true) then h
  else
    { h with
      keep := recordFault .f1 h.keep
      purge :=
        { h.purge with
          kind := .fixed
          dest := if h.purge.dest = .preheat then .off else h.purge.dest } }

/-- A measurement in PURGE (R66, R71): invalid readings act, OVERHEAT before FLAME (log 28), before the test that ends the purge
(log 41). -/
def measuredPurge (r : HeaterReadings) (h : Htr) : Htr × List Msg :=
  let h' := purgeFlame (purgeOverheat h r.overheatStarting) r.flameStarting
  let ms := handItems h.keep h'.keep
  if purgeDone h' then
    let e := endPurge h'
    (e.1, ms ++ e.2)
  else (h', ms)

/-- R66: a NORMAL purge times out. -/
def purgeTimeout (h : Htr) : Htr × List Msg :=
  if h.seq = .purge ∧ h.purge.kind = .normal ∧ 300 ≤ h.purge.time then
    let k := recordFault .f7 h.keep
    goTo .lockout .fault { k with lockout := true } h
  else (h, [])

/-! ### Measurements in the other states -/

/-- R68, R79: a measurement in WAIT. A restart at the measurement that releases the frost flag asks for admission before DMD has
taken the class 1 that the release posts (log 39). -/
def measuredWait (h : Htr) (s : State) : Htr × List Msg :=
  if h.frostFlag then (h, [.htr .frostStart])
  else if h.cabin.all fun c => decide (c < h.profile.setpoint - 15) then
    if startAdmitted h s then beginStart .thermostat h else goTo .off .noBudget h.keep h
  else (h, [])

/-- R58: a measurement in PREHEAT. With FLAME and OVERHEAT both invalid the fault is F1: R58 gives no order of the two, and
FLAME first is the model's choice (log 56). -/
def measuredPreheat (h : Htr) : Htr × List Msg :=
  if h.flame.isNone then goTo .off .fault (recordFault .f1 h.keep) h
  else if h.overheat.isNone then goTo .off .fault (recordFault .f2 h.keep) h
  else (h, [])

/-- R83: the start-up check, at the first measurement after a reset. HEATER_LOCKOUT is posted before its alert condition is
raised, the model's choice (log 53). -/
def startUpCheck (r : HeaterReadings) (h : Htr) : Htr × List Msg :=
  if h.startUpDue = false then (h, [])
  else
    let h1 := { h with startUpDue := false }
    match r.flameSample with
    | some f =>
      if f < h.profile.flamePresent then
        (h1,
          msgsIf (h.seq == .lockout)
            [post Cause.heaterLockout (u8 (faultCode h.keep.fault) ++ u8 h.keep.failures ++ u8 h.keep.overheats),
              .alr (.condition Kind.heaterLockout true)])
      else purgeTo (faultDest h.keep) .normal true .none h.keep h1
    | none => purgeTo (faultDest h.keep) .fixed true .fault (recordFault .f1 h.keep) h1

/-- The readings HTR holds from the latest measurement (R25). -/
def takeReadings (r : HeaterReadings) (h : Htr) : Htr :=
  { h with flame := r.flame, overheat := r.overheat, cabin := r.cabin, volts := some r.volts, frostDeferred := false }

/-- A measurement by the sequencer state; `again` says that a frost start was put off to it (log 11). -/
def measuredState (r : HeaterReadings) (again : Bool) (h : Htr) (s : State) : Htr × List Msg :=
  match h.seq with
  | .off => (h, msgsIf again (frostAtOff h))
  | .lockout => (h, [])
  | .wait => measuredWait h s
  | .precheck => precheckTest h
  | .preheat => measuredPreheat h
  | .ignite => measuredIgnite s.chg.battery.vHard h
  | .ramp => measuredRamp s.chg.battery.vHard r.dt h
  | .run => measuredRun s.chg.battery.vHard r.dt s.rcl.quiet h
  | .purge => measuredPurge r h

/-- A measurement at HTR, in the order of log 15. -/
def heaterMeasured (r : HeaterReadings) (s : State) : Htr × List Msg :=
  let h := s.htr
  let su := startUpCheck r (takeReadings r h)
  if h.startUpDue then su
  else
    let fr := frostTest su.1
    let st := measuredState r h.frostDeferred fr.1 s
    (st.1, su.2 ++ fr.2 ++ st.2)

/-! ### Timers and grants -/

/-- R57, R58: the expiry of PRECHECK or PREHEAT, with the state that follows. -/
def startExpiry (seq next : HeaterState) (h : Htr) : Htr × List Msg :=
  if h.seq = seq ∧ h.timer = some 0 then
    if h.grant.getD 0 = 0 then goTo .off .fault (recordFault .f8 h.keep) h else goTo next .none h.keep h
  else (h, [])

/-- R59: the ignition window ends without success. -/
def igniteExpiry (h : Htr) : Htr × List Msg :=
  if h.seq = .ignite ∧ h.timer = some 0 then
    let p := post Cause.heaterIgnitionFailed (u8 h.attempts ++ tempField h.reference)
    let r :=
      if h.restartUsed then failStart .f4 h
      else if h.attempts ≤ 1 then purgeTo .preheat .normal false .none h.keep h
      else failStart .f3 h
    (r.1, p :: r.2)
  else (h, [])

/-- R60, R74: the entry to RUN. -/
def rampExpiry (quiet : Bool) (h : Htr) : Htr × List Msg :=
  if h.seq = .ramp ∧ h.timer = some 0 then
    goTo .run .none { h.keep with failures := 0 } { h with level := min 2 (levelCap h quiet) }
  else (h, [])

/-- R66: the expiry of the 120 s minimum. -/
def purgeMinimum (h : Htr) : Htr × List Msg :=
  if h.seq = .purge ∧ h.purge.time = 120 ∧ purgeDone h = true then endPurge h else (h, [])

/-- R67: a FIXED purge has run its 300 s. -/
def fixedPurge (h : Htr) : Htr × List Msg :=
  if h.seq = .purge ∧ h.purge.kind = .fixed ∧ 300 ≤ h.purge.time then endPurge h else (h, [])

/-- R65 as an event of its own (log 4). -/
def flameOutEvent (h : Htr) : Htr × List Msg :=
  if (h.seq = .ramp ∨ h.seq = .run) ∧ 15 ≤ h.flameLow then flameOut h else (h, [])

/-- R79: the frost retry timer's expiry. -/
def frostRetry (h : Htr) : Htr × List Msg :=
  if h.frostRetry = some 0 then ({ h with frostRetry := none }, [.htr .frostStart]) else (h, [])

/-- R61, R73: a delivered grant. -/
def heaterGrant (level : Nat) (quiet : Bool) (h : Htr) : Htr × List Msg :=
  let h' := { h with grant := some level }
  if level = 0 then
    match h.seq with
    | .precheck | .preheat => goTo .off .fault (recordFault .f8 h.keep) h'
    | .ignite | .ramp | .run => purgeTo .off .normal false .fault (recordFault .f8 h.keep) h'
    | _ => (h', [])
  else (recap h' quiet, [])

/-- One second at HTR: the state timer, the purge time and the frost retry timer. -/
def heaterSecond (h : Htr) : Htr :=
  { h with
    timer := tick h.timer
    purge := { h.purge with time := if h.seq = .purge then h.purge.time + 1 else h.purge.time }
    frostRetry := tick h.frostRetry }

/-! ### Requests and actions (R56, R69, R75, R76, R80) -/

/-- R77: an update at a change of the effective max level. -/
def demandIfMaxChanged (before after : Htr) : List Msg :=
  msgsIf (effectiveMax before != effectiveMax after) [heaterDemand after]

/-- R69. -/
def stopHeater (reason : HeaterReason) (h : Htr) : Htr × List Msg :=
  let h' := { h with frostLimited := false }
  let k := endSessionKeep h.sessionRun h.keep
  match h.seq with
  | .precheck | .preheat | .wait => goTo .off reason k h'
  | .ignite | .ramp | .run => purgeTo .off .normal false reason k h'
  | .purge =>
    if h.purge.dest = .preheat ∨ h.purge.dest = .wait then
      let r := setKeep k { h' with purge := { h.purge with dest := .off } }
      (r.1, demandIfMaxChanged h r.1 ++ r.2)
    else (h', demandIfMaxChanged h h')
  | .off | .lockout => (h', demandIfMaxChanged h h')

/-- R80: the profile that HEAT_SET applies, clamped. -/
def clampProfile (x : HeatArgs) : HeatProfile where
  setpoint := clampInt 50 300 x.setpoint
  deadband := clampInt 2 20 x.deadband
  maxLevel := clampNat 1 4 x.maxLevel
  quietCap := clampNat 1 4 x.quietCap
  frostGuard := x.frostGuard == 1
  frostLimit := clampInt 20 100 x.frostLimit
  flamePresent := clampInt 700 2000 x.flamePresent
  vHeat := clampNat 22000 28000 x.vHeat
  startCharge := clampNat 0 2000 x.startCharge
  mLo := x.mLo
  mHi := x.mHi

/-- Whether HEAT_SET's values needed no clamp (R80). -/
def heatExact (x : HeatArgs) : Bool :=
  let p := clampProfile x
  p.setpoint == x.setpoint && p.deadband == x.deadband && p.maxLevel == x.maxLevel && p.quietCap == x.quietCap &&
    p.frostLimit == x.frostLimit && p.flamePresent == x.flamePresent && p.vHeat == x.vHeat &&
    p.startCharge == x.startCharge

/-- R80: the values that are refused. -/
def heatInRange (x : HeatArgs) : Bool := decide (x.frostGuard ≤ 1) && decide (x.mLo < x.mHi) && decide (x.mHi ≤ 255)

/-- R80: the profile applied. A frost guard disabled with the flag held releases it (R78). -/
def applyProfile (p : HeatProfile) (quiet : Bool) (h : Htr) : Htr × List Msg :=
  let h1 := { h with profile := p, sc := min h.sc p.mHi }
  if p.frostGuard = false ∧ h.frostFlag = true then
    let r := setFrostFlag false h1
    (recap r.1 quiet, r.2)
  else
    let h2 := recap h1 quiet
    (h2, demandIfMaxChanged h h2)

/-- R80: HEAT_SET. -/
def heatSet (x : HeatArgs) (quiet : Bool) (h : Htr) : Htr × List Msg :=
  if heatInRange x then
    let r := applyProfile (clampProfile x) quiet h
    (r.1, (if heatExact x then answer .ok [] else answer .clamped (profileBytes (clampProfile x))) :: r.2)
  else (h, [answer .range []])

/-- R76: consecutive levels, neither pump rate nor current below the level before. -/
def rowsRise : List LevelRow → Bool
  | a :: b :: l => decide (a.pump ≤ b.pump) && decide (a.current ≤ b.current) && rowsRise (b :: l)
  | _ => true

/-- R76: the ranges of a level. -/
def rowInRange (r : LevelRow) : Bool :=
  natIn 50 600 r.pump && natIn 200 1000 r.burner && natIn 200 1000 r.air && intIn 20 1000 r.current

/-- R76: a table that may be written. -/
def tableInRange (t : List LevelRow) : Bool := t.length == 4 && t.all rowInRange && rowsRise t

/-- R76: a valid table written. -/
def writeTable (t : List LevelRow) (h : Htr) : Htr × List Msg :=
  match h.seq with
  | .off | .wait | .lockout =>
    let h' := { h with table := t, pendingTable := none }
    (h', [post Cause.tableApplied [], heaterDemand h'])
  | _ => ({ h with pendingTable := some t }, [])

/-- R76: HEAT_TABLE, write form. -/
def tableWrite (t : List LevelRow) (h : Htr) : Htr × List Msg :=
  if tableInRange t then
    let r := writeTable t h
    (r.1, answer .ok [] :: r.2)
  else (h, [answer .range []])

/-- What HEAT_CLEAR_LOCKOUT leaves where the lockout flag is clear: no counts (R75) and no fault code (R70; log 49). -/
def clearedKeep (k : Retained) : Retained := { k with failures := 0, overheats := 0, fault := none }

/-- R70, R75: HEAT_CLEAR_LOCKOUT. -/
def clearLockout (h : Htr) : Htr × List Msg :=
  match h.seq with
  | .lockout =>
    let r := goTo .off .none ⟨false, 0, 0, none⟩ h
    (r.1, answer .ok [] :: r.2)
  | .purge =>
    if h.purge.dest = .lockout then (h, [answer .state []])
    else
      let r := setKeep (clearedKeep h.keep) h
      (r.1, answer .ok [] :: r.2)
  | _ =>
    let r := setKeep (clearedKeep h.keep) h
    (r.1, answer .ok [] :: r.2)

/-- R202: the defaults applied as HEAT_SET and a HEAT_TABLE write apply them. -/
def heaterDefaults (quiet : Bool) (h : Htr) : Htr × List Msg :=
  let a := applyProfile defaultProfile quiet h
  let b := writeTable defaultTable a.1
  (b.1, a.2 ++ b.2)

/-- R56: the setpoint a PREHEAT_START may carry, clamped. -/
def applySetpoint (param : Option Int) (h : Htr) : Htr :=
  match param with
  | some x => { h with profile := { h.profile with setpoint := clampInt 50 300 x } }
  | none => h

/-- R56: the schedule's actions at HTR; the answer to SCH stands last (log 54). -/
def heaterAction (a : Action) (param : Option Int) (s : State) : Htr × List Msg :=
  match a with
  | .preheatStart =>
    let r := requestStart .schedule (applySetpoint param s.htr) s
    (r.1, r.2.1 ++ [.sch (.answer r.2.2.refuse)])
  | _ =>
    let r := stopHeater .schedule s.htr
    (r.1, r.2 ++ [.sch (.answer none)])

/-- What each event at HTR does. -/
def htrHandle (e : HtrEv) (s : State) : Htr × List Msg :=
  let h := s.htr
  let quiet := s.rcl.quiet
  match e with
  | .measured r => heaterMeasured r s
  | .second => (heaterSecond h, [])
  | .precheckExpiry => startExpiry .precheck .preheat h
  | .preheatExpiry => startExpiry .preheat .ignite h
  | .igniteExpiry => igniteExpiry h
  | .rampExpiry => rampExpiry quiet h
  | .controlPeriod => (controlPeriod h quiet, [])
  | .idleStop => idleStop h
  | .flameOut => flameOutEvent h
  | .purgeMinimum => purgeMinimum h
  | .purgeTimeout => purgeTimeout h
  | .fixedPurge => fixedPurge h
  | .frostRetry => frostRetry h
  | .frostStart => frostEvent h s
  | .grant level _ => heaterGrant level quiet h
  | .quiet => (recap h quiet, [])
  | .start =>
    let r := requestStart .host h s
    (r.1, answer r.2.2.status [] :: r.2.1)
  | .stop =>
    let r := stopHeater .host h
    (r.1, answer .ok [] :: r.2)
  | .set x => heatSet x quiet h
  | .tableRead => (h, [answer .ok (tableBytes h.table ++ flagByte h.pendingTable.isSome)])
  | .tableWrite t => tableWrite t h
  | .clearLockout => clearLockout h
  | .defaults => heaterDefaults quiet h
  | .act a p => heaterAction a p s

end Sys2Proof.Machine
end

