-- ==== Sys2Proof/Machine/Alr.lean ====
section
/-! DEFINITION. The Alert Unit (chapter 8): alert records, quiet suppression, the buzzer owner and its pattern, the flash and
acknowledgement. -/

namespace Sys2Proof.Machine

/-! ### Kinds (R161) -/

/-- R161: the urgency of a kind. -/
def urgency : Nat → Nat
  | 0 => 0
  | 1 | 2 => 1
  | 3 | 4 | 5 => 2
  | _ => 3

/-- R161: kinds 5 to 7 are event alerts. -/
def isEventKind (k : Nat) : Bool := decide (5 ≤ k)

/-- R167: the beeps of a burst. -/
def beepsOf : Nat → Nat
  | 0 => 5
  | 1 => 3
  | 2 => 2
  | _ => 1

/-- R167: the period P in milliseconds. -/
def periodOf : Nat → Nat
  | 0 => 10000
  | 1 => 20000
  | 2 => 30000
  | _ => 60000

/-- Record `k` (R161). -/
def Alr.record (a : Alr) (k : Nat) : AlertRecord := a.records.getD k inactiveRecord

/-- Record `k` replaced. -/
def setRecord (k : Nat) (r : AlertRecord) (a : Alr) : Alr := { a with records := a.records.set k r }

/-! ### The buzzer owner (R166 to R168) -/

/-- R166: the SOUNDING record of lowest urgency number and then lowest kind number. The kinds are listed in that order. -/
def candidate (a : Alr) : Option Nat := (List.range 8).find? fun k => (a.record k).state == .sounding

/-- R168: the request that starts the flash. -/
def startFlashMsg (channel : Nat) : Msg := .lgt (.flashStart channel 1000 4 4)

/-- R166 to R168: an alert becomes owner, its burst and the flash begin. -/
def becomeOwner (k : Nat) (a : Alr) : Alr × List Msg :=
  ({ a with owner := some k, phase := .beep 1 true, nextBurst := periodOf (urgency k), buzzer := true },
    [startFlashMsg a.channel])

/-- R166, R168: the owner becomes none. -/
def dropOwner (a : Alr) : Alr × List Msg :=
  ({ a with owner := none, phase := .silent, nextBurst := 0, buzzer := false, flashFlag := false },
    [.lgt (.flashCancel a.channel)])

/-- R166: settling. A handover in the gap is taken at once (R167). -/
def settleOwner (a : Alr) : Alr × List Msg :=
  match a.owner, candidate a with
  | none, some k => becomeOwner k a
  | none, none => (a, [])
  | some o, c =>
    if (a.record o).state = .sounding then
      match c with
      | some k => if k ≠ o ∧ a.phase = .gap then becomeOwner k a else (a, [])
      | none => (a, [])
    else
      match c with
      | some k => becomeOwner k a
      | none => dropOwner a

/-- R167: whether the last off period of the owner's burst is in progress. -/
def lastOff (a : Alr) : Bool :=
  match a.owner, a.phase with
  | some o, .beep n false => decide (beepsOf (urgency o) ≤ n)
  | _, _ => false

/-- R166, R167: the burst boundary. -/
def burstBoundary (a : Alr) : Alr × List Msg :=
  if lastOff a then
    match candidate a with
    | some k =>
      if some k = a.owner then ({ a with phase := .gap, nextBurst := a.nextBurst - 200 }, [])
      else becomeOwner k a
    | none => dropOwner a
  else (a, [])

/-- R167: 200 ms of a burst have passed. -/
def beepPhase (a : Alr) : Alr × List Msg :=
  match a.phase with
  | .beep n true => ({ a with phase := .beep n false, nextBurst := a.nextBurst - 200, buzzer := false }, [])
  | .beep n false =>
    if lastOff a then burstBoundary a
    else ({ a with phase := .beep (n + 1) true, nextBurst := a.nextBurst - 200, buzzer := true }, [])
  | _ => (a, [])

/-- R167: the next burst begins. -/
def burstStart (a : Alr) : Alr :=
  match a.phase, a.owner with
  | .gap, some o => { a with phase := .beep 1 true, nextBurst := periodOf (urgency o), buzzer := true }
  | _, _ => a

/-! ### Records (R162 to R165, R169, R171) -/

/-- R165: the state an alert enters when it leaves INACTIVE. -/
def soundState (k : Nat) (quiet : Bool) : AlertState := if quiet && decide (2 ≤ urgency k) then .held else .sounding

/-- R163: a condition raised or cleared. -/
def wordRecord (k : Nat) (raised quiet : Bool) (r : AlertRecord) : AlertRecord :=
  if r.raised = raised then r
  else if raised then
    { r with raised := true, state := if r.state = .inactive then soundState k quiet else r.state }
  else { r with raised := false, state := .inactive, resound := none }

/-- R164: an event raised. -/
def raiseRecord (k : Nat) (quiet : Bool) (r : AlertRecord) : AlertRecord :=
  match r.state with
  | .inactive => { r with state := soundState k quiet, sounding := 0 }
  | .sounding => { r with sounding := 0 }
  | _ => r

/-- R165: a change of the quiet flag at one record. -/
def quietRecord (k : Nat) (flag : Bool) (r : AlertRecord) : AlertRecord :=
  if flag then if r.state = .sounding ∧ 2 ≤ urgency k then { r with state := .held } else r
  else if r.state = .held then { r with state := .sounding }
  else r

/-- R169, R171: an acknowledgement at one record. -/
def ackRecord (k : Nat) (r : AlertRecord) : AlertRecord :=
  if isEventKind k then { r with state := .inactive }
  else { r with state := .silenced, resound := if urgency k ≤ 1 then some 600 else r.resound }

/-- R164, R171: one second at one record. -/
def secondRecord (k : Nat) (r : AlertRecord) : AlertRecord :=
  { r with
    sounding := if isEventKind k && r.state == .sounding then satAdd 600 r.sounding 1 else r.sounding
    resound := tick r.resound }

/-! ### Events -/

/-- R172: what CHG is told of a change from `before` to `a`. -/
def alertHands (before a : Alr) : List Msg :=
  msgsIf (anySounding before != anySounding a) [.chg .review] ++
    msgsIf ((List.range 8).any fun k => (before.record k).state == .inactive && (a.record k).state != .inactive)
      [.chg .wake]

/-- The end of an event that changed records: CHG is told (R172), then the owner settles (R162, R166); that CHG is told before
LGT is the model's choice (log 58). -/
def settleAlerts (before a : Alr) : Alr × List Msg :=
  let r := settleOwner a
  (r.1, alertHands before a ++ r.2)

/-- One record changed, then settled. -/
def changeRecord (k : Nat) (f : AlertRecord → AlertRecord) (a : Alr) : Alr × List Msg :=
  settleAlerts a (setRecord k (f (a.record k)) a)

/-- R169: an acknowledgement of record `k`, with its report. Source 0 is HOST, 1 BUTTON. -/
def acknowledge (k source : Nat) (a : Alr) : Alr × List Msg :=
  let r := changeRecord k (ackRecord k) a
  (r.1, r.2 ++ [post Cause.alertAcked (u8 k ++ u8 (r.1.record k).state.code ++ u8 source)])

/-- R169: whether a record can be acknowledged. -/
def AlertState.open : AlertState → Bool
  | .sounding | .held => true
  | _ => false

/-- R169: ALERT_ACK, acknowledge form. -/
def ackRequest (kind : Nat) (a : Alr) : Alr × List Msg :=
  if 7 < kind ∧ kind ≠ 255 then (a, [answer .range []])
  else
    match (if kind = 255 then a.owner else some kind) with
    | none => (a, [answer .state []])
    | some k =>
      if (a.record k).state.open then
        let r := acknowledge k 0 a
        (r.1, answer .ok (u8 k ++ u8 (r.1.record k).state.code) :: r.2)
      else (a, [answer .state []])

/-- R168, R172: a new alert channel. -/
def setAlertChannel (n : Nat) (a : Alr) : Alr × List Msg :=
  if a.owner.isSome ∧ n ≠ a.channel then
    ({ a with channel := n, flashFlag := false }, [.lgt (.flashCancel a.channel), startFlashMsg n])
  else ({ a with channel := n }, [])

/-- R172: ALERT_ACK, settings form. -/
def channelRequest (n : Nat) (a : Alr) : Alr × List Msg :=
  if 7 < n then (a, [answer .range []])
  else
    let r := setAlertChannel n a
    (r.1, answer .ok [] :: r.2)

/-- R164: the schedule's actions at ALR. The place of the answer, and of WAKE_ALARM's post behind it, is the model's choice
(log 54). -/
def alertAction (act : Action) (s : State) : Alr × List Msg :=
  match act with
  | .wakeAlarm =>
    let r := changeRecord Kind.wake (raiseRecord Kind.wake s.rcl.quiet) s.alr
    (r.1,
      r.2 ++ [.sch (.answer none),
        post Cause.wakeAlarm (u32 s.rcl.cabTime ++ u8 (r.1.record Kind.wake).state.code)])
  | _ =>
    let r := changeRecord Kind.user (raiseRecord Kind.user s.rcl.quiet) s.alr
    (r.1, r.2 ++ [.sch (.answer none)])

/-- R164: the sounding time has reached 600 s. -/
def soundingEnd (k : Nat) (a : Alr) : Alr × List Msg :=
  if isEventKind k ∧ (a.record k).state = .sounding ∧ 600 ≤ (a.record k).sounding then
    changeRecord k (fun r => { r with state := .inactive }) a
  else (a, [])

/-- R171: the re-sound timer's expiry. -/
def resoundEnd (k : Nat) (a : Alr) : Alr × List Msg :=
  if (a.record k).state = .silenced ∧ (a.record k).resound = some 0 then
    changeRecord k (fun r => { r with state := .sounding, resound := none }) a
  else (a, [])

/-- Every record changed by its kind, then settled once (log 36). -/
def changeRecords (f : Nat → AlertRecord → AlertRecord) (a : Alr) : Alr × List Msg :=
  settleAlerts a { a with records := a.records.zipIdx.map fun p => f p.2 p.1 }

/-- What each event at ALR does. -/
def alrHandle (e : AlrEv) (s : State) : Alr × List Msg :=
  let a := s.alr
  let quiet := s.rcl.quiet
  match e with
  | .condition k raised => changeRecord k (wordRecord k raised quiet) a
  | .raise k => changeRecord k (raiseRecord k quiet) a
  | .quiet flag => changeRecords (fun k => quietRecord k flag) a
  | .second => ({ a with records := a.records.zipIdx.map fun p => secondRecord p.2 p.1 }, [])
  | .soundingExpiry k => soundingEnd k a
  | .resoundExpiry k => resoundEnd k a
  | .burstStart => (burstStart a, [])
  | .boundary => burstBoundary a
  | .beepPhase => beepPhase a
  | .ack k => ackRequest k a
  | .buttonAck =>
    match a.owner with
    | some k => acknowledge k 1 a
    | none => (a, [])
  | .channel n => channelRequest n a
  | .defaults => setAlertChannel 4 a
  | .act act => alertAction act s
  | .flashAccepted => ({ a with flashFlag := true }, [])
  | .flashEnded k => (if k = a.channel then { a with flashFlag := false } else a, [])

end Sys2Proof.Machine
end

