-- ==== Sys2Proof/Machine/Lgt.lean ====
section
/-! DEFINITION. The Bunk Light Engine (chapter 5): channels, fades, caps, demand, groups, scenes, the light stack, flashes, the
door and the buttons. -/

namespace Sys2Proof.Machine

/-! ### Channels, standing values and target writes (R102, R103, R114) -/

abbrev readLeft : Nat := 0
abbrev readRight : Nat := 1
abbrev bunkAmbient : Nat := 2
abbrev nightLight : Nat := 4
abbrev stepLight : Nat := 5

/-- Channel `k` (R102). -/
def Lgt.channel (l : Lgt) (k : Nat) : Channel := l.channels.getD k restingChannel

/-- R102: the level. -/
def Channel.level (c : Channel) : Nat := c.fine / 1000

/-- Whether a frame was pushed by the flash on channel `k` (R114). -/
def Frame.isFlashOn (k : Nat) (f : Frame) : Bool := f.owner == .flash k

/-- R114: the frame that holds the standing values of channel `k`, when it is under a flash override. -/
def flashFrame (l : Lgt) (k : Nat) : Option Frame :=
  if (l.channel k).flash.isSome then l.stack.find? (Frame.isFlashOn k) else none

/-- R114: the standing target. -/
def standingTarget (l : Lgt) (k : Nat) : Nat :=
  match flashFrame l k with
  | some f => f.targets.getD k 0
  | none => (l.channel k).target

/-- R114: the standing hold mode. -/
def standingHeld (l : Lgt) (k : Nat) : Bool :=
  match flashFrame l k with
  | some f => f.helds.getD k false
  | none => (l.channel k).held

/-- R103: the steps of a fade time. -/
def fadeSteps (fade : Nat) : Nat := if fade = 0 then 1 else fade * 5

/-- The frame of the flash on channel `k` changed by `f`. -/
def modifyFrame (f : Frame → Frame) (k : Nat) (l : Lgt) : Lgt :=
  { l with stack := l.stack.map fun x => if x.isFlashOn k then f x else x }

/-- R103, R114: a target write. -/
def writeTarget (k target fade : Nat) (l : Lgt) : Lgt :=
  if (l.channel k).flash.isSome then modifyFrame (fun f => { f with targets := f.targets.set k target }) k l
  else { l with channels := modifyAt (fun c => { c with target := target, steps := fadeSteps fade }) k l.channels }

/-- R109, R114: a hold mode write. -/
def writeHeld (k : Nat) (held : Bool) (l : Lgt) : Lgt :=
  if (l.channel k).flash.isSome then modifyFrame (fun f => { f with helds := f.helds.set k held }) k l
  else { l with channels := modifyAt (fun c => { c with held := held }) k l.channels }

/-! ### Caps and outputs (R105, R118) -/

/-- Channels 4 and 5 (5.1). -/
def isSafety (k : Nat) : Bool := k == 4 || k == 5

/-- R105: the grant cap. -/
def grantCap (l : Lgt) : Nat :=
  match l.cabGrant with
  | none | some 0 => 0
  | some 1 => 300
  | some 2 => 600
  | some _ => 1000

/-- R105: the cap of the safety channels. -/
def safetyCap (l : Lgt) : Nat := if l.safetyBudget = .cutoff then 0 else 1000

/-- R105. -/
def channelCap (l : Lgt) (quiet : Bool) (k : Nat) : Nat :=
  if isSafety k then safetyCap l else if quiet then min (grantCap l) l.quietLight else grantCap l

/-- R118: the cap of a flash output. -/
def flashCap (l : Lgt) (k : Nat) : Nat := if isSafety k then safetyCap l else grantCap l

/-- R105, R107: the square law. -/
def dutyOf (t : Nat) : Nat := t * t / 1000

/-- R105, R118: the output of channel `k`. -/
def channelOutput (l : Lgt) (quiet : Bool) (k : Nat) (c : Channel) : Nat :=
  match c.flash with
  | some f => if f.onPhase then dutyOf f.level * flashCap l k / 1000 else 0
  | none => dutyOf c.level * channelCap l quiet k / 1000

/-- Every output recomputed (R105). -/
def driveLights (l : Lgt) (quiet : Bool) : Lgt :=
  { l with channels := l.channels.zipIdx.map fun p => { p.1 with output := channelOutput l quiet p.2 p.1 } }

/-! ### Demand (R107, R108) -/

/-- R107: the current of channel `k` at its standing target. -/
def channelCurrent (l : Lgt) (k : Nat) : Nat := (l.fullCurrents.getD k 0).toNat * dutyOf (standingTarget l k) / 1000

/-- The cab channels (5.1). -/
def cabChannels : List Nat := [0, 1, 2, 3, 6, 7]

/-- The safety channels (5.1). -/
def safetyChannels : List Nat := [4, 5]

/-- R107: a base current. -/
def baseCurrent (l : Lgt) (ks : List Nat) : Nat := (ks.map (channelCurrent l)).sum

/-- R107: a level current, at least 1 cA. -/
def lightCurrent (x : Nat) : Int := (max 1 x : Nat)

/-- R107: the CAB_LIGHTS update. -/
def cabDemand (l : Lgt) : Demand :=
  let b := baseCurrent l cabChannels
  ⟨if cabChannels.any fun k => decide (0 < standingTarget l k) then 3 else 0,
    [lightCurrent (b * 300 / 1000), lightCurrent (b * 600 / 1000), lightCurrent b], 1000, none, none⟩

/-- R107: the SAFETY_LIGHTS update. -/
def safetyDemand (l : Lgt) : Demand :=
  ⟨if safetyChannels.any fun k => decide (0 < standingTarget l k) then 1 else 0,
    [lightCurrent (baseCurrent l safetyChannels)], 1000, none, none⟩

/-- The end of an event at LGT: outputs driven (R105), demand updates that differ posted (R108), CAB_LIGHTS before SAFETY_LIGHTS
(log 42), and a change of the dark condition told to CHG behind them (R123; log 51). `before` is LGT before the event. -/
def concludeLights (s : State) (before l : Lgt) : Lgt × List Msg :=
  let l1 := driveLights l s.rcl.quiet
  let cab := cabDemand l1
  let safety := safetyDemand l1
  ({ l1 with postedCab := cab, postedSafety := safety },
    msgsIf (cab != l.postedCab) [.dmd (.update 3 cab)] ++ msgsIf (safety != l.postedSafety) [.dmd (.update 0 safety)] ++
      msgsIf (lightsDark before != lightsDark l1) [.chg .review])

/-! ### Fades and flash steps (R104, R118) -/

/-- R104: one step of a fading channel. R103: a fade whose fine level already equals the target ends at its first step. (No later
step finds it there: with `r` above 1 a gap that is not 0 is not closed.) -/
def fadeChannel (c : Channel) : Channel :=
  if c.steps = 0 ∨ c.flash.isSome then c
  else if c.steps = 1 ∨ c.fine = 1000 * c.target then { c with fine := 1000 * c.target, steps := 0 }
  else
    { c with
      fine := ((c.fine : Int) + divT (1000 * (c.target : Int) - c.fine) c.steps).toNat
      steps := c.steps - 1 }

/-- R118: one step of a flash pattern. -/
def flashPhase (f : Flash) : Flash :=
  if 2 ≤ f.left then { f with left := f.left - 1 }
  else if f.onPhase then { f with onPhase := false, left := f.offSteps }
  else { f with onPhase := true, left := f.onSteps }

/-- R118. -/
def flashChannel (c : Channel) : Channel := { c with flash := c.flash.map flashPhase }

/-! ### The light stack and flashes (R114 to R119) -/

/-- R115: a frame of the standing values. -/
def newFrame (l : Lgt) (owner : FrameOwner) : Frame :=
  ⟨owner, (List.range 8).map (standingTarget l), (List.range 8).map (standingHeld l)⟩

/-- Whether a frame belongs to the host (R114). -/
def Frame.isHost (f : Frame) : Bool := f.owner == .host

/-- R115: the lowest HOST frame discarded. -/
def dropHost (stack : List Frame) : List Frame := stack.eraseP Frame.isHost

/-- R115: the owner byte of LIGHT_STACK_DROP (log 16). -/
def FrameOwner.code : FrameOwner → Nat
  | .host => 0
  | .flash _ => 1

/-- R115: a push. -/
def pushFrame (owner : FrameOwner) (l : Lgt) : Lgt × List Msg :=
  let f := newFrame l owner
  if l.stack.length < 4 then ({ l with stack := l.stack ++ [f] }, [])
  else
    let stack := dropHost l.stack ++ [f]
    ({ l with stack := stack }, [post Cause.lightStackDrop (u8 owner.code ++ u8 stack.length)])

/-- R116: the topmost HOST frame. -/
def topHost (stack : List Frame) : Option Frame := stack.reverse.find? Frame.isHost

/-- R116: the topmost HOST frame removed. -/
def removeTopHost (stack : List Frame) : List Frame := (stack.reverse.eraseP Frame.isHost).reverse

/-- R116: a frame's values written to every channel. -/
def restoreFrame (f : Frame) (l : Lgt) : Lgt :=
  (List.range 8).foldl (fun l k => writeHeld k (f.helds.getD k false) (writeTarget k (f.targets.getD k 0) 10 l)) l

/-- R117: a flash starts, or its pattern is replaced. -/
def startFlash (k level onSteps offSteps : Nat) (l : Lgt) : Lgt × List Msg :=
  let p := if (l.channel k).flash.isSome then (l, []) else pushFrame (.flash k) l
  ({ p.1 with
      channels := modifyAt (fun c => { c with flash := some ⟨level, onSteps, offSteps, true, onSteps⟩ }) k p.1.channels },
    p.2 ++ [.alr .flashAccepted])

/-- R119: a flash ends. -/
def cancelFlash (k : Nat) (l : Lgt) : Lgt × List Msg :=
  if (l.channel k).flash.isNone then (l, [])
  else
    let target := standingTarget l k
    let held := standingHeld l k
    let l1 : Lgt :=
      { l with
        stack := l.stack.filter fun f => !f.isFlashOn k
        channels := modifyAt (fun c => { c with flash := none, held := held }) k l.channels }
    (writeTarget k target 10 l1, [.alr (.flashEnded k)])

/-! ### Requests (R109 to R113, R115, R116) -/

/-- R109: the addressed channels. -/
def lightMembers (l : Lgt) (x : LightArgs) : List Nat :=
  if x.kind = 0 then [x.number]
  else (List.range 8).filter fun k => (l.groups.getD x.number 0#8).getLsbD k

/-- R109: the ranges. -/
def lightInRange (x : LightArgs) : Bool :=
  decide (x.kind ≤ 1) && decide (x.number ≤ if x.kind = 0 then 7 else 3) && decide (x.target ≤ 1000) &&
    decide (x.fade ≤ 36000) && decide (x.hold ≤ 1)

/-- R109: the writes. -/
def lightWrites (x : LightArgs) (l : Lgt) : Lgt :=
  (lightMembers l x).foldl (fun l k => writeHeld k (x.hold == 1) (writeTarget k x.target x.fade l)) l

/-- R113: the items of a recall applied in order, with the numbers applied and skipped. -/
def applyItems : List SceneItem → Lgt → Lgt × Nat × Nat
  | [], l => (l, 0, 0)
  | i :: is, l =>
    if standingHeld l i.channel then
      let r := applyItems is l
      (r.1, r.2.1, r.2.2 + 1)
    else
      let r := applyItems is (writeTarget i.channel i.level i.fade l)
      (r.1, r.2.1 + 1, r.2.2)

/-- Scene `n` (R112). -/
def Lgt.scene (l : Lgt) (n : Nat) : List SceneItem := l.scenes.getD n []

/-- R112: a list that SCENE_STORE takes. -/
def sceneInRange (n : Nat) (items : List SceneItem) : Bool :=
  decide (n ≤ 11) && natIn 1 8 items.length &&
    items.all (fun i => decide (i.channel ≤ 7) && decide (i.level ≤ 1000) && decide (i.fade ≤ 36000)) &&
    decide (items.map SceneItem.channel).Nodup

/-- R111: a channel table that GROUP_SET takes. -/
def channelTableInRange (currents : List Int) (quietCap : Nat) : Bool :=
  currents.length == 8 && currents.all (intIn 1 500) && decide (quietCap ≤ 1000)

/-! ### Door and buttons (R120, R121) -/

/-- R120: STEP written unless it is HELD. -/
def writeStep (target fade : Nat) (l : Lgt) : Lgt := if standingHeld l stepLight then l else writeTarget stepLight target fade l

/-- R120: a change of DOOR. -/
def doorChanged (isOpen : Bool) (l : Lgt) : Lgt :=
  if isOpen then writeStep 1000 5 { l with doorOpen := true, doorTimer := none }
  else { l with doorOpen := false, doorTimer := some 30 }

/-- R121: a channel switched over: a standing target of 0 gives `on`, any other gives 0. -/
def toggleLight (k on fade : Nat) (l : Lgt) : Lgt := writeTarget k (if standingTarget l k = 0 then on else 0) fade l

/-- R121: what LGT knows of a button. -/
def Lgt.button (l : Lgt) : Button → ButtonState
  | .btn1 => l.btn1
  | .btn2 => l.btn2

/-- The knowledge of a button replaced. -/
def Lgt.setButton (l : Lgt) (b : Button) (st : ButtonState) : Lgt :=
  match b with
  | .btn1 => { l with btn1 := st }
  | .btn2 => { l with btn2 := st }

/-- Whether the button's level is pressed (R121). -/
def ButtonState.down : ButtonState → Bool
  | .released => false
  | _ => true

/-- R121: the channel a short press switches over. -/
def buttonLight : Button → Nat
  | .btn1 => readLeft
  | .btn2 => readRight

/-- R121: a qualified press or release; a release before the long press is a short press. -/
def buttonChanged (b : Button) (pressed : Bool) (l : Lgt) : Lgt :=
  if pressed then l.setButton b .pressed
  else if l.button b = .pressed then toggleLight (buttonLight b) 700 5 (l.setButton b .released)
  else l.setButton b .released

/-- R121: the long press. -/
def longPressed (b : Button) (l : Lgt) (s : State) : Lgt × List Msg :=
  if l.button b ≠ .pressed then (l, [])
  else
    let l1 := l.setButton b .longTaken
    match b with
    | .btn1 => if s.alr.owner.isSome then (l1, [.alr .buttonAck]) else (toggleLight nightLight 150 10 l1, [])
    | .btn2 => ((applyItems (l1.scene 0) l1).1, [])

/-! ### Events -/

/-- A request taken by LGT: its reply, its own messages, then demand updates and the dark condition (log 51). -/
def withAnswer (s : State) (l : Lgt) (ms : List Msg) (a : Msg) : Lgt × List Msg :=
  let r := concludeLights s s.lgt l
  (r.1, a :: (ms ++ r.2))

/-- An action taken by LGT: demand updates and the dark condition, then its answer to SCH (log 51). -/
def withDone (s : State) (l : Lgt) : Lgt × List Msg :=
  let r := concludeLights s s.lgt l
  (r.1, r.2 ++ [.sch (.answer none)])

/-- An event without an answer: its own messages go before demand updates and the dark condition (log 51). -/
def withoutAnswer (s : State) (l : Lgt) (ms : List Msg) : Lgt × List Msg :=
  let r := concludeLights s s.lgt l
  (r.1, ms ++ r.2)

/-- R113: SCENE_RECALL. -/
def sceneRecall (n : Nat) (s : State) : Lgt × List Msg :=
  if 11 < n then (s.lgt, [answer .range []])
  else if s.lgt.scene n = [] then (s.lgt, [answer .state []])
  else
    let r := applyItems (s.lgt.scene n) s.lgt
    withAnswer s r.1 [] (answer .ok (u8 r.2.1 ++ u8 r.2.2))

/-- R122: the scene number of a SCENE action. -/
def sceneAction (param : Option Int) (s : State) : Lgt × List Msg :=
  let n := (param.getD 0).toNat
  if 11 < n then (s.lgt, [.sch (.answer (some .range))])
  else if s.lgt.scene n = [] then (s.lgt, [.sch (.answer (some .state))])
  else withDone s (applyItems (s.lgt.scene n) s.lgt).1

/-- R122: WAKE_LIGHT. -/
def wakeLight (param : Option Int) (s : State) : Lgt × List Msg :=
  if standingHeld s.lgt bunkAmbient then (s.lgt, [.sch (.answer (some .held))])
  else withDone s (writeTarget bunkAmbient (param.getD 600).toNat 12000 s.lgt)

/-- R115: LIGHT_SAVE. -/
def lightSave (s : State) : Lgt × List Msg :=
  let p := pushFrame .host s.lgt
  withAnswer s p.1 p.2 (answer .ok (u8 p.1.stack.length))

/-- R116: LIGHT_RESTORE. The demand is posted once, after all eight channels (log 43). -/
def lightRestore (s : State) : Lgt × List Msg :=
  match topHost s.lgt.stack with
  | none => (s.lgt, [answer .state []])
  | some f =>
    let l1 := { s.lgt with stack := removeTopHost s.lgt.stack }
    withAnswer s (restoreFrame f l1) [] (answer .ok (u8 l1.stack.length))

/-- R106: a delivered grant recorded. -/
def lightGrant (entry level : Nat) (budget : Budget) (l : Lgt) : Lgt :=
  if entry = 0 then { l with safetyGrant := some level, safetyBudget := budget }
  else { l with cabGrant := some level, cabBudget := budget }

/-- What each event at LGT does. -/
def lgtHandle (e : LgtEv) (s : State) : Lgt × List Msg :=
  let l := s.lgt
  match e with
  | .fadeStep => withoutAnswer s { l with channels := l.channels.map fadeChannel } []
  | .flashStep => withoutAnswer s { l with channels := l.channels.map flashChannel } []
  | .door isOpen => if isOpen = l.doorOpen then (l, []) else withoutAnswer s (doorChanged isOpen l) [.chg .wake]
  | .doorExpiry =>
    if l.doorTimer = some 0 then withoutAnswer s (writeStep 0 30 { l with doorTimer := none }) [] else (l, [])
  | .button b pressed =>
    if (l.button b).down = pressed then (l, []) else withoutAnswer s (buttonChanged b pressed l) [.chg .wake]
  | .longPress b =>
    let r := longPressed b l s
    withoutAnswer s r.1 r.2
  | .second => ({ l with doorTimer := tick l.doorTimer }, [])
  | .grant entry level budget => withoutAnswer s (lightGrant entry level budget l) []
  | .quiet => withoutAnswer s l []
  | .flashStart k level on off =>
    let r := startFlash k level on off l
    withoutAnswer s r.1 r.2
  | .flashCancel k =>
    let r := cancelFlash k l
    withoutAnswer s r.1 r.2
  | .set x =>
    if lightInRange x then withAnswer s (lightWrites x l) [] (answer .ok (u8 (lightMembers l x).length))
    else (l, [answer .range []])
  | .recall n => sceneRecall n s
  | .save => lightSave s
  | .restore => lightRestore s
  | .groupSet g members =>
    if g ≤ 3 then ({ l with groups := l.groups.set g members }, [answer .ok []]) else (l, [answer .range []])
  | .channelSet currents cap =>
    if channelTableInRange currents cap then
      withAnswer s { l with fullCurrents := currents, quietLight := cap } [] (answer .ok [])
    else (l, [answer .range []])
  | .sceneStore n items =>
    if sceneInRange n items then ({ l with scenes := l.scenes.set n items }, [answer .ok []])
    else (l, [answer .range []])
  | .defaults =>
    withoutAnswer s
      { l with
        groups := defaultGroups
        scenes := defaultScenes
        fullCurrents := defaultFullCurrents
        quietLight := defaultQuietLight } []
  | .act a param =>
    match a with
    | .scene => sceneAction param s
    | _ => wakeLight param s

end Sys2Proof.Machine
end

