-- ==== Sys2Proof/Machine/Operands.lean ====
section
/-! DEFINITION. The operands of requests: the catalogue (10.4), reading a payload into a request (R189, R191), the tier of a
request and the block it goes to. -/

namespace Sys2Proof.Machine

/-! ### The catalogue (10.4) -/

/-- 10.4: the code of a request. -/
def Request.code : Request → Nat
  | .status => 0x01 | .readings => 0x02 | .heatStart => 0x03 | .heatStop => 0x04 | .heatSet _ => 0x05
  | .coolSet _ => 0x06 | .lightSet _ => 0x07 | .sceneRecall _ => 0x08 | .lightSave => 0x09 | .lightRestore => 0x0A
  | .activity _ => 0x0B | .restPlan _ => 0x0C | .alertAck _ => 0x0D | .alertChannel _ => 0x0D
  | .reportGate _ _ => 0x0E | .clockSet _ => 0x10 | .restSettings _ => 0x10 | .schedAdd _ => 0x11
  | .schedRemove _ => 0x12 | .schedList _ => 0x13 | .logWindow _ _ => 0x14 | .logRead => 0x15
  | .sceneStore _ _ => 0x16 | .groupSet _ _ => 0x17 | .channelSet _ _ => 0x17 | .causeLevel _ _ => 0x18
  | .levelMask _ _ => 0x18 | .captureArm _ => 0x19 | .captureRead _ _ => 0x1A | .captureFree _ => 0x1B
  | .tableRead => 0x1C | .tableWrite _ => 0x1C | .demandDeclare _ => 0x1D | .demandRelease _ => 0x1E
  | .budgetRead => 0x1F | .linkStats _ => 0x20 | .settingsSave => 0x21 | .clearLockout => 0x30 | .batterySet _ => 0x31
  | .chargeSet _ => 0x32 | .ocvSet _ => 0x33 | .sensorTrim _ _ => 0x34 | .defaults => 0x35 | .restart => 0x36

/-- 10.4: the codes the catalogue names. -/
def catalogued (code : Nat) : Bool := natIn 0x01 0x0E code || natIn 0x10 0x21 code || natIn 0x30 0x36 code

/-- R192: the Service tier. -/
def serviceTier (code : Nat) : Bool := natIn 0x30 0x36 code

/-! ### Payloads (R191) -/

/-- A payload read to its last byte. -/
def whole {α : Type} (r : Option (α × List Byte)) : Option α :=
  match r with
  | some (x, []) => some x
  | _ => none

/-- One number of `n` bytes. -/
def oneNat (n : Nat) (l : List Byte) : Option Nat := whole (takeNat n l)

/-- Two one-byte numbers. -/
def twoBytes (l : List Byte) : Option (Nat × Nat) :=
  match l with
  | [a, b] => some (a.toNat, b.toNat)
  | _ => none

/-- R80: HEAT_SET. -/
def takeHeat (l : List Byte) : Option (HeatArgs × List Byte) := do
  let (setpoint, l) ← takeS16 l
  let (deadband, l) ← takeS16 l
  let (maxLevel, l) ← takeNat 1 l
  let (quietCap, l) ← takeNat 1 l
  let (frostGuard, l) ← takeNat 1 l
  let (frostLimit, l) ← takeS16 l
  let (flamePresent, l) ← takeS16 l
  let (vHeat, l) ← takeNat 2 l
  let (startCharge, l) ← takeNat 4 l
  let (mLo, l) ← takeNat 1 l
  let (mHi, l) ← takeNat 1 l
  return (⟨setpoint, deadband, maxLevel, quietCap, frostGuard, frostLimit, flamePresent, vHeat, startCharge, mLo, mHi⟩, l)

/-- R98: COOL_SET. -/
def takeCool (l : List Byte) : Option (CoolArgs × List Byte) := do
  let (enable, l) ← takeNat 1 l
  let (setpoint, l) ← takeS16 l
  let (band, l) ← takeS16 l
  let (hostMax, l) ← takeNat 1 l
  let (offset, l) ← takeS16 l
  let (qRun, l) ← takeNat 4 l
  let (qPause, l) ← takeNat 4 l
  let (currents, l) ← takeMany takeS16 3 l
  return (⟨enable, setpoint, band, hostMax, offset, qRun, qPause, currents⟩, l)

/-- R109: LIGHT_SET. -/
def takeLight (l : List Byte) : Option (LightArgs × List Byte) := do
  let (kind, l) ← takeNat 1 l
  let (number, l) ← takeNat 1 l
  let (target, l) ← takeNat 2 l
  let (fade, l) ← takeNat 2 l
  let (hold, l) ← takeNat 1 l
  return (⟨kind, number, target, fade, hold⟩, l)

/-- R138: the rest settings. -/
def takeRest (l : List Byte) : Option (RestSettings × List Byte) := do
  let (splitFirst, l) ← takeNat 4 l
  let (splitSecond, l) ← takeNat 4 l
  let (breakMin, l) ← takeNat 4 l
  let (driveLimit, l) ← takeNat 4 l
  let (lead, l) ← takeNat 4 l
  let (reducedMin, l) ← takeNat 4 l
  let (regularMin, l) ← takeNat 4 l
  let (quietDelay, l) ← takeNat 4 l
  let (hIdle, l) ← takeNat 4 l
  return (⟨splitFirst, splitSecond, breakMin, driveLimit, lead, reducedMin, regularMin, quietDelay, hIdle⟩, l)

/-- R148: SCHED_ADD. -/
def takeSched (l : List Byte) : Option (SchedArgs × List Byte) := do
  let (due, l) ← takeNat 4 l
  let (action, l) ← takeNat 1 l
  let (param, l) ← takeOpt takeS16 l
  let (period, l) ← takeOpt (takeNat 4) l
  return (⟨due, action, param, period⟩, l)

/-- R112: one item of a scene. -/
def takeItem (l : List Byte) : Option (SceneItem × List Byte) := do
  let (channel, l) ← takeNat 1 l
  let (level, l) ← takeNat 2 l
  let (fade, l) ← takeNat 2 l
  return (⟨channel, level, fade⟩, l)

/-- A list of varying length: its count byte, then its items (R191). -/
def takeList {α : Type} (item : List Byte → Option (α × List Byte)) (l : List Byte) : Option (List α × List Byte) := do
  let (n, l) ← takeNat 1 l
  takeMany item n l

/-- R112: SCENE_STORE. -/
def takeScene (l : List Byte) : Option (Request × List Byte) := do
  let (scene, l) ← takeNat 1 l
  let (items, l) ← takeList takeItem l
  return (.sceneStore scene items, l)

/-- R111: the channel table. -/
def takeChannelTable (l : List Byte) : Option (Request × List Byte) := do
  let (currents, l) ← takeMany takeS16 8 l
  let (quietCap, l) ← takeNat 2 l
  return (.channelSet currents quietCap, l)

/-- R182: CAPTURE_ARM. -/
def takeArm (l : List Byte) : Option (ArmArgs × List Byte) := do
  let (desc, l) ← takeNat 1 l
  let (cause, l) ← takeNat 1 l
  let (quantities, l) ← takeList (takeNat 1) l
  let (count, l) ← takeNat 1 l
  let (start, l) ← takeNat 1 l
  return (⟨desc, cause, quantities, count, start⟩, l)

/-- R76: one level of the table. -/
def takeRow (l : List Byte) : Option (LevelRow × List Byte) := do
  let (pump, l) ← takeNat 2 l
  let (burner, l) ← takeNat 2 l
  let (air, l) ← takeNat 2 l
  let (current, l) ← takeS16 l
  return (⟨pump, burner, air, current⟩, l)

/-- R47: DEMAND_DECLARE. -/
def takeDeclare (l : List Byte) : Option (DeclareArgs × List Byte) := do
  let (entry, l) ← takeNat 1 l
  let (cls, l) ← takeNat 1 l
  let (currents, l) ← takeList takeS16 l
  let (requested, l) ← takeNat 1 l
  let (duty, l) ← takeNat 2 l
  return (⟨entry, cls, currents, requested, duty⟩, l)

/-- R22: BATTERY_SET. -/
def takeBattery (l : List Byte) : Option (BatteryParams × List Byte) := do
  let (cNom, l) ← takeNat 4 l
  let (e, l) ← takeNat 2 l
  let (vFull, l) ← takeNat 2 l
  let (iTail, l) ← takeS16 l
  let (rBase, l) ← takeNat 4 l
  let (rCold, l) ← takeNat 4 l
  let (vCut, l) ← takeNat 2 l
  let (vHard, l) ← takeNat 2 l
  return (⟨cNom, e, vFull, iTail, rBase, rCold, vCut, vHard⟩, l)

/-- R141: LOG_WINDOW. -/
def takeWindow (l : List Byte) : Option (Request × List Byte) := do
  let (first, l) ← takeNat 4 l
  let (last, l) ← takeNat 4 l
  return (.logWindow first last, l)

/-- R24: SENSOR_TRIM. -/
def takeTrim (l : List Byte) : Option (Request × List Byte) := do
  let (input, l) ← takeNat 1 l
  let (offset, l) ← takeS16 l
  return (.sensorTrim input offset, l)

/-- A request without parameters. -/
def bare (r : Request) (l : List Byte) : Option Request := if l = [] then some r else none

/-! ### Reading a request (R189, R191) -/

/-- The Basic tier. -/
def parseBasic (code : Nat) (l : List Byte) : Option Request :=
  match code with
  | 0x01 => bare .status l
  | 0x02 => bare .readings l
  | 0x03 => bare .heatStart l
  | 0x04 => bare .heatStop l
  | 0x05 => (whole (takeHeat l)).map .heatSet
  | 0x06 => (whole (takeCool l)).map .coolSet
  | 0x07 => (whole (takeLight l)).map .lightSet
  | 0x08 => (oneNat 1 l).map .sceneRecall
  | 0x09 => bare .lightSave l
  | 0x0A => bare .lightRestore l
  | 0x0B => (oneNat 1 l).map .activity
  | 0x0C => (oneNat 4 l).map .restPlan
  | 0x0D =>
    match l with
    | [0x00#8, k] => some (.alertAck k.toNat)
    | [0x01#8, n] => some (.alertChannel n.toNat)
    | _ => none
  | 0x0E => (twoBytes l).map fun p => .reportGate p.1 p.2
  | _ => none

/-- The Extended tier, codes 0x10 to 0x18. -/
def parseExtended (code : Nat) (l : List Byte) : Option Request :=
  match code with
  | 0x10 =>
    match l with
    | 0x00#8 :: l => (oneNat 4 l).map .clockSet
    | 0x01#8 :: l => (whole (takeRest l)).map .restSettings
    | _ => none
  | 0x11 => (whole (takeSched l)).map .schedAdd
  | 0x12 => (oneNat 1 l).map .schedRemove
  | 0x13 => (oneNat 1 l).map .schedList
  | 0x14 => whole (takeWindow l)
  | 0x15 => bare .logRead l
  | 0x16 => whole (takeScene l)
  | 0x17 =>
    match l with
    | [0x00#8, g, m] => some (.groupSet g.toNat m)
    | 0x01#8 :: l => whole (takeChannelTable l)
    | _ => none
  | 0x18 =>
    match l with
    | [0x00#8, c, v] => some (.causeLevel c.toNat v.toNat)
    | [0x01#8, m, t] => some (.levelMask m.toNat t.toNat)
    | _ => none
  | _ => none

/-- The Extended tier, codes 0x19 to 0x21. -/
def parseCapture (code : Nat) (l : List Byte) : Option Request :=
  match code with
  | 0x19 => (whole (takeArm l)).map .captureArm
  | 0x1A => (twoBytes l).map fun p => .captureRead p.1 p.2
  | 0x1B => (oneNat 1 l).map .captureFree
  | 0x1C =>
    match l with
    | [0x00#8] => some .tableRead
    | 0x01#8 :: l => (whole (takeMany takeRow 4 l)).map .tableWrite
    | _ => none
  | 0x1D => (whole (takeDeclare l)).map .demandDeclare
  | 0x1E => (oneNat 1 l).map .demandRelease
  | 0x1F => bare .budgetRead l
  | 0x20 => (oneNat 1 l).map .linkStats
  | 0x21 => bare .settingsSave l
  | _ => none

/-- The Service tier. -/
def parseService (code : Nat) (l : List Byte) : Option Request :=
  match code with
  | 0x30 => bare .clearLockout l
  | 0x31 => (whole (takeBattery l)).map .batterySet
  | 0x32 => (oneNat 4 l).map .chargeSet
  | 0x33 => (whole (takeMany (takeNat 2) 6 l)).map .ocvSet
  | 0x34 => whole (takeTrim l)
  | 0x35 => bare .defaults l
  | 0x36 => bare .restart l
  | _ => none

/-- R189, R191: the request that a payload spells; none is answered UNKNOWN. -/
def parseRequest (code : Nat) (l : List Byte) : Option Request :=
  if code < 0x0F then parseBasic code l
  else if code < 0x19 then parseExtended code l
  else if code < 0x22 then parseCapture code l
  else parseService code l

/-! ### The owning block (10.4) -/

/-- The event a request is at its owning block; none for the three that LNK answers itself. -/
def Request.owner : Request → Option Msg
  | .status | .readings | .linkStats _ => none
  | .heatStart => some (.htr .start)
  | .heatStop => some (.htr .stop)
  | .heatSet x => some (.htr (.set x))
  | .coolSet x => some (.clr (.set x))
  | .lightSet x => some (.lgt (.set x))
  | .sceneRecall n => some (.lgt (.recall n))
  | .lightSave => some (.lgt .save)
  | .lightRestore => some (.lgt .restore)
  | .activity a => some (.rcl (.activity a))
  | .restPlan w => some (.rcl (.restPlan w))
  | .alertAck k => some (.alr (.ack k))
  | .alertChannel n => some (.alr (.channel n))
  | .reportGate g c => some (.rpq (.gate g c))
  | .clockSet t => some (.rcl (.clockSet t))
  | .restSettings x => some (.rcl (.settings x))
  | .schedAdd x => some (.sch (.add x))
  | .schedRemove n => some (.sch (.remove n))
  | .schedList n => some (.sch (.list n))
  | .logWindow f l => some (.rcl (.logWindow f l))
  | .logRead => some (.rcl .logRead)
  | .sceneStore n is => some (.lgt (.sceneStore n is))
  | .groupSet g m => some (.lgt (.groupSet g m))
  | .channelSet c q => some (.lgt (.channelSet c q))
  | .causeLevel c v => some (.rpq (.level c v))
  | .levelMask m t => some (.rpq (.settings m t))
  | .captureArm x => some (.rpq (.arm x))
  | .captureRead d i => some (.rpq (.read d i))
  | .captureFree d => some (.rpq (.free d))
  | .tableRead => some (.htr .tableRead)
  | .tableWrite t => some (.htr (.tableWrite t))
  | .demandDeclare x => some (.dmd (.declare x))
  | .demandRelease n => some (.dmd (.release n))
  | .budgetRead => some (.dmd .read)
  | .settingsSave => some (.sto .save)
  | .clearLockout => some (.htr .clearLockout)
  | .batterySet p => some (.chg (.batterySet p))
  | .chargeSet q => some (.chg (.chargeSet q))
  | .ocvSet v => some (.chg (.ocvSet v))
  | .sensorTrim n d => some (.chg (.sensorTrim n d))
  | .defaults => some (.sto .defaults)
  | .restart => some (.sto .restart)

end Sys2Proof.Machine
end

