-- ==== Sys2Proof/Machine/Rpq.lean ====
section
/-! DEFINITION. The Report Queue (chapter 9): posts, the queue and its overflow, the gate, transmission, ATTN and captures. -/

namespace Sys2Proof.Machine

/-! ### Order and ATTN (R176, R181) -/

/-- R176: level ascending, then cause number ascending. -/
def reportBefore (a b : QEntry) : Bool := decide (a.level < b.level) || (a.level == b.level && decide (a.cause ≤ b.cause))

/-- R176: an entry inserted at its place in the queue order. -/
def insertReport (x : QEntry) : List QEntry → List QEntry
  | [] => [x]
  | y :: l => if reportBefore x y then x :: y :: l else y :: insertReport x l

/-- R181: ATTN. -/
def attention (q : Rpq) : Bool := q.queue.any fun e => decide (e.level ≤ q.threshold)

/-- Whether a report is in transmission (R180). -/
def anyInFlight (q : Rpq) : Bool := q.queue.any QEntry.inFlight

/-- The level of a cause (R174). -/
def causeLevel (q : Rpq) (cause : Nat) : Nat := q.levels.getD (cause - 1) 0

/-! ### Captures (R182 to R184) -/

/-- Descriptor `d` (R182). -/
def Rpq.desc (q : Rpq) (d : Nat) : Desc := q.descs.getD d freeDesc

/-- R183: a value, −32,768 when there is none. -/
def orNone (x : Option Int) : Int := x.getD (-32768)

/-- R183: a quantity as its owning block holds it. -/
def quantityValue (s : State) : Nat → Int
  | 0 => orNone (s.chg.v.map Int.ofNat)
  | 1 => orNone s.chg.i
  | 2 => s.chg.q
  | 3 => orNone (s.chg.figures.map fun f => (f.a : Int))
  | 4 => (s.chg.q * 1000 / s.chg.battery.cNom : Nat)
  | 5 => orNone (s.chg.temp 0)
  | 6 => orNone (s.chg.temp 1)
  | 7 => orNone (s.chg.temp 2)
  | 8 => orNone (s.chg.temp 3)
  | 9 => orNone s.chg.tb
  | 10 => s.htr.level
  | _ => s.dmd.budget.code

/-- R175: the lowest-numbered ARMED descriptor for the cause. -/
def armedFor (q : Rpq) (cause : Nat) : Option Nat :=
  (List.range 4).find? fun d => (q.desc d).state == .armed && (q.desc d).cause == cause

/-- R183: a capture by descriptor `d`. -/
def capture (d : Nat) (s : State) (q : Rpq) : Rpq × List Msg :=
  let x := q.desc d
  let n := x.taken + 1
  let done := decide (x.count ≤ n)
  ({ q with
      buffer := q.buffer.set (x.start + x.taken) (some ⟨s.rcl.cabTime, x.quantities.map (quantityValue s)⟩)
      descs := q.descs.set d { x with taken := n, state := if done then .done else x.state } },
    msgsIf done [post Cause.captureDone (u8 d ++ u8 x.cause ++ u8 n)])

/-! ### Entering the queue (R176, R177) -/

/-- R176, R180: a post folded into an entry of its cause. -/
def coalesce (now : Nat) (data : List Byte) (e : QEntry) : QEntry :=
  { e with
    count := satAdd 255 e.count 1
    lastTime := now
    data := data
    since := if e.inFlight then satAdd 255 e.since 1 else 0
    sinceFirst := if e.inFlight = true ∧ e.since = 0 then now else e.sinceFirst }

/-- R177: the lost-report count increased. -/
def countLost (q : Rpq) : Rpq := { q with lost := satAdd 65535 q.lost 1 }

/-- R177: the queue without the entry that overflow gives up: the last, or the one before it when the last is in flight. -/
def dropLeast (queue : List QEntry) : List QEntry :=
  if queue.getLast?.any QEntry.inFlight then queue.eraseIdx (queue.length - 2) else queue.dropLast

/-- R177: the queue is full. -/
def overflow (e : QEntry) (q : Rpq) : Rpq :=
  countLost (if q.queue.getLast?.any fun x => decide (e.level < x.level) then
    { q with queue := insertReport e (dropLeast q.queue) }
  else q)

/-- R175, step 4. -/
def enterQueue (cause now : Nat) (data : List Byte) (q : Rpq) : Rpq :=
  if q.queue.any fun e => e.cause == cause then
    { q with queue := q.queue.map fun e => if e.cause = cause then coalesce now data e else e }
  else
    let e : QEntry := ⟨cause, causeLevel q cause, 1, now, now, data, false, 0, 0⟩
    if q.queue.length < 16 then { q with queue := insertReport e q.queue } else overflow e q

/-- R175, steps 2 to 4. -/
def takePost (cause : Nat) (data : List Byte) (s : State) (q : Rpq) : Rpq × List Msg :=
  match armedFor q cause with
  | some d => capture d s q
  | none =>
    if q.mask < causeLevel q cause then ({ q with marks := q.marks.set (cause - 1) true }, [])
    else (enterQueue cause s.rcl.cabTime data q, [])

/-! ### Levels, the gate and transmission (R174, R178 to R180) -/

/-- R174: a cause re-levelled; an entry of it moves to its new place. -/
def relevel (cause level : Nat) (q : Rpq) : Rpq :=
  let q1 := { q with levels := q.levels.set (cause - 1) level }
  match q.queue.find? fun e => e.cause == cause with
  | some e => { q1 with queue := insertReport { e with level := level } (q.queue.filter fun x => x.cause != cause) }
  | none => q1

/-- R202: every cause takes its default level, as CAUSE_LEVEL would set it. -/
def defaultRelevel (q : Rpq) : Rpq := (List.range 33).foldl (fun q i => relevel (i + 1) (defaultLevels.getD i 0) q) q

/-- R180: the end of a report's transmission at its entry. -/
def endEntry (e : QEntry) : Option QEntry :=
  if e.inFlight = false then some e
  else if e.since = 0 then none
  else some { e with count := e.since, firstTime := e.sinceFirst, inFlight := false, since := 0, sinceFirst := 0 }

/-- R180: whether LNK may take a report: idle, both slots empty, none reserved (log 33). -/
def linkFreeForReport (l : Lnk) : Bool := l.tx == .idle && l.slots.isEmpty && l.reserved.isNone && l.answer.isNone

/-- R180: the head entry taken for transmission, when the conditions hold. -/
def takeReport (s : State) (q : Rpq) : Rpq × List Msg :=
  match q.queue with
  | e :: rest =>
    if q.gate && linkFreeForReport s.lnk && !anyInFlight q then
      ({ q with queue := { e with inFlight := true } :: rest }, [.lnk (.sendReport (reportFrame e))])
    else (q, [])
  | [] => (q, [])

/-- The end of an event at RPQ: ATTN afresh (R181), CHG told of empty and not empty (R185), a report taken (R180). -/
def concludeReports (s : State) (q : Rpq) (ms : List Msg) : Rpq × List Msg :=
  let t := takeReport s { q with attn := attention q }
  (t.1, ms ++ msgsIf (s.rpq.queue.isEmpty != q.queue.isEmpty) [.chg .review] ++ t.2)

/-! ### Requests (R174, R178, R179, R182, R184) -/

/-- R179: REPORT_GATE. -/
def gateRequest (gate clear : Nat) (q : Rpq) : Rpq × List Msg :=
  if 1 < gate ∨ 1 < clear then (q, [answer .range []])
  else
    ({ q with gate := gate == 1, lost := if clear = 1 then 0 else q.lost },
      [answer .ok (u8 gate ++ u8 q.queue.length ++ u16 q.lost)])

/-- R182, check 1. -/
def armInRange (x : ArmArgs) : Bool :=
  decide (x.desc ≤ 3) && natIn 1 33 x.cause && natIn 1 6 x.quantities.length &&
    x.quantities.all (fun n => decide (n ≤ 11)) && natIn 1 16 x.count && decide (x.start ≤ 31) &&
    decide (x.start + x.count ≤ 32)

/-- R182, check 3: the carried region shares a position with that of a descriptor. -/
def sharesRegion (x : ArmArgs) (d : Desc) : Bool :=
  d.state != .free && decide (x.start < d.start + d.count) && decide (d.start < x.start + x.count)

/-- R182: the positions of a region marked empty. -/
def emptyRegion (start count : Nat) (buffer : List (Option CapRecord)) : List (Option CapRecord) :=
  buffer.zipIdx.map fun p => if start ≤ p.2 ∧ p.2 < start + count then none else p.1

/-- R182: CAPTURE_ARM. -/
def armRequest (x : ArmArgs) (q : Rpq) : Rpq × List Msg :=
  if armInRange x = false then (q, [answer .range []])
  else if (q.desc x.desc).state ≠ .free then (q, [answer .state []])
  else if q.descs.any (sharesRegion x) then (q, [answer .range []])
  else
    ({ q with
        descs := q.descs.set x.desc ⟨.armed, x.cause, x.quantities, x.count, x.start, 0⟩
        buffer := emptyRegion x.start x.count q.buffer },
      [answer .ok []])

/-- Table 10-5: a capture record. -/
def recordBytes (r : CapRecord) : List Byte := u32 r.time ++ r.values.flatMap s32

/-- R184: the record at an index below records taken. -/
def takenRecord (q : Rpq) (d : Desc) (index : Nat) : Option CapRecord :=
  if index < d.taken then (q.buffer[d.start + index]?).join else none

/-- R184: CAPTURE_READ. -/
def captureReadAnswer (n index : Nat) (q : Rpq) : Msg :=
  let d := q.desc n
  if 3 < n then answer .range []
  else if d.state = .free then answer .state []
  else if d.count ≤ index then answer .range []
  else
    answer .ok (u8 d.state.code ++ u8 d.cause ++ listField u8 d.quantities ++ u8 d.taken ++
      optField recordBytes (takenRecord q d index))

/-- R184: CAPTURE_FREE. -/
def freeRequest (n : Nat) (q : Rpq) : Rpq × List Msg :=
  if 3 < n then (q, [answer .range []]) else ({ q with descs := q.descs.set n freeDesc }, [answer .ok []])

/-- R174: CAUSE_LEVEL, cause form. -/
def levelRequest (cause level : Nat) (q : Rpq) : Rpq × List Msg :=
  if natIn 1 33 cause ∧ level ≤ 7 then (relevel cause level q, [answer .ok (u8 cause ++ u8 level)])
  else (q, [answer .range []])

/-- R178: CAUSE_LEVEL, settings form. -/
def maskRequest (mask threshold : Nat) (q : Rpq) : Rpq × List Msg :=
  if mask ≤ 7 ∧ threshold ≤ 7 then ({ q with mask := mask, threshold := threshold }, [answer .ok []])
  else (q, [answer .range []])

/-- What each event at RPQ does, before the conclusion. -/
def rpqEffect (e : RpqEv) (s : State) : Rpq × List Msg :=
  let q := s.rpq
  match e with
  | .post cause data =>
    let t := takePost cause data s q
    (t.1, .chg .stir :: t.2)
  | .reportEnd => ({ q with queue := q.queue.filterMap endEntry }, [])
  | .linkFree => (q, [])
  | .clearMarks carried => ({ q with marks := List.zipWith (fun m c => m && !c) q.marks carried }, [])
  | .gate gate clear => gateRequest gate clear q
  | .level cause level => levelRequest cause level q
  | .settings mask threshold => maskRequest mask threshold q
  | .arm x => armRequest x q
  | .read n index => (q, [captureReadAnswer n index q])
  | .free n => freeRequest n q
  | .defaults => ({ defaultRelevel q with mask := 7, threshold := 2 }, [])

/-- What each event at RPQ does. -/
def rpqHandle (e : RpqEv) (s : State) : Rpq × List Msg :=
  let r := rpqEffect e s
  concludeReports s r.1 r.2

end Sys2Proof.Machine
end

