-- ==== Sys2Proof/Machine/Rcl.lean ====
section
/-! DEFINITION. The Rest Clock (chapter 6): cab time, activity, breaks, the rest record, the quiet flag and the activity log. -/

namespace Sys2Proof.Machine

/-- The limit of a 32-bit count (R125, R140). -/
abbrev maxCount : Nat := 4294967295

/-- R125: one second of cab time. -/
def nextTime (t : Nat) : Nat := if maxCount ≤ t then 0 else t + 1

/-- Whether an activity belongs to a break run (6.2). -/
def Activity.breaks : Activity → Bool
  | .rest | .available => true
  | _ => false

/-! ### Break warnings and the accumulator (R129, R130, R132) -/

/-- R132: what a warning hands on. -/
def warningMsgs (kind cause : Nat) (raised : Bool) (acc : Nat) : List Msg :=
  [.alr (.condition kind raised), post cause (flagByte raised ++ u32 acc)]

/-- R132: BREAK_DUE tested. -/
def testDue (r : Rcl) : Rcl × List Msg :=
  if r.due = false ∧ r.settings.driveLimit - r.settings.lead ≤ r.acc then
    ({ r with due := true }, warningMsgs Kind.breakDue Cause.breakDue true r.acc)
  else (r, [])

/-- R132: BREAK_OVERDUE tested. -/
def testOverdue (r : Rcl) : Rcl × List Msg :=
  if r.overdue = false ∧ r.settings.driveLimit ≤ r.acc then
    ({ r with overdue := true }, warningMsgs Kind.breakOverdue Cause.breakOverdue true r.acc)
  else (r, [])

/-- R132: both warnings, BREAK_DUE first. -/
def testWarnings (r : Rcl) : Rcl × List Msg :=
  let a := testDue r
  let b := testOverdue a.1
  (b.1, a.2 ++ b.2)

/-- R129, R132: the accumulator set to 0 and the raised warnings cleared, BREAK_DUE before BREAK_OVERDUE (log 44). -/
def clearAccumulator (r : Rcl) : Rcl × List Msg :=
  ({ r with acc := 0, due := false, overdue := false },
    msgsIf r.due (warningMsgs Kind.breakDue Cause.breakDue false r.acc) ++
      msgsIf r.overdue (warningMsgs Kind.breakOverdue Cause.breakOverdue false r.acc))

/-- R130: a qualification marks the run, clears the split flag and sets the accumulator to 0. -/
def qualify (b : BreakRun) (m : Marker) (r : Rcl) : Rcl × List Msg :=
  clearAccumulator { r with breakRun := some { b with marker := m }, split := false }

/-- R130, test 1. -/
def testFull (r : Rcl) : Rcl × List Msg :=
  match r.breakRun with
  | some b => if b.marker ≠ .full ∧ r.settings.breakMin ≤ b.length then qualify b .full r else (r, [])
  | none => (r, [])

/-- R130, test 2. -/
def testSplit (r : Rcl) : Rcl × List Msg :=
  match r.breakRun with
  | some b =>
    if b.marker = .none ∧ r.split = true ∧ r.settings.splitSecond ≤ b.length then qualify b .split r else (r, [])
  | none => (r, [])

/-! ### The second timer (R125 to R130, R133) -/

/-- R125, R126, R128, R133: cab time and the lengths advance. -/
def advanceSecond (r : Rcl) : Rcl :=
  { r with
    cabTime := nextTime r.cabTime
    period := { r.period with duration := r.period.duration + 1 }
    breakRun := r.breakRun.map fun b =>
      { b with
        length := b.length + 1
        rest := if r.period.activity = .rest then b.rest + 1 else b.rest
        available := if r.period.activity = .available then b.available + 1 else b.available }
    acc := if r.period.activity = .drive then satAdd 604800 r.acc 1 else r.acc
    record := r.record.map fun x => { x with length := x.length + 1 } }

/-- What the second hands to the blocks that count it (R125), in the model's order (log 52), and the firing sweep it brings to SCH
(R151). -/
def secondMsgs : List Msg :=
  [.chg .second, .dmd .second, .htr .second, .clr .second, .lgt .second, .sch .second, .alr .second, .sto .second,
    .sch .sweep]

/-- R125. -/
def secondEvent (r : Rcl) : Rcl × List Msg :=
  let f := testFull (advanceSecond r)
  let p := testSplit f.1
  let w := testWarnings p.1
  (w.1, f.2 ++ p.2 ++ w.2 ++ secondMsgs)

/-! ### The log (R139, R140) -/

/-- R140: the serial after the next one. -/
def serialAfter (n : Nat) : Nat := if maxCount ≤ n then 1 else n + 1

/-- R139: a record appended. -/
def appendRecord (kind : LogKind) (start duration : Nat) (r : Rcl) : Rcl :=
  { r with
    log := (if r.log.length < 64 then r.log else r.log.drop 1) ++ [⟨r.nextSerial, kind, start, duration⟩]
    nextSerial := serialAfter r.nextSerial }

/-- R139: the ended DRIVE or WORK period appended. -/
def appendPeriod (r : Rcl) : Rcl :=
  appendRecord (if r.period.activity = .drive then .drive r.acc else .work) r.period.start r.period.duration r

/-- R139: the class of a BREAK_RUN record; `first` says that the run set the split flag at its end. -/
def runClass (x : RestSettings) (b : BreakRun) (first : Bool) : LogClass :=
  if x.regularMin ≤ b.length then .regular
  else if x.reducedMin ≤ b.length then .reduced
  else if x.breakMin ≤ b.length then .brk
  else if b.marker = .split then .splitSecond
  else if first then .splitFirst
  else .short

/-! ### The quiet flag and the rest record (R133 to R136) -/

/-- R136: a change of the quiet flag handed on, in the order in which that rule names the blocks (log 52). -/
def quietMsgs (flag : Bool) : List Msg := [.htr .quiet, .clr (.quiet flag), .lgt .quiet, .alr (.quiet flag)]

/-- R136: the quiet flag written; nothing is handed on when it stays as it was. -/
def setQuiet (flag : Bool) (r : Rcl) : Rcl × List Msg :=
  ({ r with quiet := flag }, msgsIf (r.quiet != flag) (quietMsgs flag))

/-- R133: an opening handed to SCH, then to DMD. -/
def openMsgs (x : RestRecord) : List Msg := [.sch (.restOpened x.start x.wake), .dmd (.rest (some x.wake))]

/-- R135: the class of a closed record. -/
def restClass (x : RestSettings) (length : Nat) : RestClass :=
  if x.regularMin ≤ length then .regular
  else if x.reducedMin ≤ length then .reduced
  else if x.breakMin ≤ length then .brk
  else .short

/-- R135: whether the close raises REST_SHORT. -/
def closesShort (x : RestRecord) (c : RestClass) : Bool := x.planned && (c == .brk || c == .short)

/-- R135: the close of the record, after the run's log record `serial` has been appended. -/
def closeRecord (x : RestRecord) (serial : Nat) (r : Rcl) : Rcl × List Msg :=
  let q := setQuiet false r
  let c := restClass r.settings x.length
  ({ q.1 with record := none },
    q.2 ++ [.sch .restClosed, .clr .restClosed, .dmd (.rest none)] ++
      msgsIf (closesShort x c)
        [.alr (.raise Kind.restShort), post Cause.restShort (u8 c.code ++ u32 x.length ++ u32 x.wake)] ++
      [post Cause.restClosed (u8 c.code ++ u32 x.length ++ flagByte x.planned ++ u32 x.wake ++ u32 serial)])

/-- R131, R135: the end of a break run. -/
def endRun (b : BreakRun) (r : Rcl) : Rcl × List Msg :=
  let first := b.marker == .none && decide (r.settings.splitFirst ≤ b.length)
  let wake := r.record.bind fun x => if x.planned then some x.wake else none
  let serial := r.nextSerial
  let r1 := appendRecord (.breakRun b.rest b.available (runClass r.settings b first) wake) b.start b.length
    { r with split := r.split || first, breakRun := none }
  match r.record with
  | some x => closeRecord x serial r1
  | none => (r1, [])

/-! ### Activity (R127) -/

/-- R127: the transition to another activity, without the opening of a rest record. -/
def changeActivity (new : Activity) (r : Rcl) : Rcl × List Msg :=
  let e : Rcl × List Msg :=
    if r.period.activity.breaks then
      if new.breaks then (r, [])
      else
        match r.breakRun with
        | some b => endRun b r
        | none => (r, [])
    else
      let r1 := appendPeriod r
      (if new.breaks then { r1 with breakRun := some ⟨r.cabTime, 0, 0, 0, .none⟩ } else r1, [])
  ({ e.1 with period := ⟨new, r.cabTime, 0⟩ }, e.2)

/-- R133: a record opened now. -/
def openRecord (wake : Nat) (planned : Bool) (r : Rcl) : Rcl × List Msg :=
  let x : RestRecord := ⟨r.cabTime, 0, wake, planned⟩
  ({ r with record := some x }, openMsgs x)

/-- R127: the transition of an ACTIVITY request; a transition into REST opens an unplanned record. -/
def takeActivity (new : Activity) (r : Rcl) : Rcl × List Msg :=
  if new = r.period.activity then (r, [])
  else
    let t := changeActivity new r
    if new = .rest ∧ t.1.record = none then
      let o := openRecord (t.1.cabTime + t.1.settings.regularMin) false t.1
      (o.1, t.2 ++ o.2)
    else t

/-- R127: ACTIVITY. -/
def activityRequest (code : Nat) (r : Rcl) : Rcl × List Msg :=
  match Activity.ofCode code with
  | none => (r, [answer .range []])
  | some a =>
    let t := takeActivity a r
    (t.1, answer .ok (u8 a.code ++ u32 t.1.acc ++ flagByte t.1.split) :: t.2)

/-- R133: the activity set to REST under R127 for a record that is open. -/
def restActivity (r : Rcl) : Rcl × List Msg := if r.period.activity = .rest then (r, []) else changeActivity .rest r

/-- R133, R134: REST_PLAN. -/
def restPlanRequest (wake : Nat) (r : Rcl) : Rcl × List Msg :=
  if r.period.activity = .drive then (r, [answer .state []])
  else if natIn (r.cabTime + 900) (r.cabTime + 86400) wake = false then (r, [answer .range []])
  else
    match r.record with
    | none =>
      let o := openRecord wake true r
      let t := restActivity o.1
      (t.1, answer .ok (u32 r.cabTime ++ u32 wake) :: (o.2 ++ t.2))
    | some x =>
      let t := restActivity { r with record := some { x with wake := wake, planned := true } }
      (t.1,
        answer .ok (u32 x.start ++ u32 wake) ::
          (msgsIf (x.wake != wake) [.sch (.restWake wake), .dmd (.rest (some wake))] ++ t.2))

/-! ### Clock and settings (R137, R138) -/

/-- R137: a start stamp shifted by the delta, held within the 32-bit range. -/
def shiftStamp (delta : Int) (t : Nat) : Nat := (clampInt 0 4294967295 ((t : Int) + delta)).toNat

/-- R137: the clock and the start stamps shifted. -/
def setClock (time : Nat) (r : Rcl) : Rcl :=
  let d := (time : Int) - r.cabTime
  { r with
    cabTime := time
    timeSet := true
    period := { r.period with start := shiftStamp d r.period.start }
    breakRun := r.breakRun.map fun b => { b with start := shiftStamp d b.start }
    record := r.record.map fun x => { x with start := shiftStamp d x.start } }

/-- R137: CLOCK_SET, time form. -/
def clockRequest (time : Nat) (r : Rcl) : Rcl × List Msg :=
  let r1 := setClock time r
  (r1, [answer .ok (s32 ((time : Int) - r.cabTime)), .sch (.clockSet (r1.record.map RestRecord.start))])

/-- R138: the ranges and the relations. -/
def restInRange (x : RestSettings) : Bool :=
  natIn 300 3600 x.splitFirst && natIn 600 7200 x.splitSecond && natIn 900 10800 x.breakMin &&
    natIn 3600 36000 x.driveLimit && decide (x.lead ≤ 3600) && natIn 3600 86400 x.reducedMin &&
    natIn 3600 86400 x.regularMin && decide (x.quietDelay ≤ 3600) && natIn 600 43200 x.hIdle &&
    decide (x.splitFirst < x.breakMin) && decide (x.splitSecond < x.breakMin) && decide (x.lead < x.driveLimit) &&
    decide (x.breakMin ≤ x.reducedMin) && decide (x.reducedMin < x.regularMin)

/-- R138: CLOCK_SET, settings form. -/
def restSettingsRequest (x : RestSettings) (r : Rcl) : Rcl × List Msg :=
  if restInRange x then
    let w := testWarnings { r with settings := x }
    (w.1, answer .ok [] :: w.2)
  else (r, [answer .range []])

/-! ### Reading the log (R141, R142, Table 10-4) -/

/-- R141: the serial of the oldest record held; the next serial when none is held (log 16). -/
def oldestSerial (r : Rcl) : Nat := (r.log.head?.map LogRecord.serial).getD r.nextSerial

/-- R141: LOG_WINDOW. -/
def logWindowRequest (first last : Nat) (r : Rcl) : Rcl × List Msg :=
  if first = 0 ∨ last < first then (r, [answer .range []])
  else ({ r with window := some ⟨first, last, first⟩ }, [answer .ok (u32 (oldestSerial r) ++ u32 r.nextSerial)])

/-- Table 10-4: the fields after the serial of a held record. -/
def logFields (x : LogRecord) : List Byte :=
  match x.kind with
  | .drive acc =>
    u8 0 ++ u8 255 ++ u8 0 ++ u32 x.start ++ u32 x.duration ++ u32 acc ++ u32 0 ++ u32 0 ++ u32 0
  | .work => u8 1 ++ u8 255 ++ u8 0 ++ u32 x.start ++ u32 x.duration ++ u32 0 ++ u32 0 ++ u32 0 ++ u32 0
  | .breakRun rest available cls wake =>
    u8 2 ++ u8 cls.code ++ flagByte wake.isSome ++ u32 x.start ++ u32 x.duration ++ u32 0 ++ u32 rest ++ u32 available ++
      u32 (wake.getD 0)

/-- R142: the item of one serial: the record, a NONE marker or a GONE marker. -/
def logItem (r : Rcl) (serial : Nat) : List Byte :=
  u32 serial ++
    match r.log.find? fun x => x.serial == serial with
    | some x => logFields x
    | none => u8 (if r.nextSerial ≤ serial then 255 else 254) ++ List.replicate 26 0#8

/-- R142: the serials one LOG_READ returns. -/
def readSerials (w : Window) : List Nat := List.range' w.cursor (min 4 (w.last + 1 - w.cursor))

/-- R142: the cursor after them. -/
def nextCursor (w : Window) : Nat :=
  let n := w.cursor + (readSerials w).length
  if w.last < n then w.first else n

/-- R142: LOG_READ. -/
def logReadRequest (r : Rcl) : Rcl × List Msg :=
  match r.window with
  | none => (r, [answer .state []])
  | some w =>
    ({ r with window := some { w with cursor := nextCursor w } }, [answer .ok (listField (logItem r) (readSerials w))])

/-! ### Events -/

/-- R136: the schedule's actions at RCL; the answer to SCH stands last (log 54). -/
def restAction (a : Action) (r : Rcl) : Rcl × List Msg :=
  match a with
  | .quietBegin =>
    if r.record = none then (r, [.sch (.answer (some .state))])
    else
      let q := setQuiet true r
      (q.1, q.2 ++ [.sch (.answer none)])
  | _ =>
    let q := setQuiet false r
    (q.1, q.2 ++ [.sch (.answer none)])

/-- What each event at RCL does. -/
def rclHandle (e : RclEv) (s : State) : Rcl × List Msg :=
  let r := s.rcl
  match e with
  | .second => secondEvent r
  | .fullQualification => testFull r
  | .splitQualification => testSplit r
  | .breakDue => testDue r
  | .breakOverdue => testOverdue r
  | .activity code => activityRequest code r
  | .restPlan wake => restPlanRequest wake r
  | .clockSet time => clockRequest time r
  | .settings x => restSettingsRequest x r
  | .logWindow first last => logWindowRequest first last r
  | .logRead => logReadRequest r
  | .defaults => testWarnings { r with settings := defaultRest }
  | .act a => restAction a r

end Sys2Proof.Machine
end

