-- ==== Sys2Proof/Machine/Sch.lean ====
section
/-! DEFINITION. The Schedule Table (chapter 7): entries and their order, requests, firing, and the rest plan's derivation. -/

namespace Sys2Proof.Machine

/-! ### Order and insertion (R145, R146) -/

/-- R146: due time ascending, then insertion number ascending. -/
def entryBefore (a b : SchedEntry) : Bool := decide (a.due < b.due) || (a.due == b.due && decide (a.insertion ≤ b.insertion))

/-- An entry put into a list in table order. -/
def insertEntry (x : Nat × SchedEntry) : List (Nat × SchedEntry) → List (Nat × SchedEntry)
  | [] => [x]
  | y :: l => if entryBefore x.2 y.2 then x :: y :: l else y :: insertEntry x l

/-- The entries held with their slots, in slot order. -/
def heldEntries (c : Sch) : List (Nat × SchedEntry) := c.slots.zipIdx.filterMap fun p => p.1.map (Prod.mk p.2)

/-- R146: the table order. -/
def tableOrder (c : Sch) : List (Nat × SchedEntry) := (heldEntries c).foldr insertEntry []

/-- R146: an entry inserted in a slot. -/
def placeEntry (slot : Nat) (e : SchedEntry) (c : Sch) : Sch :=
  { c with slots := c.slots.set slot (some { e with insertion := c.counter }), counter := c.counter + 1 }

/-- R145: the origin, HOST 0 or REST 1, follows from the slot. -/
def originCode (slot : Nat) : Nat := if slot < 10 then 0 else 1

/-! ### Host requests (R148 to R150) -/

/-- R147, R148: a parameter that an action may carry. -/
def paramOk : Action → Option Int → Bool
  | .preheatStart, _ => true
  | .coolEnable, _ => true
  | .scene, p => p.any (intIn 0 255)
  | .wakeLight, p => p.all (intIn 0 1000)
  | _, p => p.isNone

/-- R148: the lowest-numbered empty host slot. -/
def emptyHostSlot (c : Sch) : Option Nat := (List.range 10).find? fun n => c.slots[n]? == some none

/-- R148: SCHED_ADD. -/
def schedAddRequest (x : SchedArgs) (now : Nat) (c : Sch) : Sch × List Msg :=
  match Action.ofCode x.action with
  | none => (c, [answer .range []])
  | some a =>
    if (paramOk a x.param && x.period.all (natIn 60 604800) && decide (now ≤ x.due)) = false then (c, [answer .range []])
    else
      match emptyHostSlot c with
      | none => (c, [answer .full []])
      | some n => (placeEntry n ⟨x.due, a, x.param, x.period, 0, false⟩ c, [answer .ok (u8 n), .sch .sweep])

/-- R149: SCHED_REMOVE. -/
def schedRemoveRequest (n : Nat) (c : Sch) : Sch × List Msg :=
  if 15 < n then (c, [answer .range []])
  else
    match (c.slots[n]?).join with
    | none => (c, [answer .state []])
    | some e =>
      ({ c with
          slots := c.slots.set n none
          done := if 10 ≤ n then c.done.set (n - 10) true else c.done },
        [answer .ok (u8 e.action.code ++ u32 e.due)])

/-- R150: one listed entry; `p` pairs it with its position. -/
def listedEntry (p : (Nat × SchedEntry) × Nat) : List Byte :=
  u8 p.1.1 ++ u32 p.1.2.due ++ u8 p.1.2.action.code ++ u8 (originCode p.1.1) ++ optField s16 p.1.2.param ++
    optField u32 p.1.2.period ++ u8 p.2

/-- R150: SCHED_LIST. -/
def schedListBody (start : Nat) (c : Sch) : List Byte :=
  let order := tableOrder c
  u8 order.length ++ listField listedEntry ((order.zipIdx.drop start).take 4)

/-! ### Firing (R151 to R153) -/

/-- R147: the delivery of an action to its owner. -/
def deliverAction (a : Action) (param : Option Int) : Msg :=
  match a with
  | .preheatStart | .heatStop => .htr (.act a param)
  | .coolEnable | .coolDisable | .prechillBegin => .clr (.act a param)
  | .scene | .wakeLight => .lgt (.act a param)
  | .quietBegin | .quietEnd => .rcl (.act a)
  | .wakeAlarm | .userAlarm => .alr (.act a)

/-- R151, R152: the head entry, when due, is taken out of the table and its action delivered. `sweep` says that the sweep goes
on after the answer. CHG is told of the falling due before the delivery (log 12). -/
def fireHead (sweep : Bool) (now : Nat) (c : Sch) : Sch × List Msg :=
  match c.firing, (tableOrder c).head? with
  | some f, _ => ({ c with firing := some { f with sweep := f.sweep || sweep } }, [])
  | none, some (n, e) =>
    if e.due ≤ now then
      ({ c with
          slots := c.slots.set n none
          firing := some ⟨n, { e with late := decide (e.due < now) }, sweep⟩ },
        [.chg .wake, deliverAction e.action e.param])
    else (c, [])
  | none, none => (c, [])

/-- R153: k. -/
def repeatCount (due period now : Nat) : Nat := (now - due) / period + 1

/-- R153: the due time of the re-insertion and the occurrences skipped. -/
def nextOccurrence (e : SchedEntry) (now : Nat) : Option (Nat × Nat) :=
  match e.period with
  | none => none
  | some p =>
    let k := repeatCount e.due p now
    if e.due + k * p ≤ maxCount then some (e.due + k * p, k - 1) else none

/-- R152: the fields both reports carry. -/
def firingData (f : Firing) (now : Nat) : List Byte :=
  u8 f.slot ++ u8 f.entry.action.code ++ u8 (originCode f.slot) ++ u32 f.entry.due ++ flagByte f.entry.late ++ u32 now

/-- R152: SCHEDULE_FIRED or SCHEDULE_FAILED. -/
def firingReport (f : Firing) (now : Nat) (next : Option (Nat × Nat)) : Option Refuse → Msg
  | none => post Cause.scheduleFired (firingData f now ++ optField (fun p : Nat × Nat => u32 p.1 ++ u32 p.2) next)
  | some r => post Cause.scheduleFailed (firingData f now ++ u8 r.code)

/-- R152, R153: the owner's answer ends the firing. -/
def finishFiring (refused : Option Refuse) (now : Nat) (c : Sch) : Sch × List Msg :=
  match c.firing with
  | none => (c, [])
  | some f =>
    let next := nextOccurrence f.entry now
    let c1 : Sch :=
      { c with firing := none, done := if 10 ≤ f.slot then c.done.set (f.slot - 10) true else c.done }
    let c2 :=
      match next with
      | some (due, _) => placeEntry f.slot { f.entry with due := due, late := false } c1
      | none => c1
    (c2, firingReport f now next refused :: msgsIf (f.sweep || next.isSome) [.sch .sweep])

/-! ### The rest plan (R155 to R158) -/

/-- R156: the preheat lead. -/
def preheatLead : Option Int → Nat
  | none => 3600
  | some t => clampNat 600 5400 (600 + 60 * (10 - divT t 10).toNat)

/-- R155: the derived actions, in slot order from slot 10. -/
def derivedActions : List Action := [.quietBegin, .prechillBegin, .preheatStart, .quietEnd, .wakeLight, .wakeAlarm]

/-- R155: the due times, in slot order; one below 0 is taken as 0. -/
def derivedDues (start wake delay lead : Nat) : List Nat :=
  [start + delay, start + delay - 1200, wake - lead, wake - 1200, wake - 1200, wake]

/-- R155: whether kind `i` is suppressed. -/
def suppressed (start wake delay i : Nat) : Bool := decide (i < 2) && decide (wake - 1200 ≤ start + delay)

/-- R157: one kind of a derivation. A kind moved to another due time is inserted anew (R146), behind those held there (log 45). -/
def deriveKind (i : Nat) (action : Action) (due : Nat) (suppress : Bool) (c : Sch) : Sch :=
  if c.done.getD i false then c
  else if suppress then { c with slots := c.slots.set (10 + i) none }
  else
    match (c.slots[10 + i]?).join with
    | some e => if e.due = due then c else placeEntry (10 + i) { e with due := due } c
    | none => placeEntry (10 + i) ⟨due, action, none, none, 0, false⟩ c

/-- R157: the six kinds taken in slot order. -/
def deriveKinds (start wake delay lead : Nat) (c : Sch) : Sch :=
  ((derivedActions.zip (derivedDues start wake delay lead)).zipIdx).foldl
    (fun c p => deriveKind p.2 p.1.1 p.1.2 (suppressed start wake delay p.2) c) c

/-- R157: a derivation, with the sweep that ends it; none while no record is open. -/
def derivation (delay : Nat) (c : Sch) : Sch × List Msg :=
  match c.rest with
  | some (start, wake) => (deriveKinds start wake delay (preheatLead c.outside) c, [.sch .sweep])
  | none => (c, [])

/-- R158: the close of the rest record. -/
def closeRest (c : Sch) : Sch :=
  { c with slots := c.slots.take 10 ++ List.replicate 6 none, refresh := none, rest := none }

/-- R154: a CLOCK_SET. -/
def clockAtSch (start : Option Nat) (delay : Nat) (c : Sch) : Sch × List Msg :=
  match c.rest, start with
  | some (_, wake), some start => derivation delay { c with rest := some (start, wake) }
  | _, _ => (c, [.sch .sweep])

/-- What each event at SCH does. -/
def schHandle (e : SchEv) (s : State) : Sch × List Msg :=
  let c := s.sch
  let now := s.rcl.cabTime
  let delay := s.rcl.settings.quietDelay
  match e with
  | .sweep => fireHead true now c
  | .fire => fireHead false now c
  | .answer r => finishFiring r now c
  | .refreshExpiry => if c.refresh = some 0 then derivation delay { c with refresh := some 300 } else (c, [])
  | .second => ({ c with refresh := tick c.refresh }, [])
  | .outside r => ({ c with outside := r }, [])
  | .restOpened start wake =>
    derivation delay { c with rest := some (start, wake), done := List.replicate 6 false, refresh := some 300 }
  | .restWake wake => derivation delay { c with rest := c.rest.map fun r => (r.1, wake) }
  | .restClosed => (closeRest c, [])
  | .clockSet start => clockAtSch start delay c
  | .add x => schedAddRequest x now c
  | .remove n => schedRemoveRequest n c
  | .list start => (c, [answer .ok (schedListBody start c)])

end Sys2Proof.Machine
end

