-- ==== Sys2Proof/Machine/Lnk.lean ====
section
/-! DEFINITION. The Link Interface (chapter 10): the frame assembler, dispatch, reply slots, the transmitter, link errors, and
the replies of STATUS, READINGS and LINK_STATS. -/

namespace Sys2Proof.Machine

/-! ### The status summary (Table 10-6) -/

/-- The weight of a bit when its condition holds. -/
def bitIf (c : Bool) (n : Nat) : Nat := if c then 2 ^ n else 0

/-- Bytes 4 to 10 of the summary. The cooler speed is the one COMP_SPD is driven at (log 55). -/
def statusModes (s : State) : List Byte :=
  u8 (bitIf s.rcl.timeSet 0 + bitIf s.rcl.record.isSome 1 + bitIf s.rcl.quiet 2 + bitIf s.rcl.due 3 +
      bitIf s.rcl.overdue 4 + s.rcl.period.activity.code * 32) ++
    u8 (s.chg.mode.code + bitIf s.chg.synced 2 + s.chg.floor.code * 8 + s.dmd.budget.code * 32) ++
    u8 s.htr.seq.code ++
    u8 (s.htr.level + bitIf s.htr.keep.lockout 3 + bitIf s.htr.pendingTable.isSome 4) ++
    u8 (faultCode s.htr.keep.fault) ++
    u8 (s.clr.state.code + s.clr.speed * 16) ++
    u8 (s.lgt.stack.length + bitIf (s.lgt.channels.any fun c => c.flash.isSome) 3 +
      bitIf (tableOrder s.sch).head?.isSome 7)

/-- The number of entries held in slots that satisfy `p`. -/
def entriesIn (c : Sch) (p : Nat → Bool) : Nat := ((heldEntries c).filter fun x => p x.1).length

/-- Bytes 11 to 15 of the summary. -/
def statusSchedule (s : State) : List Byte :=
  u8 (entriesIn s.sch (fun n => decide (n < 10)) + entriesIn s.sch (fun n => decide (10 ≤ n)) * 16) ++
    u32 (((tableOrder s.sch).head?.map fun x => x.2.due).getD 0)

/-- Bytes 16 to 18 of the summary. -/
def statusAlerts (s : State) : List Byte :=
  u16 (((List.range 8).map fun k => (s.alr.record k).state.code * 2 ^ (14 - 2 * k)).sum) ++ u8 (s.alr.owner.getD 255)

/-- The pending marks of causes 8i + 1 to 8i + 8 (Table 10-6, offset 22). -/
def markByte (marks : List Bool) (i : Nat) : Nat := ((List.range 8).map fun b => bitIf (marks.getD (8 * i + b) false) b).sum

/-- Bytes 19 to 27 of the summary. -/
def statusReports (s : State) : List Byte :=
  u8 (s.rpq.queue.length + bitIf s.rpq.gate 5 + bitIf s.sto.saving.isSome 6 + bitIf s.lnk.service 7) ++
    u16 s.rpq.lost ++ (List.range 5).flatMap (fun i => u8 (markByte s.rpq.marks i)) ++
    u8 (((List.range 4).map fun d => (s.rpq.desc d).state.code * 2 ^ (2 * d)).sum)

/-- The status summary (R195, Table 10-6). -/
def statusBody (s : State) : List Byte :=
  u32 s.rcl.cabTime ++ statusModes s ++ statusSchedule s ++ statusAlerts s ++ statusReports s

/-! ### READINGS (R195; log 17) -/

/-- A figure that has no value before the first measurement (R26; log 21): `n` is its place in R25. -/
def shownFigure (s : State) (n : Nat) (f : Figures → Nat) : Int :=
  (s.chg.figures.map fun x => (f x : Int)).getD (Config.unmeasuredFigure s.free n)

/-- R25. -/
def chgReadings (s : State) : List Byte :=
  let c := s.chg
  s16 (shownVolts s.free c) ++ s16 (shownCurrent s.free c) ++ u32 c.q ++ u16 (c.q * 1000 / c.battery.cNom) ++
    beBytes 4 (shownFigure s 2 Figures.a) ++ (List.range 5).flatMap (fun n => tempField (c.temp n)) ++ tempField c.tb ++
    s16 c.r ++ beBytes 4 (shownFigure s 3 Figures.qd) ++ beBytes 2 (shownFigure s 4 Figures.k) ++
    beBytes 1 (shownFigure s 5 Figures.coldSteps) ++ beBytes 4 (shownFigure s 6 Figures.reserve) ++
    beBytes 4 (shownFigure s 7 Figures.u) ++ flagByte c.synced ++ u8 c.floor.code ++ u8 c.mode.code

/-- R81. -/
def htrReadings (h : Htr) : List Byte :=
  u8 h.seq.code ++ u8 h.level ++ u8 (faultCode h.keep.fault) ++ flagByte h.keep.lockout ++ flagByte h.pendingTable.isSome ++
    u8 h.keep.failures ++ u8 h.keep.overheats ++ flagByte h.frostFlag ++ flagByte h.frostLimited ++ u8 h.sc ++
    flagByte (h.bias == .lower)

/-- R100. The speed is the one COMP_SPD is driven at (log 55). -/
def clrReadings (c : Clr) : List Byte :=
  u8 c.state.code ++ u8 c.speed ++ flagByte c.call ++ flagByte c.prechill ++ flagByte c.blind ++ u8 c.stalls ++ u16 c.duty ++
    u8 c.ring.length ++ flagByte c.warm

/-- R123: the flash state of a channel, 0 absent, 1 on phase, 2 off phase. -/
def flashCode : Option Flash → Nat
  | none => 0
  | some f => if f.onPhase then 1 else 2

/-- R123. -/
def lgtReadings (s : State) : List Byte :=
  let l := s.lgt
  (List.range 8).flatMap (fun k =>
      let c := l.channel k
      u16 c.level ++ u16 c.target ++ u16 (standingTarget l k) ++ flagByte c.held ++ u16 c.output ++ u8 (flashCode c.flash)) ++
    u16 (grantCap l) ++ u16 (safetyCap l) ++ u16 l.quietLight ++ timerField l.doorTimer

/-- R143. -/
def rclReadings (r : Rcl) : List Byte :=
  u32 r.cabTime ++ flagByte r.timeSet ++ u8 r.period.activity.code ++ flagByte r.record.isSome ++ flagByte r.quiet ++
    flagByte r.due ++ flagByte r.overdue ++ u8 r.period.activity.code ++ u32 r.period.start ++ u32 r.period.duration ++
    optField (fun b : BreakRun => u32 b.start ++ u32 b.length ++ u32 b.rest ++ u32 b.available ++ u8 b.marker.code)
      r.breakRun ++
    u32 r.acc ++ flagByte r.split ++
    optField (fun x : RestRecord => u32 x.start ++ u32 x.length ++ u32 x.wake ++ flagByte x.planned) r.record ++
    u32 r.nextSerial

/-- R172. -/
def alrReadings (a : Alr) : List Byte :=
  (List.range 8).flatMap (fun k => u8 (a.record k).state.code) ++ optField u8 a.owner ++
    [5, 6, 7].flatMap (fun k => u32 (a.record k).sounding) ++ [0, 1, 2].flatMap (fun k => timerField (a.record k).resound) ++
    flagByte a.flashFlag ++ u8 a.channel

/-- R195. -/
def readingsBody (s : State) : List Byte :=
  chgReadings s ++ htrReadings s.htr ++ clrReadings s.clr ++ lgtReadings s ++ rclReadings s.rcl ++ alrReadings s.alr

/-! ### Errors and the transmitter (R193, R194) -/

/-- R194: one counter struck. -/
def strike (e : LinkError) (l : Lnk) : Lnk :=
  match e with
  | .gap => { l with gapErrs := satAdd 65535 l.gapErrs 1 }
  | .length => { l with lenErrs := satAdd 65535 l.lenErrs 1 }
  | .crc => { l with crcErrs := satAdd 65535 l.crcErrs 1 }
  | .overrun => { l with overruns := satAdd 65535 l.overruns 1 }

/-- R194: the four counters. -/
def counterBytes (l : Lnk) : List Byte := u16 l.gapErrs ++ u16 l.lenErrs ++ u16 l.crcErrs ++ u16 l.overruns

/-- R194: a link error counted and posted. -/
def linkError (e : LinkError) (l : Lnk) : Lnk × List Msg :=
  let l' := strike e l
  (l', [post Cause.linkErrors (u8 e.code ++ counterBytes l')])

/-- R193: an idle transmitter takes the reply of the slot filled earlier. -/
def startReply (l : Lnk) : Lnk :=
  match l.tx, l.slots with
  | .idle, r :: _ => { l with tx := .reply 0, txFrame := replyFrame r 0 }
  | _, _ => l

/-- R193: a frame's last byte has been sent. -/
def frameSent (l : Lnk) : Lnk × List Msg :=
  match l.tx, l.slots with
  | .idle, _ => (l, [])
  | .report, _ => (startReply { l with tx := .idle, txFrame := [] }, [.rpq .reportEnd])
  | .reply n, r :: rest =>
    if n + 1 < partCount r.body then ({ l with tx := .reply (n + 1), txFrame := replyFrame r (n + 1) }, [])
    else (startReply { l with tx := .idle, txFrame := [], slots := rest }, [.rpq .linkFree])
  | .reply _, [] => ({ l with tx := .idle, txFrame := [] }, [.rpq .linkFree])

/-! ### Dispatch (R189 to R192) -/

/-- R189: the reply handed to LNK for the reserved slot. -/
def takeAnswer (status : Status) (body : List Byte) (l : Lnk) : Lnk :=
  match l.reserved with
  | some (kind, tag) => { l with answer := some ⟨kind, tag, status.code, body⟩ }
  | none => l

/-- R194: LINK_STATS. -/
def linkStatsRequest (clear : Nat) (l : Lnk) : Lnk :=
  if 1 < clear then takeAnswer .range [] l
  else
    let l' := takeAnswer .ok (counterBytes l) l
    if clear = 1 then { l' with gapErrs := 0, lenErrs := 0, crcErrs := 0, overruns := 0 } else l'

/-- R189, R195: a request goes to its owning block, or LNK answers it. -/
def routeRequest (r : Request) (l : Lnk) (s : State) : Lnk × List Msg :=
  match r with
  | .status => (takeAnswer .ok (statusBody s) l, [.rpq (.clearMarks s.rpq.marks)])
  | .readings => (takeAnswer .ok (readingsBody s) l, [])
  | .linkStats clear => (linkStatsRequest clear l, [])
  | r => (l, r.owner.toList)

/-- R189: a good frame of code `code` with the request its payload spells. -/
def dispatchRequest (code : Nat) (tag : Byte) (r : Option Request) (s : State) (l : Lnk) : Lnk × List Msg :=
  if 2 ≤ l.slots.length then linkError .overrun l
  else
    let l1 := { l with reserved := some (BitVec.ofNat 8 (code + 128), tag) }
    match r with
    | none => (takeAnswer .unknown [] l1, [])
    | some r => if serviceTier code && !l.service then (takeAnswer .denied [] l1, []) else routeRequest r l1 s

/-- R189: a good frame, given by the bytes KIND to the last of the payload. -/
def dispatchFrame (bytes : List Byte) (s : State) (l : Lnk) : Lnk × List Msg :=
  match bytes with
  | kind :: tag :: payload =>
    if natIn 1 0x3F kind.toNat then dispatchRequest kind.toNat tag (parseRequest kind.toNat payload) s l else (l, [])
  | _ => (l, [])

/-- R189, R190: the reply completed in its slot; an idle transmitter takes it. -/
def commitReply (l : Lnk) : Lnk :=
  match l.answer with
  | some r => startReply { l with slots := l.slots ++ [r], reserved := none, answer := none }
  | none => { l with reserved := none }

/-! ### The assembler (R188) -/

/-- R188: one received byte. -/
def assemble (b : Byte) (s : State) (l : Lnk) : Lnk × List Msg :=
  match l.asm with
  | .hunt => ({ l with asm := if b = 0x5A#8 then .length else .hunt }, [])
  | .length =>
    if natIn 2 58 b.toNat then ({ l with asm := .body b.toNat [] }, []) else linkError .length { l with asm := .hunt }
  | .body len kept =>
    let kept' := kept ++ [b]
    ({ l with asm := if len ≤ kept'.length then .check len kept' else .body len kept' }, [])
  | .check len kept =>
    if b = crc8 (BitVec.ofNat 8 len :: kept) then dispatchFrame kept s { l with asm := .hunt }
    else linkError .crc { l with asm := .hunt }

/-- R188: the gap timer's expiry. -/
def gapExpiry (l : Lnk) : Lnk × List Msg :=
  match l.asm with
  | .hunt => (l, [])
  | _ => linkError .gap { l with asm := .hunt }

/-- What each event at LNK does. -/
def lnkHandle (e : LnkEv) (s : State) : Lnk × List Msg :=
  let l := s.lnk
  match e with
  | .byte b =>
    let r := assemble b s l
    (r.1, .chg .stir :: r.2)
  | .gapExpiry => gapExpiry l
  | .frameSent => frameSent l
  | .service high => if high = l.service then (l, []) else ({ l with service := high }, [.chg .review])
  | .request tag r => dispatchRequest r.code tag (some r) s l
  | .unknown tag code =>
    if natIn 1 0x3F code.toNat && !catalogued code.toNat then dispatchRequest code.toNat tag none s l else (l, [])
  | .reply status body => (takeAnswer status body l, [])
  | .commit => (commitReply l, [])
  | .sendReport frame => ({ l with tx := .report, txFrame := frame }, [])

end Sys2Proof.Machine
end

