-- ==== Sys2Proof/Machine/Sto.lean ====
section
/-! DEFINITION. The Settings Store (chapter 11): saves, State writes, DEFAULTS and RESTART. -/

namespace Sys2Proof.Machine

/-- R197: the working values of the Settings area as they stand. -/
def workingSettings (s : State) : Settings where
  battery := s.chg.battery
  ocv := s.chg.ocv
  trims := s.chg.trims
  profile := s.htr.profile
  table := s.htr.table
  cooler := s.clr.settings
  groups := s.lgt.groups
  fullCurrents := s.lgt.fullCurrents
  quietLight := s.lgt.quietLight
  scenes := s.lgt.scenes
  levels := s.rpq.levels
  mask := s.rpq.mask
  threshold := s.rpq.threshold
  rest := s.rcl.settings
  alertChannel := s.alr.channel

/-- R199: a State write begins; the area is invalid until it completes (R197). -/
def beginWrite (q : Nat) (t : Sto) : Sto := { t with writing := some ⟨t.items, q⟩, stateArea := none }

/-- R199: a State write requested. -/
def requestWrite (q : Nat) (t : Sto) : Sto := if t.writing.isSome then { t with writeAgain := true } else beginWrite q t

/-- R202: the stage of a RESTART after the completion of a State write; `again` says that another was pending behind it. -/
def RestartStage.next (again : Bool) : RestartStage → RestartStage
  | .ahead => .own
  | .own => if again then .behind else .done
  | .behind => .done
  | r => r

/-- R199: a State write completes, and a pending one begins. -/
def completeWrite (q : Nat) (t : Sto) : Sto :=
  match t.writing with
  | none => t
  | some w =>
    let t1 :=
      { t with
        stateArea := some (writeSaved w), writing := none, writeAgain := false, restarting := t.restarting.next t.writeAgain }
    if t.writeAgain then beginWrite q t1 else t1

/-- R198: SETTINGS_SAVE. -/
def saveRequest (s : State) (t : Sto) : Sto × List Msg :=
  if t.saving.isSome then (t, [answer .busy []])
  else ({ t with saving := some (workingSettings s), settingsArea := none }, [answer .accepted []])

/-- R198: a save completes. -/
def completeSave (t : Sto) : Sto :=
  match t.saving with
  | none => t
  | some x => { t with settingsArea := some (writeSettings x), saving := none }

/-- R202: the blocks that DEFAULTS hands the defaults to (log 29). -/
def defaultMsgs : List Msg :=
  [.chg .defaults, .htr .defaults, .clr .defaults, .lgt .defaults, .rpq .defaults, .rcl .defaults, .alr .defaults]

/-- R202: DEFAULTS. -/
def defaultsRequest (t : Sto) : List Msg := if t.saving.isSome then [answer .busy []] else answer .ok [] :: defaultMsgs

/-- R202: the stage of a RESTART that is taken: its own write begins, or waits for the one in progress. A RESTART that waits
already keeps its stage (log 10). -/
def RestartStage.taken (writing : Bool) : RestartStage → RestartStage
  | .none => if writing then .ahead else .own
  | r => r

/-- R202: RESTART. -/
def restartRequest (q : Nat) (t : Sto) : Sto × List Msg :=
  if t.saving.isSome then (t, [answer .busy []])
  else ({ requestWrite q t with restarting := t.restarting.taken t.writing.isSome }, [answer .ok []])

/-- What each event at STO does. -/
def stoHandle (e : StoEv) (s : State) : Sto × List Msg :=
  let t := s.sto
  let q := s.chg.q
  match e with
  | .heater items => (requestWrite q { t with items := items }, [])
  | .writeState => (requestWrite q t, [])
  | .saveComplete => (completeSave t, [])
  | .writeComplete => (completeWrite q t, [])
  | .hourlyExpiry => if t.hourly = 0 then (requestWrite q { t with hourly := 3600 }, []) else (t, [])
  | .second => ({ t with hourly := t.hourly - 1 }, [])
  | .save => saveRequest s t
  | .defaults => (t, defaultsRequest t)
  | .restart => restartRequest q t

end Sys2Proof.Machine
end

