-- ==== Sys2Proof/Machine/Events.lean ====
section
/-! DEFINITION. One event after another: a message delivered to its block, the messages handed on taken in order until none is
left, and the expiries that a second finds due. -/

namespace Sys2Proof.Machine

/-- A message delivered: its block takes the event, changes its own state, and hands on (00 2.1, 5.4). -/
def deliver (m : Msg) (s : State) : State × List Msg :=
  match m with
  | .chg e => ({ s with chg := (chgHandle e s).1 }, (chgHandle e s).2)
  | .dmd e => ({ s with dmd := (dmdHandle e s).1 }, (dmdHandle e s).2)
  | .htr e => ({ s with htr := (htrHandle e s).1 }, (htrHandle e s).2)
  | .clr e => ({ s with clr := (clrHandle e s).1 }, (clrHandle e s).2)
  | .lgt e => ({ s with lgt := (lgtHandle e s).1 }, (lgtHandle e s).2)
  | .rcl e => ({ s with rcl := (rclHandle e s).1 }, (rclHandle e s).2)
  | .sch e => ({ s with sch := (schHandle e s).1 }, (schHandle e s).2)
  | .alr e => ({ s with alr := (alrHandle e s).1 }, (alrHandle e s).2)
  | .rpq e => ({ s with rpq := (rpqHandle e s).1 }, (rpqHandle e s).2)
  | .lnk e => ({ s with lnk := (lnkHandle e s).1 }, (lnkHandle e s).2)
  | .sto e => ({ s with sto := (stoHandle e s).1 }, (stoHandle e s).2)

/-- The place of a message among those handed on (log 12): a frost start waits for the others, a firing sweep for all. -/
def Msg.rank : Msg → Nat
  | .htr .frostStart => 1
  | .sch .sweep => 2
  | _ => 0

/-- The first message of rank `n`, and the messages without it. -/
def popRank (n : Nat) : List Msg → Option (Msg × List Msg)
  | [] => none
  | m :: ms => if m.rank = n then some (m, ms) else (popRank n ms).map fun p => (p.1, m :: p.2)

/-- The next message to be taken: first in, first out within the lowest rank (log 1, log 12). -/
def popMsg (ms : List Msg) : Option (Msg × List Msg) :=
  match popRank 0 ms with
  | some p => some p
  | none =>
    match popRank 1 ms with
    | some p => some p
    | none => popRank 2 ms

/-- Up to `n` messages taken, each with what it hands on put behind the others (log 6). -/
def run : Nat → List Msg → State → State
  | 0, _, s => s
  | n + 1, ms, s =>
    match popMsg ms with
    | none => s
    | some (m, rest) => run n (rest ++ (deliver m s).2) (deliver m s).1

/-- How many messages one event may bring about (log 6). -/
def eventFuel : Nat := 10000

/-- The messages handed on taken until none is left. -/
def settle (ms : List Msg) (s : State) : State := run eventFuel ms s

/-- A fresh point of the event counter, at which an event takes its free values (log 20). -/
def fresh (s : State) : State := { s with free := s.free + 1 }

/-- An event taken by its block, with everything it brings about. -/
def event (m : Msg) (s : State) : State := settle (deliver m (fresh s)).2 (deliver m (fresh s)).1

/-- Several events handed on at once, in their order, with everything they bring about. -/
def events (ms : List Msg) (s : State) : State := settle ms (fresh s)

/-! ### What a second finds due (R125; log 2) -/

/-- Expiries of HTR that are due. -/
def heaterDue (h : Htr) : List Msg :=
  msgsIf (h.seq == .precheck && ranOut h.timer) [.htr .precheckExpiry] ++
    msgsIf (h.seq == .preheat && ranOut h.timer) [.htr .preheatExpiry] ++
    msgsIf (h.seq == .ignite && ranOut h.timer) [.htr .igniteExpiry] ++
    msgsIf (h.seq == .ramp && ranOut h.timer) [.htr .rampExpiry] ++
    msgsIf (h.seq == .purge && h.purge.time == 120) [.htr .purgeMinimum] ++
    msgsIf (h.seq == .purge && decide (300 ≤ h.purge.time)) [.htr .purgeTimeout, .htr .fixedPurge] ++
    msgsIf (ranOut h.frostRetry) [.htr .frostRetry]

/-- Expiries of CLR that are due. -/
def coolerDue (c : Clr) (quiet : Bool) : List Msg :=
  msgsIf (c.state == .running && decide (300 ≤ c.runTime) && c.stalls != 0) [.clr .stallClear] ++
    msgsIf (quietRunDue c quiet) [.clr .quietRunEnd] ++
    msgsIf (c.blind && c.state == .running && decide (600 ≤ c.runTime)) [.clr .blindRunEnd] ++
    msgsIf (ranOut c.minOn) [.clr .minOnExpiry] ++ msgsIf (ranOut c.minOff) [.clr .minOffExpiry] ++
    msgsIf (c.state == .pause && ranOut c.pause) [.clr .pauseExpiry] ++
    msgsIf (c.state == .backoff && ranOut c.backoff) [.clr .backoffExpiry] ++
    msgsIf (ranOut c.blindOff) [.clr .blindOffExpiry] ++ msgsIf (c.minute == 0) [.clr .minuteExpiry]

/-- Expiries of ALR that are due. -/
def alertsDue (a : Alr) : List Msg :=
  [5, 6, 7].flatMap (fun k =>
      msgsIf ((a.record k).state == .sounding && decide (600 ≤ (a.record k).sounding)) [.alr (.soundingExpiry k)]) ++
    [0, 1, 2].flatMap fun k =>
      msgsIf ((a.record k).state == .silenced && ranOut (a.record k).resound) [.alr (.resoundExpiry k)]

/-- Every expiry counted in seconds that has run out and has not been taken (log 2). -/
def overdueMsgs (s : State) : List Msg :=
  msgsIf (ranOut s.chg.doze) [.chg .dozeExpiry] ++ msgsIf (ranOut s.dmd.timer) [.dmd .budgetExpiry] ++ heaterDue s.htr ++
    coolerDue s.clr s.rcl.quiet ++ msgsIf (ranOut s.lgt.doorTimer) [.lgt .doorExpiry] ++
    msgsIf (ranOut s.sch.refresh) [.sch .refreshExpiry] ++ alertsDue s.alr ++
    msgsIf (s.sto.hourly == 0) [.sto .hourlyExpiry]

end Sys2Proof.Machine
end

