-- ==== Sys2Proof/Machine/AlertEvents.lean ====
section
/-! DEFINITION. The expiries and the pattern of the alert unit (chapter 8). One meaning per command. -/

namespace Sys2Proof.Machine

/-- An event alert has sounded for 600 s (R164). -/
def execSoundingTimeExpiry (kind : Nat) (s : State) : Host.Outcome State Fault Refusal :=
  .next (event (.alr (.soundingExpiry kind)) s)

/-- A re-sound timer expires (R171). -/
def execReSoundExpiry (kind : Nat) (s : State) : Host.Outcome State Fault Refusal :=
  .next (event (.alr (.resoundExpiry kind)) s)

/-- The period P has passed and a burst begins (R167). -/
def execBurstStart (s : State) : Host.Outcome State Fault Refusal :=
  .next (event (.alr .burstStart) s)

/-- The last off period of a burst ends (R166, R167). -/
def execBurstBoundary (s : State) : Host.Outcome State Fault Refusal :=
  .next (event (.alr .boundary) s)

/-- An on or off period of 200 ms ends (R167). -/
def execBeepPhase (s : State) : Host.Outcome State Fault Refusal :=
  .next (event (.alr .beepPhase) s)

end Sys2Proof.Machine
end

