-- ==== Sys2Proof/Machine/Requests.lean ====
section
/-! DEFINITION. A request as a whole: its dispatch with everything that brings about, then its reply placed in the slot. -/

namespace Sys2Proof.Machine

/-- R189: a good request frame taken at LNK. The reply is placed in its slot at the close of the event (log 33). -/
def request (tag : Byte) (r : Request) (s : State) : State :=
  event (.lnk .commit) (event (.lnk (.request tag r)) s)

end Sys2Proof.Machine
end

