-- ==== Sys2Proof/Machine/BasicRequests.lean ====
section
/-! DEFINITION. The requests of the Basic tier (10.4). One meaning per command. -/

namespace Sys2Proof.Machine

/-- The status summary (R195). -/
def execStatus (tag : Byte) (s : State) : Host.Outcome State Fault Refusal :=
  .next (request tag .status s)

/-- The readings (R195). -/
def execReadings (tag : Byte) (s : State) : Host.Outcome State Fault Refusal :=
  .next (request tag .readings s)

/-- A heater start asked for by the host (R55). -/
def execHeatStart (tag : Byte) (s : State) : Host.Outcome State Fault Refusal :=
  .next (request tag .heatStart s)

/-- The heater session stopped (R69). -/
def execHeatStop (tag : Byte) (s : State) : Host.Outcome State Fault Refusal :=
  .next (request tag .heatStop s)

/-- The heater profile (R80). -/
def execHeatSet (tag : Byte) (args : HeatArgs) (s : State) : Host.Outcome State Fault Refusal :=
  .next (request tag (.heatSet args) s)

/-- The cooler settings (R98). -/
def execCoolSet (tag : Byte) (args : CoolArgs) (s : State) : Host.Outcome State Fault Refusal :=
  .next (request tag (.coolSet args) s)

/-- A channel or a group's channels written (R109). -/
def execLightSet (tag : Byte) (args : LightArgs) (s : State) : Host.Outcome State Fault Refusal :=
  .next (request tag (.lightSet args) s)

/-- A scene recalled (R113). -/
def execSceneRecall (tag : Byte) (scene : Nat) (s : State) : Host.Outcome State Fault Refusal :=
  .next (request tag (.sceneRecall scene) s)

/-- A HOST frame pushed (R115). -/
def execLightSave (tag : Byte) (s : State) : Host.Outcome State Fault Refusal :=
  .next (request tag .lightSave s)

/-- The topmost HOST frame restored (R116). -/
def execLightRestore (tag : Byte) (s : State) : Host.Outcome State Fault Refusal :=
  .next (request tag .lightRestore s)

/-- The driver's activity (R127). -/
def execActivity (tag : Byte) (code : Nat) (s : State) : Host.Outcome State Fault Refusal :=
  .next (request tag (.activity code) s)

/-- A planned rest (R133, R134). -/
def execRestPlan (tag : Byte) (wake : Nat) (s : State) : Host.Outcome State Fault Refusal :=
  .next (request tag (.restPlan wake) s)

/-- An alert acknowledged (R169). -/
def execAlertAck (tag : Byte) (kind : Nat) (s : State) : Host.Outcome State Fault Refusal :=
  .next (request tag (.alertAck kind) s)

/-- The alert channel (R172). -/
def execAlertAckSettings (tag : Byte) (channel : Nat) (s : State) : Host.Outcome State Fault Refusal :=
  .next (request tag (.alertChannel channel) s)

/-- The report gate (R179). -/
def execReportGate (tag : Byte) (gate clear : Nat) (s : State) : Host.Outcome State Fault Refusal :=
  .next (request tag (.reportGate gate clear) s)

end Sys2Proof.Machine
end

