-- ==== Sys2Proof/Machine/ChargeEvents.lean ====
section
/-! DEFINITION. The events at CHG and DMD that come from outside (chapters 1 and 2). One meaning per command. -/

namespace Sys2Proof.Machine

/-- A measurement, with everything it hands on (R3, R25). -/
def execMeasurement (m : Samples) (s : State) : Host.Outcome State Fault Refusal :=
  .next (event (.chg (.measure m)) s)

/-- The third in-range sample of a run (R6). MEASUREMENT takes it itself; here the test is made again (log 4). -/
def execSensorValid (input : Nat) (s : State) : Host.Outcome State Fault Refusal :=
  .next (event (.chg (.sensorValid input)) s)

/-- The sync count has reached 60 (R9; log 4). -/
def execFullSync (s : State) : Host.Outcome State Fault Refusal :=
  .next (event (.chg .fullSync) s)

/-- The rest-current time has reached 1,800 s (R10, R12; log 4). -/
def execRestVoltageCorrection (s : State) : Host.Outcome State Fault Refusal :=
  .next (event (.chg .restCorrection) s)

/-- The low count has reached 10 in CLEAR (R16; log 4). -/
def execLowCountLimit (s : State) : Host.Outcome State Fault Refusal :=
  .next (event (.chg .lowLimit) s)

/-- The hard count has reached 10 (R16; log 4). -/
def execHardCountLimit (s : State) : Host.Outcome State Fault Refusal :=
  .next (event (.chg .hardLimit) s)

/-- The clear count has reached 60 in CRITICAL (R16; log 4). -/
def execClearCountLimit (s : State) : Host.Outcome State Fault Refusal :=
  .next (event (.chg .clearLimit) s)

/-- The charge count has reached 30 in CUTOFF (R16; log 4). -/
def execChargeCountLimit (s : State) : Host.Outcome State Fault Refusal :=
  .next (event (.chg .chargeLimit) s)

/-- The doze timer expires (R19, R21). -/
def execDozeTimerExpiry (s : State) : Host.Outcome State Fault Refusal :=
  .next (event (.chg .dozeExpiry) s)

/-- A qualified change of IGN (R18). -/
def execIgnChange (on : Bool) (s : State) : Host.Outcome State Fault Refusal :=
  .next (event (.chg (.ign on)) s)

/-- The budget timer expires and runs a pass (R32). -/
def execBudgetTimerExpiry (s : State) : Host.Outcome State Fault Refusal :=
  .next (event (.dmd .budgetExpiry) s)

end Sys2Proof.Machine
end

