-- ==== Sys2Proof/Machine/CoolerEvents.lean ====
section
/-! DEFINITION. The expiries and marks of the cooler controller (chapter 4). One meaning per command. -/

namespace Sys2Proof.Machine

/-- The min-on timer expires (R89). -/
def execMinOnExpiry (s : State) : Host.Outcome State Fault Refusal :=
  .next (event (.clr .minOnExpiry) s)

/-- The min-off timer expires (R88). -/
def execMinOffExpiry (s : State) : Host.Outcome State Fault Refusal :=
  .next (event (.clr .minOffExpiry) s)

/-- A quiet run has reached Q_run (R91). -/
def execQuietRunEnd (s : State) : Host.Outcome State Fault Refusal :=
  .next (event (.clr .quietRunEnd) s)

/-- A run has reached 300 s (R93). -/
def execStallCountClear (s : State) : Host.Outcome State Fault Refusal :=
  .next (event (.clr .stallClear) s)

/-- A blind run has reached 600 s (R97). -/
def execBlindRunEnd (s : State) : Host.Outcome State Fault Refusal :=
  .next (event (.clr .blindRunEnd) s)

/-- The pause timer expires (R91). -/
def execPauseExpiry (s : State) : Host.Outcome State Fault Refusal :=
  .next (event (.clr .pauseExpiry) s)

/-- A change of COMP_FAULT (R92). -/
def execCompFault (asserted : Bool) (s : State) : Host.Outcome State Fault Refusal :=
  .next (event (.clr (.compFault asserted)) s)

/-- The backoff timer expires (R92). -/
def execBackoffExpiry (s : State) : Host.Outcome State Fault Refusal :=
  .next (event (.clr .backoffExpiry) s)

/-- The blind off timer expires (R97). -/
def execBlindOffExpiry (s : State) : Host.Outcome State Fault Refusal :=
  .next (event (.clr .blindOffExpiry) s)

/-- The minute timer expires and the duty ring takes the minute (R94). -/
def execMinuteTimerExpiry (s : State) : Host.Outcome State Fault Refusal :=
  .next (event (.clr .minuteExpiry) s)

/-- The warm time has reached 1,800 s (R96; log 4). -/
def execWarmConditionRaised (s : State) : Host.Outcome State Fault Refusal :=
  .next (event (.clr .warmRaise) s)

end Sys2Proof.Machine
end

