-- ==== Sys2Proof/Machine/ExtendedRequests.lean ====
section
/-! DEFINITION. The requests of the Extended tier (10.4). One meaning per command. -/

namespace Sys2Proof.Machine

/-- Cab time set (R137). -/
def execClockSet (tag : Byte) (time : Nat) (s : State) : Host.Outcome State Fault Refusal :=
  .next (request tag (.clockSet time) s)

/-- The rest settings (R138). -/
def execClockSetSettings (tag : Byte) (settings : RestSettings) (s : State) : Host.Outcome State Fault Refusal :=
  .next (request tag (.restSettings settings) s)

/-- A host entry added (R148). -/
def execSchedAdd (tag : Byte) (args : SchedArgs) (s : State) : Host.Outcome State Fault Refusal :=
  .next (request tag (.schedAdd args) s)

/-- An entry removed (R149). -/
def execSchedRemove (tag : Byte) (slot : Nat) (s : State) : Host.Outcome State Fault Refusal :=
  .next (request tag (.schedRemove slot) s)

/-- Entries listed (R150). -/
def execSchedList (tag : Byte) (start : Nat) (s : State) : Host.Outcome State Fault Refusal :=
  .next (request tag (.schedList start) s)

/-- The readout window (R141). -/
def execLogWindow (tag : Byte) (first last : Nat) (s : State) : Host.Outcome State Fault Refusal :=
  .next (request tag (.logWindow first last) s)

/-- Log items read (R142). -/
def execLogRead (tag : Byte) (s : State) : Host.Outcome State Fault Refusal :=
  .next (request tag .logRead s)

/-- A scene stored (R112). -/
def execSceneStore (tag : Byte) (scene : Nat) (items : List SceneItem) (s : State) :
    Host.Outcome State Fault Refusal :=
  .next (request tag (.sceneStore scene items) s)

/-- A group's members (R110). -/
def execGroupSetGroup (tag : Byte) (group : Nat) (members : Byte) (s : State) : Host.Outcome State Fault Refusal :=
  .next (request tag (.groupSet group members) s)

/-- The channel table (R111). -/
def execGroupSetChannel (tag : Byte) (currents : List Int) (quietCap : Nat) (s : State) :
    Host.Outcome State Fault Refusal :=
  .next (request tag (.channelSet currents quietCap) s)

/-- The level of a cause (R174). -/
def execCauseLevel (tag : Byte) (cause level : Nat) (s : State) : Host.Outcome State Fault Refusal :=
  .next (request tag (.causeLevel cause level) s)

/-- The level mask and the attention threshold (R178). -/
def execCauseLevelSettings (tag : Byte) (mask threshold : Nat) (s : State) : Host.Outcome State Fault Refusal :=
  .next (request tag (.levelMask mask threshold) s)

/-- A descriptor armed (R182). -/
def execCaptureArm (tag : Byte) (args : ArmArgs) (s : State) : Host.Outcome State Fault Refusal :=
  .next (request tag (.captureArm args) s)

/-- A capture record read (R184). -/
def execCaptureRead (tag : Byte) (desc index : Nat) (s : State) : Host.Outcome State Fault Refusal :=
  .next (request tag (.captureRead desc index) s)

/-- A descriptor freed (R184). -/
def execCaptureFree (tag : Byte) (desc : Nat) (s : State) : Host.Outcome State Fault Refusal :=
  .next (request tag (.captureFree desc) s)

/-- The level table read (R76). -/
def execHeatTableRead (tag : Byte) (s : State) : Host.Outcome State Fault Refusal :=
  .next (request tag .tableRead s)

/-- The level table written (R76). -/
def execHeatTableWrite (tag : Byte) (rows : List LevelRow) (s : State) : Host.Outcome State Fault Refusal :=
  .next (request tag (.tableWrite rows) s)

/-- A host entry declared (R47). -/
def execDemandDeclare (tag : Byte) (args : DeclareArgs) (s : State) : Host.Outcome State Fault Refusal :=
  .next (request tag (.demandDeclare args) s)

/-- A host entry released (R48). -/
def execDemandRelease (tag : Byte) (entry : Nat) (s : State) : Host.Outcome State Fault Refusal :=
  .next (request tag (.demandRelease entry) s)

/-- The demand table read (R50). -/
def execBudgetRead (tag : Byte) (s : State) : Host.Outcome State Fault Refusal :=
  .next (request tag .budgetRead s)

/-- The link error counters (R194). -/
def execLinkStats (tag : Byte) (clear : Nat) (s : State) : Host.Outcome State Fault Refusal :=
  .next (request tag (.linkStats clear) s)

/-- A Settings save begun (R198). -/
def execSettingsSave (tag : Byte) (s : State) : Host.Outcome State Fault Refusal :=
  .next (request tag .settingsSave s)

end Sys2Proof.Machine
end

