-- ==== Sys2Proof/Machine/HeaterEvents.lean ====
section
/-! DEFINITION. The expiries and marks of the heater sequencer (chapter 3). One meaning per command. -/

namespace Sys2Proof.Machine

/-- The 5 s of PRECHECK end (R57). -/
def execPrecheckExpiry (s : State) : Host.Outcome State Fault Refusal :=
  .next (event (.htr .precheckExpiry) s)

/-- The 30 s of PREHEAT end (R58). -/
def execPreheatExpiry (s : State) : Host.Outcome State Fault Refusal :=
  .next (event (.htr .preheatExpiry) s)

/-- The 90 s of IGNITE end without success (R59). -/
def execIgniteExpiry (s : State) : Host.Outcome State Fault Refusal :=
  .next (event (.htr .igniteExpiry) s)

/-- The 60 s of RAMP end (R60). -/
def execRampExpiry (s : State) : Host.Outcome State Fault Refusal :=
  .next (event (.htr .rampExpiry) s)

/-- The sample count has reached 10 in RUN (R62, R63; log 4). -/
def execControlPeriodEnd (s : State) : Host.Outcome State Fault Refusal :=
  .next (event (.htr .controlPeriod) s)

/-- The idle time has reached 300 s (R64; log 4). -/
def execIdleStop (s : State) : Host.Outcome State Fault Refusal :=
  .next (event (.htr .idleStop) s)

/-- The flame-low time has reached 15 s (R65; log 4). -/
def execFlameOut (s : State) : Host.Outcome State Fault Refusal :=
  .next (event (.htr .flameOut) s)

/-- The 120 s minimum of a purge ends (R66). -/
def execPurgeMinimumExpiry (s : State) : Host.Outcome State Fault Refusal :=
  .next (event (.htr .purgeMinimum) s)

/-- A NORMAL purge has reached 300 s (R66). -/
def execPurgeTimeout (s : State) : Host.Outcome State Fault Refusal :=
  .next (event (.htr .purgeTimeout) s)

/-- A FIXED purge has reached 300 s (R67). -/
def execFixedPurgeEnd (s : State) : Host.Outcome State Fault Refusal :=
  .next (event (.htr .fixedPurge) s)

/-- The frost retry timer expires (R79). -/
def execFrostRetryExpiry (s : State) : Host.Outcome State Fault Refusal :=
  .next (event (.htr .frostRetry) s)

end Sys2Proof.Machine
end

