-- ==== Sys2Proof/Machine/LightEvents.lean ====
section
/-! DEFINITION. The steps, the door and the buttons (chapter 5). One meaning per command. -/

namespace Sys2Proof.Machine

/-- One fade step of every fading channel (R104). -/
def execFadeStep (s : State) : Host.Outcome State Fault Refusal :=
  .next (event (.lgt .fadeStep) s)

/-- One flash step of every override (R118). -/
def execFlashStep (s : State) : Host.Outcome State Fault Refusal :=
  .next (event (.lgt .flashStep) s)

/-- A qualified change of DOOR (R120). -/
def execDoorChange (isOpen : Bool) (s : State) : Host.Outcome State Fault Refusal :=
  .next (event (.lgt (.door isOpen)) s)

/-- The door timer expires (R120). -/
def execDoorTimerExpiry (s : State) : Host.Outcome State Fault Refusal :=
  .next (event (.lgt .doorExpiry) s)

/-- A qualified press or release (R121). -/
def execButtonChange (button : Button) (pressed : Bool) (s : State) : Host.Outcome State Fault Refusal :=
  .next (event (.lgt (.button button pressed)) s)

/-- A button held for 2.0 s (R121). -/
def execLongPress (button : Button) (s : State) : Host.Outcome State Fault Refusal :=
  .next (event (.lgt (.longPress button)) s)

end Sys2Proof.Machine
end

