-- ==== Sys2Proof/Machine/LinkEvents.lean ====
section
/-! DEFINITION. The events of the link and of the settings store (chapters 10 and 11). One meaning per command. -/

namespace Sys2Proof.Machine

/-- A received byte; the reply of a request it completes is placed at the close (R186, R188, R189; log 33). -/
def execReceiveByte (byte : Byte) (s : State) : Host.Outcome State Fault Refusal :=
  .next (event (.lnk .commit) (event (.lnk (.byte byte)) s))

/-- The gap timer expires in a frame (R188). -/
def execGapTimerExpiry (s : State) : Host.Outcome State Fault Refusal :=
  .next (event (.lnk .gapExpiry) s)

/-- A frame's last byte has been sent (R193). -/
def execFrameSent (s : State) : Host.Outcome State Fault Refusal :=
  .next (event (.lnk .frameSent) s)

/-- A qualified change of SERVICE (R192). -/
def execServiceChange (high : Bool) (s : State) : Host.Outcome State Fault Refusal :=
  .next (event (.lnk (.service high)) s)

/-- A Settings save completes (R198). -/
def execSettingsSaveComplete (s : State) : Host.Outcome State Fault Refusal :=
  .next (event (.sto .saveComplete) s)

/-- A State write completes (R199). -/
def execStateWriteComplete (s : State) : Host.Outcome State Fault Refusal :=
  .next (event (.sto .writeComplete) s)

/-- The hourly State timer expires (R199). -/
def execHourlyStateTimer (s : State) : Host.Outcome State Fault Refusal :=
  .next (event (.sto .hourlyExpiry) s)

/-- A request code the catalogue does not name (R189). A code outside 0x01..0x3F, or one it names, is no such request. -/
def execUnknownRequest (tag code : Byte) (s : State) : Host.Outcome State Fault Refusal :=
  .next (event (.lnk .commit) (event (.lnk (.unknown tag code)) s))

end Sys2Proof.Machine
end

