-- ==== Sys2Proof/Machine/Reset.lean ====
section
/-! DEFINITION. The three resets (R200 to R202): the areas checked, every block at its post-reset values, the posts of the
start-up. -/

namespace Sys2Proof.Machine

/-- R200: the settings in use. -/
def usedSettings (t : Sto) : Settings := (readSettings t.settingsArea).getD defaultSettings

/-- R200: the heater items in use. -/
def usedItems (t : Sto) : Retained := ((readSaved t.stateArea).map Saved.heater).getD lostItems

/-- R200, R26: the Q in use. -/
def usedCharge (t : Sto) (cNom : Nat) : Nat := ((readSaved t.stateArea).map fun x => min x.q cNom).getD (cNom / 2)

/-- R201: every block at its post-reset values. The queue of commands and the event counter are the model's own. -/
def blocksAtReset (pins : Pins) (s : State) : State :=
  let x := usedSettings s.sto
  let items := usedItems s.sto
  { chg := Chg.atReset x (usedCharge s.sto x.battery.cNom) pins
    dmd := Dmd.atReset x pins
    htr := Htr.atReset x items
    clr := Clr.atReset x pins
    lgt := Lgt.atReset x pins
    rcl := Rcl.atReset x
    sch := Sch.atReset
    alr := Alr.atReset x
    rpq := Rpq.atReset x
    lnk := Lnk.atReset pins
    sto := Sto.atReset s.sto.settingsArea s.sto.stateArea items
    pending := s.pending
    free := s.free }

/-- R200, R201: the posts of the start-up in their order, and the State write that a lost State area begins (R82). -/
def startUpMsgs (kind : ResetKind) (s : State) : List Msg :=
  let settingsValid := (readSettings s.sto.settingsArea).isSome
  let stateValid := (readSaved s.sto.stateArea).isSome
  post Cause.started (u8 kind.code ++ flagByte settingsValid ++ flagByte stateValid) ::
    msgsIf (!settingsValid) [post Cause.settingsLost (u8 kind.code)] ++
    msgsIf (!stateValid)
      [post Cause.stateLost (u8 kind.code ++ u32 (usedCharge s.sto (usedSettings s.sto).battery.cNom)),
        .sto (.heater (usedItems s.sto))] ++
    [.chg .review]

/-- R201: a reset of the given kind with the given levels of the switches. -/
def startUp (kind : ResetKind) (pins : Pins) (s : State) : State := events (startUpMsgs kind s) (blocksAtReset pins s)

/-- R202: a slot, or the reply being completed, holds the OK reply to a RESTART. -/
def restartReplyWaits (l : Lnk) : Bool := (l.slots ++ l.answer.toList).any fun r => r.kind == 0xB6#8 && r.status == 0

/-- R202: the reset that a RESTART asks for follows once its State write and the one pending behind it have completed, no save is
in progress, and its reply has gone. A State write that began after those does not hold it (log 10). -/
def restartDue (s : State) : Bool := s.sto.restarting == .done && s.sto.saving.isNone && !restartReplyWaits s.lnk

end Sys2Proof.Machine
end

