-- ==== Sys2Proof/Machine/Resets.lean ====
section
/-! DEFINITION. The resets (R201, R202). One meaning per command. -/

namespace Sys2Proof.Machine

/-- The supply rises through the operating minimum (R201). -/
def execPowerOn (pins : Pins) (s : State) : Host.Outcome State Fault Refusal :=
  .next (startUp .powerOn pins s)

/-- The supply fell below the brown-out threshold and has risen again (R201; log 9). -/
def execBrownOut (pins : Pins) (s : State) : Host.Outcome State Fault Refusal :=
  .next (startUp .brownOut pins s)

/-- The reset at the end of a RESTART, once nothing holds it back (R202; log 10). -/
def execRestartReset (pins : Pins) (s : State) : Host.Outcome State Fault Refusal :=
  .next (if restartDue s then startUp .restart pins s else s)

end Sys2Proof.Machine
end

