-- ==== Sys2Proof/Machine/RestEvents.lean ====
section
/-! DEFINITION. The second, the break tests, firings and derivations (chapters 6 and 7). One meaning per command. -/

namespace Sys2Proof.Machine

/-- One second: expiries still due are taken first (log 2), then the second advances every count (R125). -/
def execSecondTimer (s : State) : Host.Outcome State Fault Refusal :=
  .next (event (.rcl .second) (events (overdueMsgs s) s))

/-- A break run has reached the break minimum (R130; log 4). -/
def execFullQualification (s : State) : Host.Outcome State Fault Refusal :=
  .next (event (.rcl .fullQualification) s)

/-- A break run has reached the split second part (R130; log 4). -/
def execSplitQualification (s : State) : Host.Outcome State Fault Refusal :=
  .next (event (.rcl .splitQualification) s)

/-- The accumulator has reached the limit minus the lead (R132; log 4). -/
def execBreakDue (s : State) : Host.Outcome State Fault Refusal :=
  .next (event (.rcl .breakDue) s)

/-- The accumulator has reached the limit (R132; log 4). -/
def execBreakOverdue (s : State) : Host.Outcome State Fault Refusal :=
  .next (event (.rcl .breakOverdue) s)

/-- The head entry, when due, fires (R152; log 4). -/
def execScheduleFiring (s : State) : Host.Outcome State Fault Refusal :=
  .next (event (.sch .fire) s)

/-- The refresh timer expires and SCH makes a derivation (R157). -/
def execRefreshTimerExpiry (s : State) : Host.Outcome State Fault Refusal :=
  .next (event (.sch .refreshExpiry) s)

end Sys2Proof.Machine
end

