-- ==== Sys2Proof/Machine/ServiceRequests.lean ====
section
/-! DEFINITION. The requests of the Service tier (10.4, R192). One meaning per command. -/

namespace Sys2Proof.Machine

/-- The lockout cleared (R75). -/
def execHeatClearLockout (tag : Byte) (s : State) : Host.Outcome State Fault Refusal :=
  .next (request tag .clearLockout s)

/-- The battery parameters (R22). -/
def execBatterySet (tag : Byte) (params : BatteryParams) (s : State) : Host.Outcome State Fault Refusal :=
  .next (request tag (.batterySet params) s)

/-- The counted charge (R23). -/
def execChargeSet (tag : Byte) (charge : Nat) (s : State) : Host.Outcome State Fault Refusal :=
  .next (request tag (.chargeSet charge) s)

/-- The OCV table (R24). -/
def execOcvSet (tag : Byte) (voltages : List Nat) (s : State) : Host.Outcome State Fault Refusal :=
  .next (request tag (.ocvSet voltages) s)

/-- An input's trim offset (R24). -/
def execSensorTrim (tag : Byte) (input : Nat) (offset : Int) (s : State) : Host.Outcome State Fault Refusal :=
  .next (request tag (.sensorTrim input offset) s)

/-- Every working setting takes its default (R202). -/
def execDefaults (tag : Byte) (s : State) : Host.Outcome State Fault Refusal :=
  .next (request tag .defaults s)

/-- A restart asked for (R202). -/
def execRestart (tag : Byte) (s : State) : Host.Outcome State Fault Refusal :=
  .next (request tag .restart s)

end Sys2Proof.Machine
end

