-- ==== Sys2Proof/Machine/Dispatch.lean ====
section
/-! DEFINITION. One arm per command, each a call of the command's own meaning. -/

namespace Sys2Proof.Machine

def exec (i : Instr) (s : State) : Host.Outcome State Fault Refusal :=
  match i with
  | .powerOn pins => Sys2Proof.Machine.execPowerOn pins s
  | .brownOut pins => Sys2Proof.Machine.execBrownOut pins s
  | .restartReset pins => Sys2Proof.Machine.execRestartReset pins s
  | .measurement m => Sys2Proof.Machine.execMeasurement m s
  | .sensorValid input => Sys2Proof.Machine.execSensorValid input s
  | .fullSync => Sys2Proof.Machine.execFullSync s
  | .restVoltageCorrection => Sys2Proof.Machine.execRestVoltageCorrection s
  | .lowCountLimit => Sys2Proof.Machine.execLowCountLimit s
  | .hardCountLimit => Sys2Proof.Machine.execHardCountLimit s
  | .clearCountLimit => Sys2Proof.Machine.execClearCountLimit s
  | .chargeCountLimit => Sys2Proof.Machine.execChargeCountLimit s
  | .dozeTimerExpiry => Sys2Proof.Machine.execDozeTimerExpiry s
  | .ignChange on => Sys2Proof.Machine.execIgnChange on s
  | .budgetTimerExpiry => Sys2Proof.Machine.execBudgetTimerExpiry s
  | .precheckExpiry => Sys2Proof.Machine.execPrecheckExpiry s
  | .preheatExpiry => Sys2Proof.Machine.execPreheatExpiry s
  | .igniteExpiry => Sys2Proof.Machine.execIgniteExpiry s
  | .rampExpiry => Sys2Proof.Machine.execRampExpiry s
  | .controlPeriodEnd => Sys2Proof.Machine.execControlPeriodEnd s
  | .idleStop => Sys2Proof.Machine.execIdleStop s
  | .flameOut => Sys2Proof.Machine.execFlameOut s
  | .purgeMinimumExpiry => Sys2Proof.Machine.execPurgeMinimumExpiry s
  | .purgeTimeout => Sys2Proof.Machine.execPurgeTimeout s
  | .fixedPurgeEnd => Sys2Proof.Machine.execFixedPurgeEnd s
  | .frostRetryExpiry => Sys2Proof.Machine.execFrostRetryExpiry s
  | .minOnExpiry => Sys2Proof.Machine.execMinOnExpiry s
  | .minOffExpiry => Sys2Proof.Machine.execMinOffExpiry s
  | .quietRunEnd => Sys2Proof.Machine.execQuietRunEnd s
  | .stallCountClear => Sys2Proof.Machine.execStallCountClear s
  | .blindRunEnd => Sys2Proof.Machine.execBlindRunEnd s
  | .pauseExpiry => Sys2Proof.Machine.execPauseExpiry s
  | .compFault asserted => Sys2Proof.Machine.execCompFault asserted s
  | .backoffExpiry => Sys2Proof.Machine.execBackoffExpiry s
  | .blindOffExpiry => Sys2Proof.Machine.execBlindOffExpiry s
  | .minuteTimerExpiry => Sys2Proof.Machine.execMinuteTimerExpiry s
  | .warmConditionRaised => Sys2Proof.Machine.execWarmConditionRaised s
  | .fadeStep => Sys2Proof.Machine.execFadeStep s
  | .flashStep => Sys2Proof.Machine.execFlashStep s
  | .doorChange isOpen => Sys2Proof.Machine.execDoorChange isOpen s
  | .doorTimerExpiry => Sys2Proof.Machine.execDoorTimerExpiry s
  | .buttonChange button pressed => Sys2Proof.Machine.execButtonChange button pressed s
  | .longPress button => Sys2Proof.Machine.execLongPress button s
  | .secondTimer => Sys2Proof.Machine.execSecondTimer s
  | .fullQualification => Sys2Proof.Machine.execFullQualification s
  | .splitQualification => Sys2Proof.Machine.execSplitQualification s
  | .breakDue => Sys2Proof.Machine.execBreakDue s
  | .breakOverdue => Sys2Proof.Machine.execBreakOverdue s
  | .scheduleFiring => Sys2Proof.Machine.execScheduleFiring s
  | .refreshTimerExpiry => Sys2Proof.Machine.execRefreshTimerExpiry s
  | .soundingTimeExpiry kind => Sys2Proof.Machine.execSoundingTimeExpiry kind s
  | .reSoundExpiry kind => Sys2Proof.Machine.execReSoundExpiry kind s
  | .burstStart => Sys2Proof.Machine.execBurstStart s
  | .burstBoundary => Sys2Proof.Machine.execBurstBoundary s
  | .receiveByte byte => Sys2Proof.Machine.execReceiveByte byte s
  | .gapTimerExpiry => Sys2Proof.Machine.execGapTimerExpiry s
  | .frameSent => Sys2Proof.Machine.execFrameSent s
  | .serviceChange high => Sys2Proof.Machine.execServiceChange high s
  | .settingsSaveComplete => Sys2Proof.Machine.execSettingsSaveComplete s
  | .stateWriteComplete => Sys2Proof.Machine.execStateWriteComplete s
  | .hourlyStateTimer => Sys2Proof.Machine.execHourlyStateTimer s
  | .unknownRequest tag code => Sys2Proof.Machine.execUnknownRequest tag code s
  | .status tag => Sys2Proof.Machine.execStatus tag s
  | .readings tag => Sys2Proof.Machine.execReadings tag s
  | .heatStart tag => Sys2Proof.Machine.execHeatStart tag s
  | .heatStop tag => Sys2Proof.Machine.execHeatStop tag s
  | .heatSet tag args => Sys2Proof.Machine.execHeatSet tag args s
  | .coolSet tag args => Sys2Proof.Machine.execCoolSet tag args s
  | .lightSet tag args => Sys2Proof.Machine.execLightSet tag args s
  | .sceneRecall tag scene => Sys2Proof.Machine.execSceneRecall tag scene s
  | .lightSave tag => Sys2Proof.Machine.execLightSave tag s
  | .lightRestore tag => Sys2Proof.Machine.execLightRestore tag s
  | .activity tag code => Sys2Proof.Machine.execActivity tag code s
  | .restPlan tag wake => Sys2Proof.Machine.execRestPlan tag wake s
  | .alertAck tag kind => Sys2Proof.Machine.execAlertAck tag kind s
  | .alertAckSettings tag channel => Sys2Proof.Machine.execAlertAckSettings tag channel s
  | .reportGate tag gate clear => Sys2Proof.Machine.execReportGate tag gate clear s
  | .clockSet tag time => Sys2Proof.Machine.execClockSet tag time s
  | .clockSetSettings tag settings => Sys2Proof.Machine.execClockSetSettings tag settings s
  | .schedAdd tag args => Sys2Proof.Machine.execSchedAdd tag args s
  | .schedRemove tag slot => Sys2Proof.Machine.execSchedRemove tag slot s
  | .schedList tag start => Sys2Proof.Machine.execSchedList tag start s
  | .logWindow tag first last => Sys2Proof.Machine.execLogWindow tag first last s
  | .logRead tag => Sys2Proof.Machine.execLogRead tag s
  | .sceneStore tag scene items => Sys2Proof.Machine.execSceneStore tag scene items s
  | .groupSetGroup tag group members => Sys2Proof.Machine.execGroupSetGroup tag group members s
  | .groupSetChannel tag currents quietCap => Sys2Proof.Machine.execGroupSetChannel tag currents quietCap s
  | .causeLevel tag cause level => Sys2Proof.Machine.execCauseLevel tag cause level s
  | .causeLevelSettings tag mask threshold => Sys2Proof.Machine.execCauseLevelSettings tag mask threshold s
  | .captureArm tag args => Sys2Proof.Machine.execCaptureArm tag args s
  | .captureRead tag desc index => Sys2Proof.Machine.execCaptureRead tag desc index s
  | .captureFree tag desc => Sys2Proof.Machine.execCaptureFree tag desc s
  | .heatTableRead tag => Sys2Proof.Machine.execHeatTableRead tag s
  | .heatTableWrite tag rows => Sys2Proof.Machine.execHeatTableWrite tag rows s
  | .demandDeclare tag args => Sys2Proof.Machine.execDemandDeclare tag args s
  | .demandRelease tag entry => Sys2Proof.Machine.execDemandRelease tag entry s
  | .budgetRead tag => Sys2Proof.Machine.execBudgetRead tag s
  | .linkStats tag clear => Sys2Proof.Machine.execLinkStats tag clear s
  | .settingsSave tag => Sys2Proof.Machine.execSettingsSave tag s
  | .heatClearLockout tag => Sys2Proof.Machine.execHeatClearLockout tag s
  | .batterySet tag params => Sys2Proof.Machine.execBatterySet tag params s
  | .chargeSet tag charge => Sys2Proof.Machine.execChargeSet tag charge s
  | .ocvSet tag voltages => Sys2Proof.Machine.execOcvSet tag voltages s
  | .sensorTrim tag input offset => Sys2Proof.Machine.execSensorTrim tag input offset s
  | .defaults tag => Sys2Proof.Machine.execDefaults tag s
  | .restart tag => Sys2Proof.Machine.execRestart tag s
  | .beepPhase => Sys2Proof.Machine.execBeepPhase s

end Sys2Proof.Machine
end

