-- ==== Sys2Proof/WellFormed.lean ====
section
/-! DEFINITION. Which commands can occur: every operand fits the field that carries it (R191, 10.4), and a command that names an
input or an alert names one there is. A value in its field that its rule refuses is still a well-formed command. -/

namespace Sys2Proof

/-- A number carried in `n` bytes. -/
def fits (n x : Nat) : Bool := decide (x < 256 ^ n)

/-- A signed number carried in two bytes. -/
def fitsSigned (x : Int) : Bool := decide (-32768 ≤ x) && decide (x ≤ 32767)

/-- R80. -/
def HeatArgs.wf (x : HeatArgs) : Bool :=
  fitsSigned x.setpoint && fitsSigned x.deadband && fits 1 x.maxLevel && fits 1 x.quietCap && fits 1 x.frostGuard &&
    fitsSigned x.frostLimit && fitsSigned x.flamePresent && fits 2 x.vHeat && fits 4 x.startCharge && fits 1 x.mLo &&
    fits 1 x.mHi

/-- R98: three level currents. -/
def CoolArgs.wf (x : CoolArgs) : Bool :=
  fits 1 x.enable && fitsSigned x.setpoint && fitsSigned x.band && fits 1 x.hostMax && fitsSigned x.offset &&
    fits 4 x.qRun && fits 4 x.qPause && x.currents.length == 3 && x.currents.all fitsSigned

/-- R76. -/
def LevelRow.wf (x : LevelRow) : Bool := fits 2 x.pump && fits 2 x.burner && fits 2 x.air && fitsSigned x.current

/-- R22. -/
def BatteryParams.wf (x : BatteryParams) : Bool :=
  fits 4 x.cNom && fits 2 x.e && fits 2 x.vFull && fitsSigned x.iTail && fits 4 x.rBase && fits 4 x.rCold && fits 2 x.vCut &&
    fits 2 x.vHard

/-- R138. -/
def RestSettings.wf (x : RestSettings) : Bool :=
  fits 4 x.splitFirst && fits 4 x.splitSecond && fits 4 x.breakMin && fits 4 x.driveLimit && fits 4 x.lead &&
    fits 4 x.reducedMin && fits 4 x.regularMin && fits 4 x.quietDelay && fits 4 x.hIdle

/-- R112. -/
def SceneItem.wf (x : SceneItem) : Bool := fits 1 x.channel && fits 2 x.level && fits 2 x.fade

/-- R109. -/
def LightArgs.wf (x : LightArgs) : Bool :=
  fits 1 x.kind && fits 1 x.number && fits 2 x.target && fits 2 x.fade && fits 1 x.hold

/-- R148. -/
def SchedArgs.wf (x : SchedArgs) : Bool := fits 4 x.due && fits 1 x.action && x.param.all fitsSigned && x.period.all (fits 4)

/-- R182: the list is what a payload of at most 56 bytes can carry. -/
def ArmArgs.wf (x : ArmArgs) : Bool :=
  fits 1 x.desc && fits 1 x.cause && decide (x.quantities.length ≤ 51) && x.quantities.all (fits 1) && fits 1 x.count &&
    fits 1 x.start

/-- R47: the list is what a payload of at most 56 bytes can carry. -/
def DeclareArgs.wf (x : DeclareArgs) : Bool :=
  fits 1 x.entry && fits 1 x.cls && decide (x.currents.length ≤ 25) && x.currents.all fitsSigned && fits 1 x.requested &&
    fits 2 x.duty

/-- 10.4: a code that the catalogue does not name. -/
def unnamedCode (code : Nat) : Bool :=
  code == 0x0F || (decide (0x22 ≤ code) && decide (code ≤ 0x2F)) || (decide (0x37 ≤ code) && decide (code ≤ 0x3F))

/-- Whether a command can occur. The alerts with a sounding time are kinds 5 to 7 (R164), those with a re-sound timer kinds 0 to 2
(R171), and there are six temperature inputs (R5). -/
def Instr.wf : Instr → Bool
  | .sensorValid input => decide (input ≤ 5)
  | .soundingTimeExpiry kind => decide (5 ≤ kind) && decide (kind ≤ 7)
  | .reSoundExpiry kind => decide (kind ≤ 2)
  | .unknownRequest _ code => unnamedCode code.toNat
  | .heatSet _ args => args.wf
  | .coolSet _ args => args.wf
  | .lightSet _ args => args.wf
  | .sceneRecall _ scene => fits 1 scene
  | .activity _ code => fits 1 code
  | .restPlan _ wake => fits 4 wake
  | .alertAck _ kind => fits 1 kind
  | .alertAckSettings _ channel => fits 1 channel
  | .reportGate _ gate clear => fits 1 gate && fits 1 clear
  | .clockSet _ time => fits 4 time
  | .clockSetSettings _ settings => settings.wf
  | .schedAdd _ args => args.wf
  | .schedRemove _ slot => fits 1 slot
  | .schedList _ start => fits 1 start
  | .logWindow _ first last => fits 4 first && fits 4 last
  | .sceneStore _ scene items => fits 1 scene && decide (items.length ≤ 10) && items.all SceneItem.wf
  | .groupSetGroup _ group _ => fits 1 group
  | .groupSetChannel _ currents quietCap => currents.length == 8 && currents.all fitsSigned && fits 2 quietCap
  | .causeLevel _ cause level => fits 1 cause && fits 1 level
  | .causeLevelSettings _ mask threshold => fits 1 mask && fits 1 threshold
  | .captureArm _ args => args.wf
  | .captureRead _ desc index => fits 1 desc && fits 1 index
  | .captureFree _ desc => fits 1 desc
  | .heatTableWrite _ rows => rows.length == 4 && rows.all LevelRow.wf
  | .demandDeclare _ args => args.wf
  | .demandRelease _ entry => fits 1 entry
  | .linkStats _ clear => fits 1 clear
  | .batterySet _ params => params.wf
  | .chargeSet _ charge => fits 4 charge
  | .ocvSet _ voltages => voltages.length == 6 && voltages.all (fits 2)
  | .sensorTrim _ input offset => fits 1 input && fitsSigned offset
  | _ => true

end Sys2Proof
end

