-- ==== Sys2Proof/Safety.lean ====
section
/-! DEFINITION. What the statements speak of: a request between its dispatch and its reply, what each block's change leaves and hands
on, and the invariants of the blocks. -/

namespace Sys2Proof.Machine

/-! ### Requests (R189, R193) -/

/-- The state in which the owner of the request with this KIND of reply and TAG takes it: a slot is reserved (R189). -/
def dispatched (kind tag : Byte) (s : State) : State :=
  { s with free := s.free + 1, lnk := { s.lnk with reserved := some (kind, tag) } }

/-- The close of a request: the reply in its slot, and an idle transmitter sends the reply of the slot filled earlier (R189,
R193). -/
def closed (u : State) : State := { u with free := u.free + 1, lnk := commitReply u.lnk }

/-- The reply that an owner's answer makes, in the reserved slot (R189 step 4). -/
def answered (kind tag : Byte) (status : Nat) (body : List Byte) (u : State) : State :=
  { u with lnk := { u.lnk with answer := some ⟨kind, tag, status, body⟩ } }

/-- What follows an owner's answer: the messages `ms` it handed on taken until none is left, then the close. The two messages
already taken are the owner's event and its answer (log 6). -/
def finish (ms : List Msg) (u : State) : State := closed (run (eventFuel - 2) ms u)

/-- One more reply in the slots than before: its KIND, TAG, status and body (R189, R190). -/
def Replied (s t : State) (kind tag : Byte) (status : Nat) (body : List Byte) : Prop :=
  t.lnk.slots = s.lnk.slots ++ [⟨kind, tag, status, body⟩]

/-- A slot is left for a reply (R189 step 2). -/
abbrev HasSlot (s : State) : Prop := s.lnk.slots.length < 2

/-- The tag and the content of a request command; none for a command that is no request of the catalogue (10.4). -/
def requestOf : Instr → Option (Byte × Request)
  | .status tag => some (tag, .status)
  | .readings tag => some (tag, .readings)
  | .heatStart tag => some (tag, .heatStart)
  | .heatStop tag => some (tag, .heatStop)
  | .heatSet tag args => some (tag, .heatSet args)
  | .coolSet tag args => some (tag, .coolSet args)
  | .lightSet tag args => some (tag, .lightSet args)
  | .sceneRecall tag scene => some (tag, .sceneRecall scene)
  | .lightSave tag => some (tag, .lightSave)
  | .lightRestore tag => some (tag, .lightRestore)
  | .activity tag code => some (tag, .activity code)
  | .restPlan tag wake => some (tag, .restPlan wake)
  | .alertAck tag kind => some (tag, .alertAck kind)
  | .alertAckSettings tag channel => some (tag, .alertChannel channel)
  | .reportGate tag gate clear => some (tag, .reportGate gate clear)
  | .clockSet tag time => some (tag, .clockSet time)
  | .clockSetSettings tag settings => some (tag, .restSettings settings)
  | .schedAdd tag args => some (tag, .schedAdd args)
  | .schedRemove tag slot => some (tag, .schedRemove slot)
  | .schedList tag start => some (tag, .schedList start)
  | .logWindow tag first last => some (tag, .logWindow first last)
  | .logRead tag => some (tag, .logRead)
  | .sceneStore tag scene items => some (tag, .sceneStore scene items)
  | .groupSetGroup tag group members => some (tag, .groupSet group members)
  | .groupSetChannel tag currents quietCap => some (tag, .channelSet currents quietCap)
  | .causeLevel tag cause level => some (tag, .causeLevel cause level)
  | .causeLevelSettings tag mask threshold => some (tag, .levelMask mask threshold)
  | .captureArm tag args => some (tag, .captureArm args)
  | .captureRead tag desc index => some (tag, .captureRead desc index)
  | .captureFree tag desc => some (tag, .captureFree desc)
  | .heatTableRead tag => some (tag, .tableRead)
  | .heatTableWrite tag rows => some (tag, .tableWrite rows)
  | .demandDeclare tag args => some (tag, .demandDeclare args)
  | .demandRelease tag entry => some (tag, .demandRelease entry)
  | .budgetRead tag => some (tag, .budgetRead)
  | .linkStats tag clear => some (tag, .linkStats clear)
  | .settingsSave tag => some (tag, .settingsSave)
  | .heatClearLockout tag => some (tag, .clearLockout)
  | .batterySet tag params => some (tag, .batterySet params)
  | .chargeSet tag charge => some (tag, .chargeSet charge)
  | .ocvSet tag voltages => some (tag, .ocvSet voltages)
  | .sensorTrim tag input offset => some (tag, .sensorTrim input offset)
  | .defaults tag => some (tag, .defaults)
  | .restart tag => some (tag, .restart)
  | _ => none

/-- The payload that carries a request, field by field in the order of its rule (R191, 10.4). -/
def payloadOf : Request → List Byte
  | .status | .readings | .heatStart | .heatStop | .lightSave | .lightRestore | .logRead | .budgetRead | .settingsSave
  | .clearLockout | .defaults | .restart => []
  | .heatSet x =>
    s16 x.setpoint ++ s16 x.deadband ++ u8 x.maxLevel ++ u8 x.quietCap ++ u8 x.frostGuard ++ s16 x.frostLimit ++
      s16 x.flamePresent ++ u16 x.vHeat ++ u32 x.startCharge ++ u8 x.mLo ++ u8 x.mHi
  | .coolSet x =>
    u8 x.enable ++ s16 x.setpoint ++ s16 x.band ++ u8 x.hostMax ++ s16 x.offset ++ u32 x.qRun ++ u32 x.qPause ++
      x.currents.flatMap s16
  | .lightSet x => u8 x.kind ++ u8 x.number ++ u16 x.target ++ u16 x.fade ++ u8 x.hold
  | .sceneRecall n | .activity n | .schedRemove n | .schedList n | .captureFree n | .demandRelease n | .linkStats n => u8 n
  | .restPlan n | .chargeSet n => u32 n
  | .alertAck k => u8 0 ++ u8 k
  | .alertChannel n => u8 1 ++ u8 n
  | .reportGate g c => u8 g ++ u8 c
  | .clockSet t => u8 0 ++ u32 t
  | .restSettings x =>
    u8 1 ++ u32 x.splitFirst ++ u32 x.splitSecond ++ u32 x.breakMin ++ u32 x.driveLimit ++ u32 x.lead ++ u32 x.reducedMin ++
      u32 x.regularMin ++ u32 x.quietDelay ++ u32 x.hIdle
  | .schedAdd x => u32 x.due ++ u8 x.action ++ optField s16 x.param ++ optField u32 x.period
  | .logWindow f l => u32 f ++ u32 l
  | .sceneStore n is => u8 n ++ u8 is.length ++ is.flatMap fun i => u8 i.channel ++ u16 i.level ++ u16 i.fade
  | .groupSet g m => u8 0 ++ u8 g ++ [m]
  | .channelSet c q => u8 1 ++ c.flatMap s16 ++ u16 q
  | .causeLevel c v => u8 0 ++ u8 c ++ u8 v
  | .levelMask m t => u8 1 ++ u8 m ++ u8 t
  | .captureArm x => u8 x.desc ++ u8 x.cause ++ u8 x.quantities.length ++ x.quantities.flatMap u8 ++ u8 x.count ++ u8 x.start
  | .captureRead d i => u8 d ++ u8 i
  | .tableRead => u8 0
  | .tableWrite rows => u8 1 ++ rows.flatMap fun r => u16 r.pump ++ u16 r.burner ++ u16 r.air ++ s16 r.current
  | .demandDeclare x =>
    u8 x.entry ++ u8 x.cls ++ u8 x.currents.length ++ x.currents.flatMap s16 ++ u8 x.requested ++ u16 x.duty
  | .batterySet p =>
    u32 p.cNom ++ u16 p.e ++ u16 p.vFull ++ s16 p.iTail ++ u32 p.rBase ++ u32 p.rCold ++ u16 p.vCut ++ u16 p.vHard
  | .ocvSet l => l.flatMap u16
  | .sensorTrim n d => u8 n ++ s16 d

/-! ### The part mode (R19 to R21) -/

/-- The conditions of DOZE (R19), with CHG's own part `c`. -/
abbrev DozeHolds (c : Chg) (s : State) : Prop :=
  (s.htr.seq = .off ∨ s.htr.seq = .wait ∨ s.htr.seq = .lockout) ∧ s.clr.state ≠ .running ∧
    (∀ x ∈ s.lgt.channels, x.fine = 0 ∧ x.steps = 0 ∧ x.flash = none) ∧ (∀ r ∈ s.alr.records, r.state ≠ .sounding) ∧
    s.rpq.queue = [] ∧ c.ign = false

/-- The conditions of HIBERNATE (R21). -/
abbrev HibernateHolds (c : Chg) (s : State) : Prop :=
  c.floor = .cutoff ∧ (s.htr.seq = .off ∨ s.htr.seq = .lockout) ∧ s.lnk.service = false

/-- DOZE ended (R20). -/
def awake (c : Chg) : Chg := if c.mode = .doze then { c with mode := .active, doze := none } else c

/-- CHG after a review of the part mode, and what it hands on (R19 to R21): HIBERNATE is left when the floor state leaves CUTOFF or
SERVICE goes high, and entered, with a State write, when its conditions hold; DOZE ends when a condition of its own fails; in
ACTIVE the doze timer runs, from 30 s, while the conditions of DOZE hold. -/
def modeReviewed (c : Chg) (s : State) : Chg × List Msg :=
  let timer (running : Option Nat) : Option Nat := if DozeHolds c s then some (running.getD 30) else none
  match c.mode with
  | .hibernate =>
    if c.floor = .cutoff ∧ s.lnk.service = false then (c, []) else ({ c with mode := .active, doze := timer none }, [])
  | .doze =>
    if HibernateHolds c s then ({ c with mode := .hibernate, doze := none }, [.sto .writeState])
    else if DozeHolds c s then (c, [])
    else ({ c with mode := .active, doze := none }, [])
  | .active =>
    if HibernateHolds c s then ({ c with mode := .hibernate, doze := none }, [.sto .writeState])
    else ({ c with doze := timer c.doze }, [])

/-- What a change to the floor state `f` hands on (R17): DMD, the report (BATTERY_CUTOFF 1, BATTERY_CRITICAL 2, FLOOR_CLEAR 32) with
the state, V and I, open values before the first measurement (log 21), and the BATTERY_CRITICAL condition (alert kind 0). -/
def floorFollows (free : Nat) (c : Chg) (f : Floor) : List Msg :=
  let cause := match f with
    | .cutoff => 1
    | .critical => 2
    | .clear => 32
  [.dmd (.floor f), post cause (u8 f.code ++ u16 (shownVolts free c).toNat ++ s16 (shownCurrent free c)),
    .alr (.condition 0 (decide (f ≠ .clear)))]

/-! ### A budget pass (R31, R34 to R43) -/

/-- The horizon (R31): the time left to W, or H_idle without a rest record, within 600..43,200 s. -/
def horizonNow (d : Dmd) (s : State) : Nat :=
  let raw : Int := match d.wake with
    | some w => (w : Int) - s.rcl.cabTime
    | none => s.rcl.settings.hIdle
  if raw < 600 then 600 else if 43200 < raw then 43200 else raw.toNat

/-- The Needs of the class-0 entries at their requested levels (R30, R37). -/
def essentialSum (order : List (Nat × Entry)) (h : Nat) : Nat :=
  ((order.filter fun p => p.2.cls == 0).map fun p => need p.2 h p.2.requested).sum

/-- The levels a pass grants in budget order, and S (R35 to R39). -/
def passGrants (d : Dmd) (h b br : Nat) : List (Nat × Nat) × Nat :=
  let order := budgetOrder d
  let essential := order.filter fun p => p.2.cls == 0
  let others := order.filter fun p => p.2.cls != 0
  let requests := essential.map fun p => (p.1, p.2.requested)
  if d.floor = .cutoff then (order.map fun p => (p.1, 0), 0)
  else if d.ign = true then (order.map fun p => (p.1, p.2.requested), 0)
  else if d.floor = .critical then (requests ++ others.map fun p => (p.1, 0), 0)
  else (requests ++ (walk h b br false 0 others).1, (walk h b br false 0 others).2)

/-- DMD after a budget pass with the trigger `t` on the available charge `a`, and what the pass hands on (R33 to R43): every
entry takes its grant, the budget state follows, the pass is recorded, changed grants go to their owners, those of the fixed
entries all at a change of the budget state, and BUDGET_TRIMMED (cause 8), BUDGET_RESTORED (9) and HOST_LOAD_GRANT (33) are
posted. Deliveries and HOST_LOAD_GRANT posts go in ascending entry number, which R42 and R43 leave open: the model's choice
(log 48). -/
def passed (t : Trigger) (a : Nat) (d : Dmd) (s : State) : Dmd × List Msg :=
  let order := budgetOrder d
  let others := order.filter fun p => p.2.cls != 0
  let present := presentEntries d
  let h := horizonNow d s
  let eNeed := essentialSum order h
  let b := a - eNeed
  let br := b * 95 / 100
  let grants := passGrants d h b br
  let level (n : Nat) : Nat := (grants.1.lookup n).getD 0
  let trimmed := (others.find? fun p => decide (level p.1 < p.2.requested)).map Prod.fst
  let state : Budget :=
    if d.floor = .cutoff then .cutoff else if d.floor = .critical then .critical
    else if d.ign = true ∨ trimmed = none then .normal else .trimmed
  let delivered (n : Nat) (e : Entry) : Bool := e.granted != some (level n)
  ({ d with
      entries := d.entries.zipIdx.map fun p => p.1.map fun e => { e with granted := some (level p.2) }
      budget := state
      timer := some (d.timer.getD 60)
      lastPass := some
        { time := s.rcl.cabTime, trigger := t
          way := if d.floor = .cutoff then .cutoff else if d.ign = true then .ignition else .walk
          a := a, floor := d.floor, ign := d.ign, h := h, eNeed := eNeed, b := b, br := br, sum := grants.2
          firstTrimmed := trimmed
          entries := present.map fun p => ⟨p.1, p.2.requested, level p.1, need p.2 h (level p.1)⟩
          state := state } },
    (present.filter fun p => decide (p.1 < 4) && (d.budget != state || delivered p.1 p.2)).map (fun p =>
        match p.1 with
        | 0 => .lgt (.grant 0 (level 0) state)
        | 1 => .htr (.grant (level 1) state)
        | 2 => .clr (.grant (level 2) state)
        | _ => .lgt (.grant 3 (level p.1) state)) ++
      (if d.budget = .normal ∧ state = .trimmed then [post 8 (u32 a ++ u32 b ++ u32 grants.2 ++ u8 (trimmed.getD 0))] else []) ++
      (if d.budget = .trimmed ∧ state = .normal then [post 9 (u32 a ++ u32 b)] else []) ++
      (present.filter fun p => decide (4 ≤ p.1) && delivered p.1 p.2).map fun p =>
        post 33 (u8 p.1 ++ u8 p.2.requested ++ u8 (level p.1) ++ u8 state.code))

/-! ### The heater sequencer's changes of state (R52, R53, R77) -/

/-- The state number that R191 gives each sequencer state, in the order of R52. -/
def heaterNumber : HeaterState → Nat
  | .off => 0 | .precheck => 1 | .preheat => 2 | .ignite => 3 | .ramp => 4 | .run => 5 | .purge => 6 | .wait => 7
  | .lockout => 8

/-- The demand HTR posts in a state (R77): level, duty 1000, class 0 under a held frost flag with the guard enabled and 1
otherwise, and the start charge in PRECHECK, PREHEAT and IGNITE. -/
def heaterPosts (h : Htr) : Msg :=
  .dmd (.update 1
    { requested :=
        match h.seq with
        | .precheck | .preheat | .ignite => 1
        | .ramp | .run => if h.frostLimited then 1 else h.profile.maxLevel
        | .off | .wait | .lockout | .purge => 0
      currents := h.table.map LevelRow.current
      duty := 1000
      cls := some (if h.frostFlag = true ∧ h.profile.frostGuard = true then 0 else 1)
      startCharge := some
        (match h.seq with
        | .precheck | .preheat | .ignite => some h.profile.startCharge
        | _ => none) })

/-- What follows a change of state from `h` to `h'`, in the order of R53, with the code of the reason (0 HOST, 1 SCHEDULE, 2
FROST, 3 THERMOSTAT, 4 FAULT, 5 NO_BUDGET, 6 NONE): an adopted table is posted (cause 31), CHG is told, the demand is posted,
changed retained items go to STO, LOCKOUT is posted (cause 3) and its alert (kind 1) moves, and HEATER_STATE (cause 7) is
posted. The places of the posts of causes 31 and 3 are the model's choice (log 53). -/
def heaterChanges (h h' : Htr) (reason : Nat) : List Msg :=
  (if h.pendingTable.isSome = true ∧ h'.pendingTable.isNone = true then [post 31 []] else []) ++
    [.chg .review, heaterPosts h'] ++
    (if h.keep = h'.keep then [] else [.sto (.heater h'.keep)]) ++
    (if h'.seq = .lockout ∧ h.seq ≠ .lockout then
      [post 3 (u8 (faultCode h'.keep.fault) ++ u8 h'.keep.failures ++ u8 h'.keep.overheats), .alr (.condition 1 true)]
    else []) ++
    (if h.seq = .lockout ∧ h'.seq ≠ .lockout then [.alr (.condition 1 false)] else []) ++
    [post 7 (u8 (heaterNumber h.seq) ++ u8 (heaterNumber h'.seq) ++ u8 (faultCode h'.keep.fault) ++ u8 reason)]

/-- What follows a change of state from `h` to `h'`: an entry to OFF with the frost flag held also makes a frost start (R79)
once the start-up check is done, taken after everything else (log 12). -/
def heaterFollows (h h' : Htr) (reason : Nat) : List Msg :=
  heaterChanges h h' reason ++
    if h'.seq = .off ∧ h'.frostFlag = true ∧ h'.startUpDue = false then [.htr .frostStart] else []

/-- A fault code recorded: it replaces the one held unless the lockout flag is set (R70). -/
def withFault (f : HeaterFault) (k : Retained) : Retained := { k with fault := if k.lockout then k.fault else some f }

/-- HTR in OFF (R52, R53, R76, R79): everything off, a pending table adopted, no frost start limit. -/
def heaterOff (k : Retained) (h : Htr) : Htr :=
  { h with
    seq := .off, level := 0, timer := none, keep := k, frostLimited := false, table := h.pendingTable.getD h.table
    pendingTable := none, out := ⟨false, 0, 0, 0⟩ }

/-- HTR at the start of a purge (R52, R66): both fans at full duty, the purge time at 0. -/
def heaterPurging (dest : PurgeDest) (kind : PurgeKind) (k : Retained) (h : Htr) : Htr :=
  { h with
    seq := .purge, level := 0, timer := none, keep := k, purge := ⟨dest, kind, 0, false⟩, frostRetry := none
    out := ⟨false, 0, 1000, 1000⟩ }

/-- HTR with its level cap applied in RUN (R61, R62): the level falls to the cap, or is min(2, cap) with CABIN invalid, and the
outputs are those of the level. Other states and a cap of 0 leave it as it is. -/
def heaterCapped (cap : Nat) (h : Htr) : Htr :=
  let level := if h.cabin = none then min 2 cap else min h.level cap
  let row := h.table.getD (level - 1) ⟨0, 0, 0, 0⟩
  if h.seq = .run ∧ 1 ≤ cap then { h with level := level, out := ⟨false, row.pump, row.burner, row.air⟩ } else h

/-- The level cap of R61: the effective max level, the grant, and the quiet cap while the quiet flag is set. -/
def capOf (h : Htr) (quiet : Bool) : Nat :=
  let c := min (if h.frostLimited then 1 else h.profile.maxLevel) (h.grant.getD 0)
  if quiet then min c h.profile.quietCap else c

/-- HTR at the end of a purge, in the destination (R52, R53, R58, R66, R76, R79). -/
def heaterEnds (h : Htr) : Htr :=
  match h.purge.dest with
  | .off => heaterOff h.keep h
  | .preheat => { h with seq := .preheat, level := 0, timer := some 30, frostRetry := none, out := ⟨true, 0, 200, 0⟩ }
  | .wait =>
    { h with
      seq := .wait, level := 0, timer := none, frostRetry := none, table := h.pendingTable.getD h.table
      pendingTable := none, out := ⟨false, 0, 0, 0⟩ }
  | .lockout =>
    { h with seq := .lockout, level := 0, timer := none, frostRetry := none, frostLimited := false, out := ⟨false, 0, 0, 0⟩ }

/-- HTR at the start of a start (R54, R57, R70). -/
def heaterStarted (h : Htr) : Htr :=
  { h with
    seq := .precheck, level := 0, timer := some 5, attempts := 0, restartUsed := false, sessionRun := 0, flameLow := 0
    idle := 0, keep := { h.keep with fault := if h.keep.lockout then h.keep.fault else none }, frostRetry := none
    out := ⟨false, 0, 0, 0⟩ }

/-- The first check of R57 that fails, by the readings HTR holds. -/
def startFault (h : Htr) : Option HeaterFault :=
  if h.flame.all fun f => decide (600 ≤ f) then some .f1
  else if h.overheat = none then some .f2
  else if h.volts.any fun v => decide (v < h.profile.vHeat) then some .f6
  else none

/-- HTR with the readings of a measurement and the frost test made (R25, R78; log 15), and what the test hands on: a CABIN
below the frost limit holds the flag and one 2.0 K above it releases it, with FROST_GUARD (cause 30) and then the demand (log
53); a flag that becomes held in OFF makes a frost start (R79). -/
def heaterReads (r : HeaterReadings) (h0 : Htr) : Htr × List Msg :=
  let h := { h0 with flame := r.flame, overheat := r.overheat, cabin := r.cabin, volts := some r.volts, frostDeferred := false }
  let limit := h.profile.frostLimit
  let held := { h with frostFlag := true }
  let freed := { h with frostFlag := false, frostLimited := false, frostRetry := none }
  if h.profile.frostGuard = true ∧ h.frostFlag = false ∧ (r.cabin.any fun c => decide (c < limit)) = true then
    (held, [post 30 (u8 1 ++ tempField r.cabin), heaterPosts held] ++
      if h.seq = .off ∧ h.startUpDue = false then [.htr .frostStart] else [])
  else if h.profile.frostGuard = true ∧ h.frostFlag = true ∧ (r.cabin.any fun c => decide (limit + 20 ≤ c)) = true then
    (freed, [post 30 (u8 0 ++ tempField r.cabin), heaterPosts freed])
  else (h, [])

/-- No fault of R71 and R72 at a measurement in IGNITE, RAMP or RUN, with the FLAME reading `f`. -/
def BurnsWell (vHard : Nat) (f : Int) (h : Htr) : Prop :=
  h.flame = some f ∧ (∃ o, h.overheat = some o ∧ o ≤ 1200) ∧ ∃ v, h.volts = some v ∧ vHard ≤ v

/-- HTR after the end of a control period (R62, R63): the net count goes to SC, flips the bias when it overshoots below 0, and at
M_hi moves the level one step in the bias direction within 1..cap. -/
def periodClosed (h : Htr) (quiet : Bool) : Htr :=
  let net : Int := (h.cold : Int) - h.warm
  let n := if h.bias = .raise then net else -net
  let flip := n < 0 ∧ h.sc < n.natAbs
  let sc := if 0 ≤ n then h.sc + n.natAbs else if flip then n.natAbs - h.sc else h.sc - n.natAbs
  let bias : Bias := if flip then (if h.bias = .raise then .lower else .raise) else h.bias
  let level :=
    match bias with
    | .raise => if h.level + 1 ≤ capOf h quiet then h.level + 1 else h.level
    | .lower => if 2 ≤ h.level then h.level - 1 else h.level
  let row := h.table.getD (level - 1) ⟨0, 0, 0, 0⟩
  let counted := { h with samples := 0, cold := 0, warm := 0, sc := sc, bias := bias }
  if h.profile.mHi ≤ sc then
    { counted with sc := h.profile.mLo, level := level, out := ⟨false, row.pump, row.burner, row.air⟩ }
  else counted

/-- A flame-out (R65, R74): HEATER_FLAME_OUT (cause 5) with the state and the FLAME reading; the first purges bound for PREHEAT, one
after the restart fails with F4. -/
def flamedOut (h : Htr) : Htr × List Msg :=
  let k := { withFault .f4 h.keep with
    failures := min 3 (h.keep.failures + 1), lockout := h.keep.lockout || decide (3 ≤ h.keep.failures + 1) }
  let failed := heaterPurging (if k.lockout then .lockout else .off) .normal k h
  let again := { heaterPurging .preheat .normal h.keep h with restartUsed := true, attempts := 0 }
  let posted := post 5 (u8 (heaterNumber h.seq) ++ tempField h.flame)
  if h.restartUsed then (failed, posted :: heaterFollows h failed 4) else (again, posted :: heaterFollows h again 6)

/-! ### The cooler controller (R84, R87, R88, R92 to R97, R100) -/

/-- The state number that R191 gives each cooler state, in the order of R84. -/
def coolerNumber : CoolerState → Nat
  | .disabled => 0 | .idle => 1 | .waitOff => 2 | .running => 3 | .pause => 4 | .backoff => 5 | .shed => 6 | .faulted => 7

/-- The speed the settings wish for (R87, R97): the host max speed, at most 1 while the quiet flag or blind mode is set. -/
def coolerWish (c : Clr) (quiet : Bool) : Nat :=
  if quiet = true ∨ c.blind = true then min c.settings.hostMax 1 else c.settings.hostMax

/-- The demand of R95: nothing requested with cooling disabled or in FAULTED. -/
def coolerWants (c : Clr) (quiet : Bool) : Demand :=
  ⟨if c.settings.enable = false ∨ c.state = .faulted then 0 else coolerWish c quiet, c.settings.currents, c.duty, none, none⟩

/-- Whether the call is active (R85, R97): in blind mode a run lasts 600 s and the blind off timer holds the next back. -/
def coolerCalls (c : Clr) : Bool :=
  if c.blind then c.blindOff.isNone && (c.state != .running || decide (c.runTime < 600)) else c.call

/-- The compressor stopped (R84, R97): the min-off timer starts at 180 s, in blind mode the blind off timer at 600 s. -/
def coolerStopped (c : Clr) : Clr :=
  { c with
    compEn := false, speed := 0, minOn := none, minOff := some 180, blindOff := if c.blind then some 600 else c.blindOff }

/-- Where a cooler at rest settles (R88): the first of DISABLED, SHED on a grant of 0, IDLE with no call, WAIT_OFF while the
min-off timer runs or no grant has come, and RUNNING, started with the min-on timer at 60 s. -/
def coolerSettled (c : Clr) (quiet : Bool) : Clr :=
  if c.settings.enable = false then { c with state := .disabled }
  else if c.grant.any fun g => g.1 == 0 then { c with state := .shed }
  else if coolerCalls c = false then { c with state := .idle }
  else if c.minOff.isSome = true ∨ c.grant.isNone = true then { c with state := .waitOff }
  else
    { c with
      state := .running, compEn := true, speed := min (coolerWish c quiet) ((c.grant.map Prod.fst).getD 0), runTime := 0
      minOn := some 60, minOff := none }

/-- A stall (R92): counted up to 5, the fifth FAULTED, the others BACKOFF for 60 s. A run of 300 s had cleared the count (R93). -/
def coolerStalled (c : Clr) : Clr :=
  let n := if c.state = .running ∧ 300 ≤ c.runTime then 1 else min 5 (c.stalls + 1)
  if n = 5 then { coolerStopped c with stalls := n, state := .faulted }
  else { coolerStopped c with stalls := n, state := .backoff, backoff := some 60 }

/-- CLR after an event that ends in `c'`: the demand it has posted, and on an entry to DISABLED no warm time or condition (R95,
R96). -/
def coolerKept (c c' : Clr) (quiet : Bool) : Clr :=
  { c' with
    posted := coolerWants c' quiet
    warmTime := if c'.state = .disabled ∧ c.state ≠ .disabled then 0 else c'.warmTime
    warm := if c'.state = .disabled ∧ c.state ≠ .disabled then false else c'.warm }

/-- COOLER_STATE (cause 12) with the code of the reason (R100: 0 THERMOSTAT, 1 GRANT, 2 CUTOFF, 3 QUIET, 4 STALL, 5 TIMER,
6 BLIND, 7 HOST, 8 SCHEDULE) and the speed COMP_SPD is driven at (log 55). -/
def coolerReport (c c' : Clr) (reason : Nat) : Msg :=
  post 12 (u8 (coolerNumber c.state) ++ u8 (coolerNumber c'.state) ++ u8 c'.speed ++ u8 c'.stalls ++ u8 reason)

/-- What an event that takes CLR from `c` to `c'` hands on, in the order of R100's table (stated there at a stop, and the
model's choice at every other change, log 57): CHG when RUNNING begins or ends, a changed demand (R95), the warm condition
(alert kind 3) cleared by an entry to DISABLED (R96), the reports of the change, COOLER_FAULT (cause 11) at an entry to FAULTED
(R93), and COOLER_WARM (cause 10) with the cleared condition. An invalid CABINET is sent as -32,768 (log 46). -/
def coolerHands (s : State) (c c' : Clr) (reports : List Msg) : List Msg :=
  let warmEnds := c'.state = .disabled ∧ c.state ≠ .disabled ∧ c'.warm = true
  (if (c.state = .running) ↔ (c'.state = .running) then [] else [.chg .review]) ++
    (if coolerWants c' s.rcl.quiet = c'.posted then [] else [.dmd (.update 2 (coolerWants c' s.rcl.quiet))]) ++
    (if warmEnds then [.alr (.condition 3 false)] else []) ++ reports ++
    (if c.state ≠ .faulted ∧ c'.state = .faulted then [post 11 (u8 c'.stalls ++ tempField (s.chg.temp 2))] else []) ++
    (if warmEnds then [post 10 (u8 0 ++ tempField (s.chg.temp 2))] else [])

/-- What a change of state hands on with its one report. -/
def coolerFollows (s : State) (c c' : Clr) (reason : Nat) : List Msg :=
  coolerHands s c c' (if c.state = c'.state then [] else [coolerReport c c' reason])

/-- CLR at the end of an event that takes it from `c` to `c'`, and what it hands on. A start that finds COMP_FAULT asserted stalls
at once (R92). -/
def coolerDone (s : State) (c c' : Clr) (reports : List Msg) : Clr × List Msg :=
  let q := s.rcl.quiet
  let kept := coolerKept c c' q
  if c.state ≠ .running ∧ c'.state = .running ∧ c'.faultPin = true then
    (coolerKept kept (coolerStalled kept) q, coolerHands s c c' reports ++ coolerFollows s kept (coolerStalled kept) 4)
  else (kept, coolerHands s c c' reports)

/-- CLR at the end of an event with the one report of a change of state. -/
def coolerChanged (s : State) (c c' : Clr) (reason : Nat) : Clr × List Msg :=
  coolerDone s c c' (if c.state = c'.state then [] else [coolerReport c c' reason])

/-- The state after an event at CLR from `s.clr` to `c'`, with everything that brings about. -/
def coolerNext (s : State) (c' : Clr) (reason : Nat) : State :=
  settle (coolerChanged s s.clr c' reason).2 { s with clr := (coolerChanged s s.clr c' reason).1 }

/-- CLR at the close of an event, and the code of the reason for its change of state (R88, R89, R91, R93; log 14 for the order and
the reason QUIET). A run of 300 s clears the stall count; a grant of 0 stops the run once the min-on timer has run out, then a
quiet run of Q_run pauses, then the other stop conditions stop it once the min-on timer has run out; a cooler at rest settles. -/
def coolerClosed (c : Clr) (quiet : Bool) (reason : Nat) : Clr × Nat :=
  let run := { c with stalls := if 300 ≤ c.runTime then 0 else c.stalls }
  let shed := c.grant.any (fun g => g.1 == 0) = true
  match c.state with
  | .running =>
    if shed ∧ c.minOn = none then (coolerSettled { coolerStopped run with state := .idle } quiet, reason)
    else if quiet = true ∧ c.settings.enable = true ∧ c.settings.qRun ≤ c.runTime then
      ({ coolerStopped run with state := .pause, pause := some (max c.settings.qPause 180) }, 3)
    else if (c.settings.enable = false ∨ coolerCalls c = false) ∧ c.minOn = none then
      (coolerSettled { coolerStopped run with state := .idle } quiet, reason)
    else (run, reason)
  | .idle | .waitOff | .shed => (coolerSettled c quiet, reason)
  | _ => (c, reason)

/-- The state after an event at CLR that leaves `c'` before its close. -/
def coolerEnds (s : State) (c' : Clr) (reason : Nat) : State :=
  let e := coolerClosed c' s.rcl.quiet reason
  coolerNext s e.1 e.2

/-- In RUNNING the compressor is driven at the speed of R87, at 1 while that is 0. -/
def coolerDriven (c : Clr) (quiet : Bool) : Clr :=
  if c.state = .running then { c with speed := max 1 (min (coolerWish c quiet) ((c.grant.map Prod.fst).getD 0)) } else c

/-- CLR with new settings, and what it hands on (R98, R99): FAULTED is left with no stall counted, PAUSE and BACKOFF when cooling is
disabled, DISABLED when it is enabled, and the event closes. -/
def coolerSet (s : State) (p : CoolSettings) (reason : Nat) : Clr × List Msg :=
  let c := s.clr
  let acted : Clr := match c.state with
    | .disabled => { c with settings := p, state := if p.enable then .idle else .disabled }
    | .faulted => { c with settings := p, state := .idle, stalls := 0 }
    | .pause | .backoff =>
      if p.enable then { c with settings := p } else { c with settings := p, state := .idle, pause := none, backoff := none }
    | _ => { c with settings := p }
  let e := coolerClosed (coolerDriven acted s.rcl.quiet) s.rcl.quiet reason
  coolerChanged s c e.1 e.2

/-! ### The light engine (R105, R107, R108, R123) -/

/-- What a channel is driven at (R105, R118): the square law of its level under its cap, or of its flash level in an on phase.
CUTOFF caps the safety channels 4 and 5 at 0; the others follow the CAB_LIGHTS grant and, without a flash, the quiet light
limit. -/
def lightOutput (l : Lgt) (quiet : Bool) (k : Nat) (c : Channel) : Nat :=
  let granted :=
    match l.cabGrant.getD 0 with
    | 0 => 0
    | 1 => 300
    | 2 => 600
    | _ => 1000
  let cap := if k = 4 ∨ k = 5 then (if l.safetyBudget = .cutoff then 0 else 1000) else granted
  let level := c.fine / 1000
  match c.flash with
  | some f => if f.onPhase then f.level * f.level / 1000 * cap / 1000 else 0
  | none => level * level / 1000 * (if quiet = true ∧ k ≠ 4 ∧ k ≠ 5 then min cap l.quietLight else cap) / 1000

/-- The demand of the channels `ks` at their standing targets (R107): the base current, the level currents as parts of it in
permille and at least 1 cA each, and the top level requested when some standing target is not 0. -/
def lightsWant (l : Lgt) (ks parts : List Nat) : Demand :=
  let base := (ks.map fun k =>
    (l.fullCurrents.getD k 0).toNat * (standingTarget l k * standingTarget l k / 1000) / 1000).sum
  ⟨if ks.any fun k => decide (0 < standingTarget l k) then parts.length else 0,
    parts.map (fun p => ((max 1 (base * p / 1000) : Nat) : Int)), 1000, none, none⟩

/-- CAB_LIGHTS (R107). -/
def cabWants (l : Lgt) : Demand := lightsWant l [0, 1, 2, 3, 6, 7] [300, 600, 1000]

/-- SAFETY_LIGHTS (R107). -/
def safetyWants (l : Lgt) : Demand := lightsWant l [4, 5] [1000]

/-- LGT after an event: its outputs driven and its demands posted (R105, R108). -/
def lightsKept (l : Lgt) (quiet : Bool) : Lgt :=
  { l with
    channels := l.channels.zipIdx.map fun p => { p.1 with output := lightOutput l quiet p.2 p.1 }
    postedCab := cabWants l
    postedSafety := safetyWants l }

/-- Every channel at level 0 with no fade and no flash (R19, R123). -/
def allDark (l : Lgt) : Bool := l.channels.all fun c => decide (c.fine = 0 ∧ c.steps = 0 ∧ c.flash = none)

/-- What an event that takes LGT from `before` to `after` hands on (R108, R123): demands that differ from those posted, and a
change of the dark condition to CHG. CAB_LIGHTS before SAFETY_LIGHTS (log 42), and the dark condition last (log 51), are the
model's choice. -/
def lightsFollow (before after : Lgt) : List Msg :=
  (if cabWants after = after.postedCab then [] else [.dmd (.update 3 (cabWants after))]) ++
    (if safetyWants after = after.postedSafety then [] else [.dmd (.update 0 (safetyWants after))]) ++
    (if allDark before = allDark after then [] else [.chg .review])

/-- The state after an event at LGT that first hands on `ms`, from `s.lgt` to `l`, with everything that brings about. That `ms`
goes first is the model's choice (log 51). -/
def lightsNext (s : State) (l : Lgt) (ms : List Msg) : State :=
  settle (ms ++ lightsFollow s.lgt l) { s with lgt := lightsKept l s.rcl.quiet }

/-! ### The rest clock (R129, R132, R133, R135, R136, R139) -/

/-- What a warning of RCL hands on (R132): its alert condition (kind 4 BREAK_DUE, 2 BREAK_OVERDUE) and its cause (13, 14) with
raised or cleared and the accumulator. -/
def breakWarning (overdue raised : Bool) (acc : Nat) : List Msg :=
  [.alr (.condition (if overdue then 2 else 4) raised), post (if overdue then 14 else 13) (flagByte raised ++ u32 acc)]

/-- RCL after a qualification (R129, R130): the accumulator is 0 and no warning is raised. -/
def qualified (m : Marker) (r : Rcl) : Rcl :=
  { r with
    breakRun := r.breakRun.map fun b => { b with marker := m }
    split := false, acc := 0, due := false, overdue := false }

/-- What a qualification hands on (R132): the raised warnings are cleared, with the accumulator before. -/
def qualifiedMsgs (r : Rcl) : List Msg :=
  (if r.due then breakWarning false false r.acc else []) ++ (if r.overdue then breakWarning true false r.acc else [])

/-- RCL after a test of the warnings (R132). -/
def warned (r : Rcl) : Rcl :=
  { r with
    due := r.due || decide (r.settings.driveLimit - r.settings.lead ≤ r.acc)
    overdue := r.overdue || decide (r.settings.driveLimit ≤ r.acc) }

/-- What a test of the warnings hands on (R132), BREAK_DUE first. -/
def warnedMsgs (r : Rcl) : List Msg :=
  (if r.due = false ∧ r.settings.driveLimit - r.settings.lead ≤ r.acc then breakWarning false true r.acc else []) ++
    (if r.overdue = false ∧ r.settings.driveLimit ≤ r.acc then breakWarning true true r.acc else [])

/-- A log record appended (R139, R140): the oldest of 64 goes, and the serial after 4,294,967,295 is 1. -/
def logged (kind : LogKind) (start duration : Nat) (r : Rcl) : Rcl :=
  { r with
    log := (if r.log.length < 64 then r.log else r.log.drop 1) ++ [⟨r.nextSerial, kind, start, duration⟩]
    nextSerial := if 4294967295 ≤ r.nextSerial then 1 else r.nextSerial + 1 }

/-- RCL after the end of the break run `b` (R131, R135, R139): a first part sets the split flag, the run is logged with its class
and with the wake time of a planned record, and an open rest record closes with the quiet flag cleared. -/
def runEnded (b : BreakRun) (r : Rcl) : Rcl :=
  let first := b.marker = .none ∧ r.settings.splitFirst ≤ b.length
  let cls : LogClass :=
    if r.settings.regularMin ≤ b.length then .regular
    else if r.settings.reducedMin ≤ b.length then .reduced
    else if r.settings.breakMin ≤ b.length then .brk
    else if b.marker = .split then .splitSecond
    else if first then .splitFirst
    else .short
  let wake := r.record.bind fun x => if x.planned then some x.wake else none
  { logged (.breakRun b.rest b.available cls wake) b.start b.length r with
    breakRun := none, split := r.split || decide first, record := none
    quiet := if r.record.isSome then false else r.quiet }

/-- What the end of a break run with the rest record `x` hands on (R135, R136): the quiet flag's clearing, the close at SCH,
CLR and DMD, REST_SHORT (alert 6, cause 15) for a planned record closed below the reduced minimum, and REST_CLOSED (cause 16)
with the class (0 regular, 1 reduced, 2 break, 3 short) and the serial of the run's log record. The order in which HTR, CLR,
LGT and ALR take the clearing is the model's choice (log 52), and the numbers of the classes are R191's by the table of R135,
the model's reading (log 16). -/
def closeMsgs (x : RestRecord) (r : Rcl) : List Msg :=
  let cls :=
    if r.settings.regularMin ≤ x.length then 0
    else if r.settings.reducedMin ≤ x.length then 1
    else if r.settings.breakMin ≤ x.length then 2
    else 3
  (if r.quiet then [.htr .quiet, .clr (.quiet false), .lgt .quiet, .alr (.quiet false)] else []) ++
    [.sch .restClosed, .clr .restClosed, .dmd (.rest none)] ++
    (if x.planned = true ∧ 2 ≤ cls then [.alr (.raise 6), post 15 (u8 cls ++ u32 x.length ++ u32 x.wake)] else []) ++
    [post 16 (u8 cls ++ u32 x.length ++ flagByte x.planned ++ u32 x.wake ++ u32 r.nextSerial)]

/-! ### The schedule's rest entries (R145, R146, R155 to R157) -/

/-- SCH after a derivation for the rest from `start` to `wake` with a quiet delay (R155 to R157). The kinds of slots 10 to 15
are QUIET_BEGIN, PRECHILL_BEGIN, PREHEAT_START, QUIET_END, WAKE_LIGHT and WAKE_ALARM. One that is done stands; the first two
are not held in a rest that leaves no quiet time; another is inserted unless it is held at its due time. The inserted ones take
the insertion numbers from the counter on, in slot order (R146), so that a PREHEAT_START moved alone onto the due time of
QUIET_END and WAKE_LIGHT comes behind them, the model's choice (log 45). Due times are not wrapped at 32 bits (log 27). -/
def restDerived (start wake delay : Nat) (c : Sch) : Sch :=
  let lead : Nat := match c.outside with
    | none => 3600
    | some t => min 5400 (max 600 (600 + 60 * (10 - t.tdiv 10).toNat))
  let actions : List Action := [.quietBegin, .prechillBegin, .preheatStart, .quietEnd, .wakeLight, .wakeAlarm]
  let due (i : Nat) : Nat :=
    [start + delay, start + delay - 1200, wake - lead, wake - 1200, wake - 1200, wake].getD i 0
  let old (i : Nat) : Option SchedEntry := (c.slots[10 + i]?).join
  let waits (i : Nat) : Bool := !c.done.getD i false
  let quiet : Bool := decide (start + delay < wake - 1200)
  let inserted (i : Nat) : Bool := waits i && (decide (2 ≤ i) || quiet) && (old i).all fun e => decide (e.due ≠ due i)
  let number (i : Nat) : Nat := c.counter + ((List.range i).filter inserted).length
  let kind (i : Nat) : Option SchedEntry :=
    if inserted i then
      some { (old i).getD ⟨0, actions.getD i .userAlarm, none, none, 0, false⟩ with due := due i, insertion := number i }
    else if waits i && decide (i < 2) && !quiet then none
    else old i
  { c with
    slots := c.slots.zipIdx.map fun p => if 10 ≤ p.2 ∧ p.2 < 16 then kind (p.2 - 10) else p.1
    counter := number 6 }

/-! ### The alert unit (R166 to R169, R171, R172) -/

/-- The period of the bursts of a kind in milliseconds (R161, R167). -/
def burstPeriod (kind : Nat) : Nat := if kind = 0 then 10000 else if kind ≤ 2 then 20000 else if kind ≤ 5 then 30000 else 60000

/-- The beeps of a burst of a kind (R161, R167). -/
def burstBeeps (kind : Nat) : Nat := if kind = 0 then 5 else if kind ≤ 2 then 3 else if kind ≤ 5 then 2 else 1

/-- Whether the alert of a kind is SOUNDING. -/
def sounds (a : Alr) (kind : Nat) : Bool := (a.records.getD kind ⟨.inactive, false, 0, none⟩).state == .sounding

/-- The SOUNDING alert that comes first (R166): the kinds are numbered in the order of urgency (R161). -/
def firstSounding (a : Alr) : Option Nat := [0, 1, 2, 3, 4, 5, 6, 7].find? (sounds a)

/-- The buzzer owner taken over by a kind (R166 to R168): a burst begins and the flash starts on the alert channel. -/
def ownedBy (kind : Nat) (a : Alr) : Alr × List Msg :=
  ({ a with owner := some kind, phase := .beep 1 true, nextBurst := burstPeriod kind, buzzer := true },
    [.lgt (.flashStart a.channel 1000 4 4)])

/-- No owner left (R166, R168): silence, and the flash is cancelled. -/
def ownedByNone (a : Alr) : Alr × List Msg :=
  ({ a with owner := none, phase := .silent, nextBurst := 0, buzzer := false, flashFlag := false },
    [.lgt (.flashCancel a.channel)])

/-- The owner after a change of the records (R166): an owner that still sounds gives way only in the gap between bursts. -/
def ownerSettled (a : Alr) : Alr × List Msg :=
  if a.owner.any (sounds a) then
    match firstSounding a with
    | none => (a, [])
    | some k => if a.owner ≠ some k ∧ a.phase = .gap then ownedBy k a else (a, [])
  else
    match firstSounding a with
    | none => if a.owner = none then (a, []) else ownedByNone a
    | some k => ownedBy k a

/-- What a change of the alert records from `before` to `a` hands on (R166, R172): CHG is told when sounding begins or ends and
woken when an alert leaves INACTIVE, and then the owner settles. That CHG goes first is the model's choice (log 58). -/
def alertsFollow (before a : Alr) : List Msg :=
  let silent (a : Alr) (k : Nat) := (a.records.getD k ⟨.inactive, false, 0, none⟩).state == .inactive
  (if (before.records.any fun r => r.state == .sounding) = (a.records.any fun r => r.state == .sounding) then []
    else [.chg .review]) ++
    (if [0, 1, 2, 3, 4, 5, 6, 7].any fun k => silent before k && !silent a k then [.chg .wake] else []) ++
    (ownerSettled a).2

/-- The state after a change of the alert records from `s.alr` to `a`, with everything that brings about; `ms` follows. -/
def alertsNext (s : State) (a : Alr) (ms : List Msg) : State :=
  settle (alertsFollow s.alr a ++ ms) { s with alr := (ownerSettled a).1 }

/-- The alert of a kind acknowledged (R169, R171): an event alert (kinds 5 to 7) is INACTIVE, a condition alert SILENCED, for 600 s
when its urgency is 0 or 1 (kinds 0 to 2). -/
def acknowledged (kind : Nat) (a : Alr) : Alr :=
  let r := a.records.getD kind ⟨.inactive, false, 0, none⟩
  let r' : AlertRecord :=
    if 5 ≤ kind then { r with state := .inactive }
    else { r with state := .silenced, resound := if kind ≤ 2 then some 600 else r.resound }
  { a with records := a.records.set kind r' }

/-! ### The report queue (R176, R180, R181, R185) -/

/-- An entry put at its place in the queue: behind those of a lower level, and of its level and a lower cause number (R176). -/
def placed (x : QEntry) (queue : List QEntry) : List QEntry :=
  let before (y : QEntry) : Bool := decide (y.level < x.level ∨ (y.level = x.level ∧ y.cause < x.cause))
  queue.takeWhile before ++ x :: queue.dropWhile before

/-- ATTN: some entry queued has a level at or below the threshold (R181). -/
def attnOf (q : Rpq) : Bool := q.queue.any fun e => decide (e.level ≤ q.threshold)

/-- The report LNK takes: the head, with the gate open, the transmitter idle, no reply in a slot or being completed (log 33), and
no report in transmission (R180). -/
def reportTaken (s : State) (q : Rpq) : Option QEntry :=
  if q.gate = true ∧ s.lnk.tx = .idle ∧ s.lnk.slots = [] ∧ s.lnk.reserved = none ∧ s.lnk.answer = none ∧
      (q.queue.any QEntry.inFlight) = false then q.queue.head?
  else none

/-- RPQ at the end of an event that leaves it as `q`: ATTN is evaluated afresh and a report that LNK takes is marked in flight. -/
def reportsKept (s : State) (q : Rpq) : Rpq :=
  { q with
    attn := attnOf q
    queue := match reportTaken s q with
      | none => q.queue
      | some e => { e with inFlight := true } :: q.queue.drop 1 }

/-- What the end of an event at RPQ hands on: to CHG a queue that became empty or not empty, to LNK the report it takes, with the
payload of Table 10-3 (R180, R185). -/
def reportsFollow (s : State) (q : Rpq) : List Msg :=
  (if s.rpq.queue.isEmpty = q.queue.isEmpty then [] else [.chg .review]) ++
    (match reportTaken s q with
    | none => []
    | some e => [.lnk (.sendReport (frameOf 0xC0#8 0#8
        (u8 e.cause ++ u8 e.level ++ u8 e.count ++ u32 e.firstTime ++ u32 e.lastTime ++ e.data)))])

/-- An idle transmitter takes the reply of the slot filled earlier, from its first part on (R193). -/
def replyTaken (l : Lnk) : Lnk :=
  match l.slots with
  | [] => l
  | r :: _ => if l.tx = .idle then { l with tx := .reply 0, txFrame := replyFrame r 0 } else l

/-! ### What every step keeps -/

/-- Settings whose lists have the lengths the spec gives them, with a max level and a quiet cap of 1 to 4 (R80, R197). -/
def settingsFit (x : Settings) : Prop :=
  x.ocv.length = 6 ∧ x.trims.length = 6 ∧ x.table.length = 4 ∧ x.cooler.currents.length = 3 ∧ x.groups.length = 4 ∧
    x.fullCurrents.length = 8 ∧ x.scenes.length = 12 ∧ x.levels.length = 33 ∧
    1 ≤ x.profile.maxLevel ∧ x.profile.maxLevel ≤ 4 ∧ 1 ≤ x.profile.quietCap ∧ x.profile.quietCap ≤ 4

/-- The settings in use, those of the Settings area and those being saved fit, and so does a pending table. -/
def settingsInv (s : State) : Prop :=
  settingsFit (workingSettings s) ∧ (∀ t, s.htr.pendingTable = some t → t.length = 4) ∧
  (∀ a, s.sto.settingsArea = some a → settingsFit a.fields) ∧ ∀ x, s.sto.saving = some x → settingsFit x

/-- Heater items whose failure count is at most 3 and whose overheat count is at most 2 (R74). -/
def countsFit (k : Retained) : Prop := k.failures ≤ 3 ∧ k.overheats ≤ 2

/-- The outputs and the level of the heater are those of its state, by the table of R52: nothing runs in OFF, PRECHECK, WAIT and
LOCKOUT, the pump runs in IGNITE, RAMP and RUN only, the glow plug in PREHEAT and IGNITE only, and a purge runs both fans at full
duty. A burning heater holds a grant of 1 or more (R73). The lockout flag is set exactly in LOCKOUT and in a purge bound for it
(R75), and the counts stay within 3 and 2 (R74), in HTR and wherever STO holds them (R197, R199). -/
def heaterInv (s : State) : Prop :=
  let h := s.htr
  let row (n : Nat) : LevelRow := h.table.getD n ⟨0, 0, 0, 0⟩
  settingsInv s ∧
  h.out = (match h.seq with
    | .off | .precheck | .wait | .lockout => ⟨false, 0, 0, 0⟩
    | .preheat => ⟨true, 0, 200, 0⟩
    | .ignite => ⟨true, (row 0).pump, (row 0).burner, 0⟩
    | .ramp => ⟨false, (row 0).pump, (row 0).burner, (row 0).air⟩
    | .run => ⟨false, (row (h.level - 1)).pump, (row (h.level - 1)).burner, (row (h.level - 1)).air⟩
    | .purge => ⟨false, 0, 1000, 1000⟩) ∧
  (h.seq = .ramp → h.level = 1) ∧ (h.seq = .run → 1 ≤ h.level ∧ h.level ≤ 4) ∧
  (h.seq ≠ .ramp → h.seq ≠ .run → h.level = 0) ∧
  (h.seq = .ignite ∨ h.seq = .ramp ∨ h.seq = .run → 1 ≤ h.grant.getD 0) ∧
  (h.keep.lockout = true → h.seq = .lockout ∨ (h.seq = .purge ∧ h.purge.dest = .lockout)) ∧
  (h.seq = .lockout → h.keep.lockout = true) ∧ (h.seq = .purge → h.purge.dest = .lockout → h.keep.lockout = true) ∧
  countsFit h.keep ∧ countsFit s.sto.items ∧ (∀ w, s.sto.writing = some w → countsFit w.heater) ∧
  ∀ a, s.sto.stateArea = some a → countsFit a.fields.heater

/-- The compressor runs exactly in RUNNING (R84): COMP_EN is on there only, COMP_SPD is off elsewhere, the min-on timer runs there
only, and the min-off timer is stopped there (R89). At most five stalls are counted (R93) and 60 buckets held (R94). -/
def coolerInv (s : State) : Prop :=
  let c := s.clr
  c.compEn = decide (c.state = .running) ∧ (c.state ≠ .running → c.speed = 0 ∧ c.minOn = none) ∧
  (c.state = .running → c.minOff = none) ∧ (c.state = .disabled → c.settings.enable = false ∧ c.warm = false) ∧
  c.stalls ≤ 5 ∧ (c.state = .faulted → c.stalls = 5) ∧ c.ring.length ≤ 60

/-- The counted charge is at most C_nom and the residue is less than a milliampere-hour (R8); HIBERNATE is held in CUTOFF only, and
the doze timer runs in ACTIVE only (R19, R21). V, I and the figures come with the first measurement (R26). The rest-current time is
below 1,800 s (R10). A floor counter is below its limit, and 0 where it does not run (R16). An input is VALID with a run of three
in-range samples, and otherwise its run is shorter (R6). -/
def chargeInv (s : State) : Prop :=
  let c := s.chg
  settingsInv s ∧ c.q ≤ c.battery.cNom ∧ -360 < c.r ∧ c.r < 360 ∧ (c.mode = .hibernate → c.floor = .cutoff) ∧
  (c.mode ≠ .active → c.doze = none) ∧ c.syncCount ≤ 60 ∧ c.restTime < 1800 ∧
  (c.v = none ↔ c.figures = none) ∧ (c.v = none ↔ c.i = none) ∧
  (c.floor ≠ .clear → c.low = 0) ∧ (c.floor = .cutoff → c.hard = 0) ∧ (c.floor ≠ .critical → c.clearCnt = 0) ∧
  (c.floor ≠ .cutoff → c.charge = 0) ∧ c.low < 10 ∧ c.hard < 10 ∧ c.clearCnt < 60 ∧ c.charge < 30 ∧
  c.temps.length = 6 ∧ ∀ x ∈ c.temps, if x.cond = .valid then x.run = 3 ∧ x.value ≠ none else x.run < 3

/-- The report queue holds at most 16 entries, never two of a cause, in the order of level and cause, at most one in flight, and
ATTN is as it says (R176, R180, R181). The count of an entry, and its count since it was taken, are at most 255 (R176). There are
four descriptors and 32 positions. -/
def reportsInv (s : State) : Prop :=
  let q := s.rpq
  q.queue.length ≤ 16 ∧ (q.queue.map QEntry.cause).Nodup ∧
  q.queue.Pairwise (fun a b => a.level < b.level ∨ (a.level = b.level ∧ a.cause < b.cause)) ∧
  q.queue.Pairwise (fun a b => ¬(a.inFlight = true ∧ b.inFlight = true)) ∧ q.attn = attnOf q ∧
  (∀ e ∈ q.queue, 1 ≤ e.count ∧ e.count ≤ 255 ∧ e.since ≤ 255) ∧ q.lost ≤ 65535 ∧ q.descs.length = 4 ∧ q.buffer.length = 32

/-- At most two replies are held or being made, an idle transmitter leaves no reply waiting, and one that sends a reply sends a part
it has (R189, R193). The assembler keeps fewer bytes than LEN in BODY and all of them in CHECK (R188), and the counters are at
most 65,535 (R194). -/
def linkInv (s : State) : Prop :=
  let l := s.lnk
  l.reserved = none ∧ l.answer = none ∧ l.slots.length ≤ 2 ∧ (l.tx = .idle → l.slots = []) ∧
  (∀ n, l.tx = .reply n → ∃ r, l.slots.head? = some r ∧ n < partCount r.body) ∧
  (∀ len kept, l.asm = .body len kept → 2 ≤ len ∧ len ≤ 58 ∧ kept.length < len) ∧
  (∀ len kept, l.asm = .check len kept → 2 ≤ len ∧ len ≤ 58 ∧ kept.length = len) ∧
  l.gapErrs ≤ 65535 ∧ l.lenErrs ≤ 65535 ∧ l.crcErrs ≤ 65535 ∧ l.overruns ≤ 65535

/-- The buzzer has an owner exactly while an alert sounds, the owner's alert sounds, and the pin is on in an on period only (R166,
R167). There are eight records (R161). -/
def alertsInv (s : State) : Prop :=
  let a := s.alr
  a.records.length = 8 ∧ (a.owner = none ↔ firstSounding a = none) ∧ (∀ k, a.owner = some k → sounds a k = true) ∧
  (a.owner = none ↔ a.phase = .silent) ∧ (a.buzzer = true ↔ ∃ n, a.phase = .beep n true)

/-- A break run is in progress exactly in AVAILABLE and REST, a rest record is open then only, and the quiet flag is set with a
record open only (R126, R133, R136). The log holds at most 64 records and the next serial is 1 to 4,294,967,295 (R139, R140). The
schedule's slots, the derived kinds, the demand entries and the light channels have their numbers (R102, R145, R155, R27). -/
def clockInv (s : State) : Prop :=
  let r := s.rcl
  (r.breakRun.isSome = true ↔ r.period.activity = .available ∨ r.period.activity = .rest) ∧
  (r.record.isSome = true → r.breakRun.isSome = true) ∧ (r.quiet = true → r.record.isSome = true) ∧
  r.log.length ≤ 64 ∧ 1 ≤ r.nextSerial ∧ r.nextSerial ≤ 4294967295 ∧ s.sch.slots.length = 16 ∧ s.sch.done.length = 6 ∧
  s.dmd.entries.length = 8 ∧ s.lgt.channels.length = 8

end Sys2Proof.Machine
end

