-- ==== Sys2Proof/Certificates/Slice0/Obligations.lean ====
section
/-! DEFINITION. The statements: what each command does, and what every step keeps. A log number names the entry of the
assumption log that a clause rests on. -/

open Sys2Proof Sys2Proof.Machine

/-- A step takes the command at the front of the queue and runs it on the state with the queue's rest; with no command waiting
the part idles (the model's choice, log 5). -/
def Obligations.StepRunsTheFrontCommand : Prop :=
  (∀ (c : Instr) (rest : List Instr) (s : State), s.pending = c :: rest → step s = exec c { s with pending := rest }) ∧
    ∀ s : State, s.pending = [] → step s = .next s

/-- Every command answers a next state, whatever the state, and leaves the queue of the commands that wait as it is. -/
def Obligations.EveryCommandAnswersANextState : Prop :=
  ∀ (c : Instr) (s : State), ∃ t, exec c s = .next t ∧ t.pending = s.pending

/-- R189: a request taken, with a slot left and its tier open, answers a next state in which the slots hold one more reply:
KIND the request code plus 0x80, the request's TAG, and a status of R190. -/
def Obligations.EveryRequestIsAnsweredOnce : Prop :=
  ∀ (c : Instr) (tag : Byte) (r : Request) (s : State), requestOf c = some (tag, r) → HasSlot s →
    (0x30 ≤ r.code → s.lnk.service = true) →
    ∃ t status body, exec c s = .next t ∧ Replied s t (BitVec.ofNat 8 (r.code + 0x80)) tag status body ∧ status ≤ 9

/-- R192: a Service request (codes 0x30 to 0x36) dispatched while SERVICE is low is answered DENIED, status 6 with an empty
body, and nothing else changes. R189 step 2, R194: with both slots holding replies a request, of the catalogue or of an unnamed
code, is dropped: the overrun counter goes up by 1 and stays at 65,535 once there, LINK_ERRORS (cause 25) is posted with the
counter's number 3 and the four counters, and nothing else changes before that post is taken. R189, 10.4: the codes 0x0F, 0x22
to 0x2F and 0x37 to 0x3F are answered UNKNOWN, status 9 with an empty body, and nothing else changes. A code the catalogue
names, 0 or a code above 0x3F is no such request: only the event counter advances and the slot reserved for nothing is free. -/
def Obligations.RequestsAreTurnedAway : Prop :=
  (∀ (c : Instr) (tag : Byte) (r : Request) (s : State), requestOf c = some (tag, r) → HasSlot s → 0x30 ≤ r.code →
    s.lnk.service = false →
    exec c s = .next (closed (answered (BitVec.ofNat 8 (r.code + 0x80)) tag 6 [] (dispatched (BitVec.ofNat 8 (r.code + 0x80)) tag s)))) ∧
  ((∀ (c : Instr) (tag : Byte) (r : Request) (s : State), requestOf c = some (tag, r) → 2 ≤ s.lnk.slots.length →
    exec c s = .next (closed (settle
      [post 25 (u8 3 ++ u16 s.lnk.gapErrs ++ u16 s.lnk.lenErrs ++ u16 s.lnk.crcErrs ++ u16 (min 65535 (s.lnk.overruns + 1)))]
      { fresh s with lnk := { s.lnk with overruns := min 65535 (s.lnk.overruns + 1) } }))) ∧
    ∀ (tag code : Byte) (s : State), 1 ≤ code.toNat → code.toNat ≤ 0x3F → catalogued code.toNat = false →
      2 ≤ s.lnk.slots.length →
      exec (.unknownRequest tag code) s = .next (closed (settle
        [post 25 (u8 3 ++ u16 s.lnk.gapErrs ++ u16 s.lnk.lenErrs ++ u16 s.lnk.crcErrs ++ u16 (min 65535 (s.lnk.overruns + 1)))]
        { fresh s with lnk := { s.lnk with overruns := min 65535 (s.lnk.overruns + 1) } }))) ∧
  (∀ (tag code : Byte) (s : State), HasSlot s →
    ((code = 0x0F#8 ∨ (0x22#8 ≤ code ∧ code ≤ 0x2F#8) ∨ (0x37#8 ≤ code ∧ code ≤ 0x3F#8)) →
      exec (.unknownRequest tag code) s = .next (closed (answered (code + 0x80#8) tag 9 [] (dispatched (code + 0x80#8) tag s)))) ∧
    (¬(code = 0x0F#8 ∨ (0x22#8 ≤ code ∧ code ≤ 0x2F#8) ∨ (0x37#8 ≤ code ∧ code ≤ 0x3F#8)) →
      exec (.unknownRequest tag code) s = .next (closed (fresh s))))

/-- R189, R191, 10.4: the payload of every well-formed request, at most 56 bytes long, spells that request, and a payload that
spells a request is the one of that request, byte for byte, under its code: a payload of another length, or of other bytes,
spells none. -/
def Obligations.PayloadsSpellTheirRequests : Prop :=
  (∀ (c : Instr) (tag : Byte) (r : Request), requestOf c = some (tag, r) → c.wf = true →
    parseRequest r.code (payloadOf r) = some r ∧ (payloadOf r).length ≤ 56) ∧
  ∀ (code : Nat) (payload : List Byte) (r : Request), parseRequest code payload = some r →
    r.code = code ∧ payload = payloadOf r

/-- R26, R51, R82, R101: what each of the three resets leaves at CHG (but for the doze timer, which the review at the end of
the start-up may start), DMD, HTR and CLR, with the settings, heater items and Q in use of R200. The values the reset tables do
not give (the mark of a sync performed) are the model's choice (log 30), and so is when a RESTART_RESET acts (log 10). R124,
R144, R160, R173, R196: what each of the three resets leaves at LGT, RCL, SCH, ALR and LNK, with the settings in use of R200.
No firing in progress, a value no reset table gives, is the model's choice (log 30). -/
def Obligations.ResetLeavesTheBlocks : Prop :=
  (∀ (c : Instr) (pins : Pins) (s : State),
    (c = .powerOn pins ∨ c = .brownOut pins ∨ (c = .restartReset pins ∧ restartDue s = true)) →
    ∃ t, exec c s = .next t ∧
      (∃ d, t.chg =
        { battery := (usedSettings s.sto).battery, ocv := (usedSettings s.sto).ocv, trims := (usedSettings s.sto).trims,
          q := usedCharge s.sto (usedSettings s.sto).battery.cNom, r := 0, synced := false, syncCount := 0,
          syncDone := false, restTime := 0, temps := List.replicate 6 ⟨.starting, 0, none, none⟩, tb := none,
          figures := none, v := none, i := none, floor := .clear, low := 0, hard := 0, clearCnt := 0, charge := 0,
          ign := pins.ign, mode := .active, doze := d, interval := 1 }) ∧
      t.dmd =
        { entries :=
            [some ⟨.lgt, 0, [1], 0, 1000, none, none⟩,
             some ⟨.htr, 1, (usedSettings s.sto).table.map LevelRow.current, 0, 1000, none, none⟩,
             some ⟨.clr, 2, (usedSettings s.sto).cooler.currents,
              if (usedSettings s.sto).cooler.enable then (usedSettings s.sto).cooler.hostMax else 0, 500, none, none⟩,
             some ⟨.lgt, 3, [1, 1, 1], 0, 1000, none, none⟩, none, none, none, none],
          budget := .normal, lastPass := none, timer := none, a := none, floor := .clear, ign := pins.ign, wake := none } ∧
      (t.htr.seq = (if (usedItems s.sto).lockout then .lockout else .off) ∧ t.htr.startUpDue = true ∧
        t.htr.out = ⟨false, 0, 0, 0⟩ ∧ t.htr.level = 0 ∧ t.htr.pendingTable = none ∧ t.htr.keep = usedItems s.sto ∧
        t.htr.sc = (usedSettings s.sto).profile.mLo ∧ t.htr.bias = .raise ∧ t.htr.samples = 0 ∧ t.htr.cold = 0 ∧
        t.htr.warm = 0 ∧ t.htr.flameLow = 0 ∧ t.htr.idle = 0 ∧ t.htr.sessionRun = 0 ∧ t.htr.attempts = 0 ∧
        t.htr.restartUsed = false ∧ t.htr.frostFlag = false ∧ t.htr.frostLimited = false ∧ t.htr.frostRetry = none ∧
        t.htr.profile = (usedSettings s.sto).profile ∧ t.htr.table = (usedSettings s.sto).table) ∧
      (t.clr.state = (if (usedSettings s.sto).cooler.enable then .idle else .disabled) ∧ t.clr.call = false ∧
        t.clr.prechill = false ∧ t.clr.compEn = false ∧ t.clr.speed = 0 ∧ t.clr.grant = none ∧ t.clr.minOn = none ∧
        t.clr.minOff = some 180 ∧ t.clr.runTime = 0 ∧ t.clr.pause = none ∧ t.clr.backoff = none ∧ t.clr.stalls = 0 ∧
        t.clr.ring = [] ∧ t.clr.secondsOn = 0 ∧ t.clr.minute = 60 ∧ t.clr.duty = 500 ∧ t.clr.warmTime = 0 ∧
        t.clr.warm = false ∧ t.clr.blind = false ∧ t.clr.blindOff = none ∧ t.clr.settings = (usedSettings s.sto).cooler)) ∧
  (∀ (c : Instr) (pins : Pins) (s : State),
    (c = .powerOn pins ∨ c = .brownOut pins ∨ (c = .restartReset pins ∧ restartDue s = true)) →
    ∃ t, exec c s = .next t ∧
      (t.lgt.channels = List.replicate 8 ⟨0, 0, 0, false, none, 0⟩ ∧ t.lgt.stack = [] ∧ t.lgt.doorTimer = none ∧
        t.lgt.cabGrant = none ∧ t.lgt.safetyBudget = .normal ∧ t.lgt.doorOpen = pins.door ∧
        t.lgt.btn1 = (if pins.btn1 then .blocked else .released) ∧
        t.lgt.btn2 = (if pins.btn2 then .blocked else .released) ∧ t.lgt.groups = (usedSettings s.sto).groups ∧
        t.lgt.scenes = (usedSettings s.sto).scenes ∧ t.lgt.fullCurrents = (usedSettings s.sto).fullCurrents ∧
        t.lgt.quietLight = (usedSettings s.sto).quietLight ∧ t.lgt.postedCab = ⟨0, [1, 1, 1], 1000, none, none⟩ ∧
        t.lgt.postedSafety = ⟨0, [1], 1000, none, none⟩) ∧
      t.rcl =
        { cabTime := 0, timeSet := false, period := ⟨.available, 0, 0⟩, breakRun := some ⟨0, 0, 0, 0, .none⟩, acc := 0,
          split := false, due := false, overdue := false, record := none, quiet := false,
          settings := (usedSettings s.sto).rest, log := [], nextSerial := 1, window := none } ∧
      t.sch =
        { slots := List.replicate 16 none, counter := 0, rest := none, outside := none, done := List.replicate 6 false,
          refresh := none, firing := none } ∧
      (t.alr.records = List.replicate 8 ⟨.inactive, false, 0, none⟩ ∧ t.alr.owner = none ∧ t.alr.buzzer = false ∧
        t.alr.phase = .silent ∧ t.alr.flashFlag = false ∧ t.alr.channel = (usedSettings s.sto).alertChannel) ∧
      (t.lnk.asm = .hunt ∧ t.lnk.slots = [] ∧ t.lnk.tx = .idle ∧ t.lnk.gapErrs = 0 ∧ t.lnk.lenErrs = 0 ∧
        t.lnk.crcErrs = 0 ∧ t.lnk.overruns = 0 ∧ t.lnk.service = pins.service))

/-- R185, R200, R201: what a reset leaves at RPQ and STO and which posts the start-up makes, in the order STARTED (28),
SETTINGS_LOST (26), STATE_LOST (27): `k` is the reset kind (0 POWER_ON, 1 BROWN_OUT, 2 RESTART). The empty fields of the FREE
descriptors are the model's choice (log 30), and so is when a RESTART_RESET acts (log 10). -/
def Obligations.ResetPostsAndStore : Prop :=
  ∀ (c : Instr) (k : Nat) (pins : Pins) (s : State),
    ((c = .powerOn pins ∧ k = 0) ∨ (c = .brownOut pins ∧ k = 1) ∨ (c = .restartReset pins ∧ restartDue s = true ∧ k = 2)) →
    ∃ b, exec c s = .next (settle
      ([post 28 (u8 k ++ flagByte (readSettings s.sto.settingsArea).isSome ++ flagByte (readSaved s.sto.stateArea).isSome)] ++
        (if readSettings s.sto.settingsArea = none then [post 26 (u8 k)] else []) ++
        (if readSaved s.sto.stateArea = none then
          [post 27 (u8 k ++ u32 (usedCharge s.sto (usedSettings s.sto).battery.cNom)),
           .sto (.heater ⟨true, 0, 0, some .f9⟩)]
        else []) ++ [.chg .review]) b) ∧
      b.rpq =
        { levels := (usedSettings s.sto).levels, mask := (usedSettings s.sto).mask,
          threshold := (usedSettings s.sto).threshold, queue := [], gate := false, lost := 0,
          marks := List.replicate 33 false, attn := false, descs := List.replicate 4 ⟨.free, 0, [], 0, 0, 0⟩,
          buffer := List.replicate 32 none } ∧
      b.sto =
        { settingsArea := s.sto.settingsArea, stateArea := s.sto.stateArea, saving := none, writing := none,
          writeAgain := false, hourly := 3600, items := usedItems s.sto, restarting := .none }

/-- R200: the settings, the heater items and the Q in use after a reset. An area is valid when its stored CRC is that of its
fields (R197). R202: a RESTART_RESET acts only once a RESTART has been taken, its State write and the one pending behind it
have completed (the stage `done`), no Settings save is in progress, and no OK reply of KIND 0xB6 waits; until then it changes
nothing, which is the model's choice, as is how the reply is recognised (log 10). A State write begun later does not hold it,
and without any of these it is due. -/
def Obligations.AreasAndRestart : Prop :=
  (∀ t : Sto,
    (∀ a, t.settingsArea = some a → a.crc = crc16 (settingsBytes a.fields) → usedSettings t = a.fields) ∧
    ((t.settingsArea = none ∨ ∃ a, t.settingsArea = some a ∧ a.crc ≠ crc16 (settingsBytes a.fields)) →
      usedSettings t = defaultSettings) ∧
    (∀ a, t.stateArea = some a → a.crc = crc16 (savedBytes a.fields) →
      usedItems t = a.fields.heater ∧ ∀ cNom, usedCharge t cNom = if cNom < a.fields.q then cNom else a.fields.q) ∧
    ((t.stateArea = none ∨ ∃ a, t.stateArea = some a ∧ a.crc ≠ crc16 (savedBytes a.fields)) →
      usedItems t = ⟨true, 0, 0, some .f9⟩ ∧ ∀ cNom, usedCharge t cNom = cNom / 2)) ∧
  (∀ (pins : Pins) (s : State),
    let held := s.sto.restarting ≠ .done ∨ s.sto.saving ≠ none ∨
      ∃ r ∈ s.lnk.slots ++ s.lnk.answer.toList, r.kind = 0xB6#8 ∧ r.status = 0
    (held → exec (.restartReset pins) s = .next s) ∧
    (¬held → restartDue s = true))

/-- R3 steps 1 and 3 to 5 (R4, R7 to R10, R12): a measurement holds V, at most 32,767 mV, and I, within -30,000..30,000 cA;
then the contribution and the transfers, the sync count and a full sync, the rest-current time and the rest-voltage correction,
in that order, each on what the step before left. The state of charge is that of R11. R11: the state of charge of a rest
voltage by the OCV table: 0 at or below point 0, 1000 at or above point 5, and between two points the truncated interpolation. -/
def Obligations.MeasurementCountsCharge : Prop :=
  (∀ (m : Samples) (s : State), ∃ t, exec (.measurement m) s = .next t ∧
    let c := s.chg
    let v := if 32767 < m.vbat then 32767 else m.vbat
    let i : Int := if m.shunt < -30000 then -30000 else if 30000 < m.shunt then 30000 else m.shunt
    let contribution : Int := if i ≤ 0 then i * c.interval else (i * c.interval * c.battery.e).tdiv 1000
    let total := c.r + contribution
    let moved := total.tdiv 360
    let counted : Nat × Int :=
      if c.q + moved < 0 then (0, 0)
      else if (c.battery.cNom : Int) < c.q + moved then (c.battery.cNom, 0)
      else ((c.q + moved).toNat, total - 360 * moved)
    let tail := c.battery.vFull ≤ v ∧ 0 ≤ i ∧ i ≤ c.battery.iTail
    let count := if tail then min 60 (c.syncCount + 1) else 0
    let sync := tail ∧ 60 ≤ count ∧ c.syncDone = false
    let synced : Nat × Int := if sync then (c.battery.cNom, 0) else counted
    let quiet := if i.natAbs ≤ 50 then c.restTime + c.interval else 0
    t.chg.v = some v ∧ t.chg.i = some i ∧ t.chg.syncCount = count ∧
      t.chg.syncDone = (if sync then true else if tail then c.syncDone else false) ∧
      t.chg.synced = (if sync then true else c.synced) ∧ t.chg.r = synced.2 ∧
      t.chg.restTime = (if 1800 ≤ quiet then 0 else quiet) ∧
      t.chg.q = (if 1800 ≤ quiet then
        ((synced.1 : Int) + (((c.battery.cNom * socOf c.ocv v / 1000 : Nat) : Int) - synced.1).tdiv 4).toNat
      else synced.1)) ∧
  (∀ v0 v1 v2 v3 v4 v5 v : Nat, v0 < v1 → v1 < v2 → v2 < v3 → v3 < v4 → v4 < v5 →
    socOf [v0, v1, v2, v3, v4, v5] v =
      if v ≤ v0 then 0
      else if v < v1 then 0 + (v - v0) * 200 / (v1 - v0)
      else if v < v2 then 200 + (v - v1) * 200 / (v2 - v1)
      else if v < v3 then 400 + (v - v2) * 200 / (v3 - v2)
      else if v < v4 then 600 + (v - v3) * 200 / (v4 - v3)
      else if v < v5 then 800 + (v - v4) * 200 / (v5 - v4)
      else 1000)

/-- R13 to R15: the battery temperature and the figures a measurement leaves, from the charge, sync state and inputs it leaves.
Input 5 is BATTERY, input 1 OUTSIDE; a reading is there only while the input is VALID (R6). -/
def Obligations.MeasurementComputesTheFigures : Prop :=
  ∀ (m : Samples) (s : State), ∃ t, exec (.measurement m) s = .next t ∧
    let reading (n : Nat) : Option Int := (t.chg.temps[n]?).bind fun x => if x.cond = .valid then x.value else none
    let tb := (reading 5).or (reading 1)
    let k := match tb with
      | none => 600
      | some x => if 200 ≤ x then 1000 else if 0 ≤ x then 900 else if -100 ≤ x then 800 else if -200 ≤ x then 700 else 600
    let steps : Nat := match tb with
      | none => 4
      | some x => if x.tdiv 10 < 0 then ((x.tdiv 10).natAbs + 9) / 10 else 0
    let b := t.chg.battery
    let qd := t.chg.q * k / 1000
    let reserve := min (b.rBase + b.rCold * steps) b.cNom
    let u := if t.chg.synced then 0 else b.cNom / 10
    t.chg.tb = tb ∧ t.chg.figures = some ⟨qd, k, steps, reserve, u, qd - reserve - u⟩

/-- R5, R6: each of the six inputs at a measurement, by its condition and its trimmed sample, in range from -550 to 4,000
tenths. A failed conversion is out of range. -/
def Obligations.MeasurementUpdatesTheInputs : Prop :=
  ∀ (m : Samples) (s : State) (n : Nat), s.chg.temps.length = 6 → s.chg.trims.length = 6 → n < 6 →
    ∃ t, exec (.measurement m) s = .next t ∧
      ∀ x trim, s.chg.temps[n]? = some x → s.chg.trims[n]? = some trim →
        let raw := ([m.cabin, m.outside, m.cabinet, m.flame, m.overheat, m.battery].getD n none)
        (∀ y, raw = some y → -550 ≤ y + trim → y + trim ≤ 4000 →
          t.chg.temps[n]? = some
            (if x.cond = .valid then { x with value := some (y + trim) }
            else if 2 ≤ x.run then ⟨.valid, x.run + 1, some (y + trim), some (y + trim)⟩
            else { x with run := x.run + 1, sample := some (y + trim) })) ∧
        ((raw = none ∨ ∃ y, raw = some y ∧ (y + trim < -550 ∨ 4000 < y + trim)) →
          t.chg.temps[n]? = some ⟨.faulted, 0, none, none⟩)

/-- R16, R18: the floor counters and the floor state after a measurement. The hard count runs outside CUTOFF with IGN off, and
CUTOFF goes before CRITICAL. Every counter that does not run in the state entered is 0. R2, R3, R6, R9, R17, R25: what a
measurement hands on, in this order: SENSOR_RESTORED (cause 21) and SENSOR_FAULT (cause 20; an open value for a failed
conversion, log 20) in input order (the order among inputs is the model's, log 47), CHARGE_SYNC (cause 22) with the Q it
replaces, the results to HTR, CLR, SCH and DMD (the order is the model's, log 38), a changed floor state with its report and
alert, which ends DOZE, and the review of the part mode. The next interval is that of the part mode in force (log 31). -/
def Obligations.MeasurementMovesTheFloor : Prop :=
  (∀ (m : Samples) (s : State), ∃ t, exec (.measurement m) s = .next t ∧
    let c := s.chg
    let v := if 32767 < m.vbat then 32767 else m.vbat
    let i : Int := if m.shunt < -30000 then -30000 else if 30000 < m.shunt then 30000 else m.shunt
    let hard := if v < c.battery.vHard ∧ c.ign = false then c.hard + 1 else 0
    let low := if v < c.battery.vCut then c.low + 1 else 0
    let clear := if c.battery.vCut + 400 ≤ v then c.clearCnt + 1 else 0
    let charge := if 500 ≤ i then c.charge + 1 else 0
    (c.floor = .clear → t.chg.floor = if 10 ≤ hard then .cutoff else if 10 ≤ low then .critical else .clear) ∧
      (c.floor = .critical → t.chg.floor = if 10 ≤ hard then .cutoff else if 60 ≤ clear then .clear else .critical) ∧
      (c.floor = .cutoff → t.chg.floor = if 30 ≤ charge ∨ c.ign = true then .critical else .cutoff) ∧
      t.chg.low = (if c.floor = .clear ∧ t.chg.floor = .clear then low else 0) ∧
      t.chg.clearCnt = (if c.floor = .critical ∧ t.chg.floor = .critical then clear else 0) ∧
      t.chg.charge = (if c.floor = .cutoff ∧ t.chg.floor = .cutoff then charge else 0) ∧
      t.chg.hard = (if c.floor ≠ .cutoff ∧ t.chg.floor ≠ .cutoff then hard else 0)) ∧
  (∀ (m : Samples) (s : State), s.chg.temps.length = 6 → s.chg.trims.length = 6 →
    let c := s.chg
    let v := if 32767 < m.vbat then 32767 else m.vbat
    let i : Int := if m.shunt < -30000 then -30000 else if 30000 < m.shunt then 30000 else m.shunt
    let sensor (n : Nat) : List Msg :=
      let x := c.temps.getD n ⟨.starting, 0, none, none⟩
      let y := ([m.cabin, m.outside, m.cabinet, m.flame, m.overheat, m.battery].getD n none).map (· + c.trims.getD n 0)
      match y.filter fun y => decide (-550 ≤ y ∧ y ≤ 4000) with
      | some y => if x.cond = .faulted ∧ 2 ≤ x.run then [post 21 (u8 n ++ s16 y)] else []
      | none => if x.cond = .faulted then [] else [post 20 (u8 n ++ s16 (y.getD (Config.failedSample (s.free + 1) n)))]
    let contribution : Int := if i ≤ 0 then i * c.interval else (i * c.interval * c.battery.e).tdiv 1000
    let counted := c.q + (c.r + contribution).tdiv 360
    let tail := c.battery.vFull ≤ v ∧ 0 ≤ i ∧ i ≤ c.battery.iTail
    let sync := tail ∧ 59 ≤ c.syncCount ∧ c.syncDone = false
    ∃ t c', exec (.measurement m) s = .next t ∧
      let reading (n : Nat) : Option Int := (c'.temps[n]?).bind fun x => if x.cond = .valid then x.value else none
      let starting (n : Nat) : Bool := (c'.temps[n]?).any fun x => x.cond == .starting
      let next := modeReviewed (if c'.floor = c.floor then c' else awake c') s
      t = settle
        ([0, 1, 2, 3, 4, 5].flatMap sensor ++
          (if sync then [post 22 (u32 (if c.battery.cNom < counted then c.battery.cNom else counted.toNat))] else []) ++
          [.htr (.measured
              { dt := c.interval, flame := reading 3, overheat := reading 4, cabin := reading 0, volts := v
                flameStarting := starting 3, overheatStarting := starting 4
                flameSample := (c'.temps[3]?).bind TempInput.sample }),
            .clr (.measured c.interval (reading 2)), .sch (.outside (reading 1)),
            .dmd (.figures ((c'.figures.map Figures.a).getD 0) c'.floor)] ++
          (if c'.floor = c.floor then [] else floorFollows (s.free + 1) c' c'.floor) ++ next.2)
        { fresh s with chg := next.1 } ∧
      c'.mode = c.mode ∧ c'.doze = c.doze ∧ c'.ign = c.ign ∧ c'.v = some v ∧ c'.i = some i ∧
      c'.interval = (match c.mode with
        | .active => 1
        | .doze => 10
        | .hibernate => 60) ∧
      t.chg.temps = c'.temps ∧ t.chg.figures = c'.figures ∧ t.chg.floor = c'.floor ∧ t.chg.interval = c'.interval)

/-- R6, R9, R10, R12: SENSOR_VALID, FULL_SYNC and REST_VOLTAGE_CORRECTION. Each tests its condition on the state as it stands
(the measurement that brings the condition about acts on it itself, log 4), and without it only the event counter advances. -/
def Obligations.ChargeMarksActOnTheirCondition : Prop :=
  (∀ (n : Nat) (x : TempInput) (s : State), s.chg.temps[n]? = some x →
    (x.cond ≠ .valid → 3 ≤ x.run →
      exec (.sensorValid n) s = .next (settle
        (if x.cond = .faulted then [post 21 (u8 n ++ s16 (x.sample.getD 0))] else [])
        { fresh s with chg := { s.chg with temps := s.chg.temps.set n { x with cond := .valid, value := x.sample } } })) ∧
    (x.cond = .valid ∨ x.run < 3 → exec (.sensorValid n) s = .next (fresh s))) ∧
  (∀ (n : Nat) (s : State), s.chg.temps[n]? = none → exec (.sensorValid n) s = .next (fresh s)) ∧
  (∀ s : State,
    (60 ≤ s.chg.syncCount → s.chg.syncDone = false →
      exec .fullSync s = .next (settle [post 22 (u32 s.chg.q)]
        { fresh s with chg := { s.chg with q := s.chg.battery.cNom, r := 0, synced := true, syncDone := true } })) ∧
    (s.chg.syncCount < 60 ∨ s.chg.syncDone = true → exec .fullSync s = .next (fresh s))) ∧
  ∀ s : State,
    (∀ v, s.chg.v = some v → 1800 ≤ s.chg.restTime →
      exec .restVoltageCorrection s = .next { fresh s with chg := { s.chg with
        q := ((s.chg.q : Int) +
          (((s.chg.battery.cNom * socOf s.chg.ocv v / 1000 : Nat) : Int) - s.chg.q).tdiv 4).toNat
        restTime := 0 } }) ∧
    (s.chg.v = none ∨ s.chg.restTime < 1800 → exec .restVoltageCorrection s = .next (fresh s))

/-- R16 to R18: LOW_COUNT_LIMIT, HARD_COUNT_LIMIT, CLEAR_COUNT_LIMIT and CHARGE_COUNT_LIMIT. With its counter at its limit in
its floor state the floor moves as the table says; the counters that do not run in the new state are 0, DOZE ends, DMD, the
report and the BATTERY_CRITICAL alert follow, and the part mode is reviewed. Each row tests its limit on the state as it stands
(a measurement acts on it itself, log 4); otherwise only the event counter advances. V and I are open values before the first
measurement (log 21). -/
def Obligations.FloorCountsMoveTheFloor : Prop :=
  ∀ s : State,
    let c := s.chg
    let entered (f : Floor) : Chg := awake { c with
      floor := f
      low := if f = .clear then c.low else 0
      hard := if f = .cutoff then 0 else c.hard
      clearCnt := if f = .critical then c.clearCnt else 0
      charge := if f = .cutoff then c.charge else 0 }
    let moves (f : Floor) := Host.Outcome.next (φ := Fault) (ρ := Refusal)
      (settle (floorFollows (s.free + 1) c f ++ (modeReviewed (entered f) s).2)
        { fresh s with chg := (modeReviewed (entered f) s).1 })
    let low := c.floor = .clear ∧ 10 ≤ c.low ∧ c.hard < 10
    let hard := c.floor ≠ .cutoff ∧ 10 ≤ c.hard
    let clear := c.floor = .critical ∧ 60 ≤ c.clearCnt ∧ c.hard < 10
    let charge := c.floor = .cutoff ∧ 30 ≤ c.charge
    exec .lowCountLimit s = (if low then moves .critical else .next (fresh s)) ∧
    exec .hardCountLimit s = (if hard then moves .cutoff else .next (fresh s)) ∧
    exec .clearCountLimit s = (if clear then moves .clear else .next (fresh s)) ∧
    exec .chargeCountLimit s = (if charge then moves .critical else .next (fresh s))

/-- R19, R21: DOZE_TIMER_EXPIRY. In ACTIVE with the timer run out the mode goes to DOZE, or to HIBERNATE with a State write
when its conditions hold; otherwise only the event counter advances. R18, R20: IGN_CHANGE. IGN that turns off sets the hard
count to 0, and IGN that turns on leaves CUTOFF for CRITICAL, handed on before the change of IGN goes to DMD (log 37); DOZE
ends and the part mode is reviewed. The level IGN has already is no change (log 24). R192: a change of SERVICE is taken and
handed to CHG for the part mode; the level it already has is no change. R19 to R21: what CHG does when it is told of a change
that bears on the part mode, reviews it after an event that ends DOZE, or is stirred by a link byte or a post, which also
starts the doze timer afresh. HIBERNATE is left when the floor state leaves CUTOFF or SERVICE goes high, and entered with a
State write when its conditions hold; in ACTIVE the doze timer runs from 30 s while the conditions of DOZE hold; DOZE ends when
one of them fails. -/
def Obligations.DozeIgnitionAndServiceChanges : Prop :=
  (∀ s : State,
    (s.chg.mode = .active → s.chg.doze = some 0 →
      (¬HibernateHolds s.chg s →
        exec .dozeTimerExpiry s = .next { fresh s with chg := { s.chg with mode := .doze, doze := none } }) ∧
      (HibernateHolds s.chg s → exec .dozeTimerExpiry s = .next (settle [.sto .writeState]
        { fresh s with chg := { s.chg with mode := .hibernate, doze := none } }))) ∧
    (s.chg.mode ≠ .active ∨ s.chg.doze ≠ some 0 → exec .dozeTimerExpiry s = .next (fresh s))) ∧
  (∀ (on : Bool) (s : State),
    let c := s.chg
    let changed := awake { c with ign := on, hard := if on then c.hard else 0 }
    let leaves := { changed with floor := .critical, low := 0, charge := 0 }
    (on = c.ign → exec (.ignChange on) s = .next (fresh s)) ∧
    (on = true → c.ign = false → c.floor = .cutoff →
      exec (.ignChange on) s = .next (settle
        (floorFollows (s.free + 1) c .critical ++ [.dmd (.ign true)] ++ (modeReviewed leaves s).2)
        { fresh s with chg := (modeReviewed leaves s).1 })) ∧
    (on ≠ c.ign → on = false ∨ c.floor ≠ .cutoff →
      exec (.ignChange on) s = .next (settle (.dmd (.ign on) :: (modeReviewed changed s).2)
        { fresh s with chg := (modeReviewed changed s).1 }))) ∧
  (∀ (high : Bool) (s : State),
    (high ≠ s.lnk.service →
      exec (.serviceChange high) s = .next (settle [.chg .review] { fresh s with lnk := { s.lnk with service := high } })) ∧
    (high = s.lnk.service → exec (.serviceChange high) s = .next (fresh s))) ∧
  (∀ s : State,
    let c := s.chg
    let reviewed (c' : Chg) : State × List Msg := ({ s with chg := (modeReviewed c' s).1 }, (modeReviewed c' s).2)
    deliver (.chg .review) s = reviewed c ∧
    deliver (.chg .wake) s = reviewed (awake c) ∧
    deliver (.chg .stir) s = reviewed { awake c with doze := none } ∧
    (c.mode = .hibernate → (c.floor ≠ .cutoff ∨ s.lnk.service = true) →
      modeReviewed c s = ({ c with mode := .active, doze := if DozeHolds c s then some 30 else none }, [])) ∧
    (c.mode = .hibernate → c.floor = .cutoff → s.lnk.service = false → modeReviewed c s = (c, [])) ∧
    (c.mode ≠ .hibernate → HibernateHolds c s →
      modeReviewed c s = ({ c with mode := .hibernate, doze := none }, [.sto .writeState])) ∧
    (c.mode = .doze → ¬HibernateHolds c s → DozeHolds c s → modeReviewed c s = (c, [])) ∧
    (c.mode = .doze → ¬HibernateHolds c s → ¬DozeHolds c s →
      modeReviewed c s = ({ c with mode := .active, doze := none }, [])) ∧
    (c.mode = .active → ¬HibernateHolds c s →
      modeReviewed c s = ({ c with doze := if DozeHolds c s then some (c.doze.getD 30) else none }, [])))

/-- R31 to R43: BUDGET_TIMER_EXPIRY with the timer run out and A known restarts the timer at 60 s and runs one pass (`passed`).
h is W less cab time, or H_idle with no rest open, within 600..43,200 s; E_need is the Needs of the class-0 entries, B is A
less E_need, not below 0, and B_r is 95 % of B. In CUTOFF every entry is granted 0; with IGN on every entry its request;
otherwise the class-0 entries are granted their requests, and the others 0 in CRITICAL and what the walk gives them in CLEAR.
Grants, budget state and record follow, changed grants are delivered, and the budget state and host grants are reported. The
deliveries to the owners of several entries, and HOST_LOAD_GRANT for several host entries, go in ascending entry number, an
order that R42 and R43 leave open and the model chose (log 48). Before the first A no pass runs. An expiry whose timer has not
run out only advances the event counter (log 2). R29, R33: a demand update writes the fields it carries, and one that changes a
field runs a pass (`passed`) with the trigger demand. Before the first A what is handed on is kept and no pass runs. An update
for an empty position changes nothing. R25, R32, R33: the first A, changed figures of the battery, a changed floor state, IGN
and a rest record that opens, changes its W or closes each run a pass with their trigger. A later A of a measurement is only
kept. -/
def Obligations.BudgetTimerRunsAPass : Prop :=
  ((∀ (a : Nat) (s : State), s.dmd.timer = some 0 → s.dmd.a = some a →
    let d := { s.dmd with timer := some 60 }
    exec .budgetTimerExpiry s =
      .next (settle (passed .timer a d s).2 { fresh s with dmd := (passed .timer a d s).1 })) ∧
  (∀ s : State, s.dmd.timer = some 0 → s.dmd.a = none →
    exec .budgetTimerExpiry s = .next { fresh s with dmd := { s.dmd with timer := some 60 } }) ∧
  (∀ s : State, s.dmd.timer ≠ some 0 → exec .budgetTimerExpiry s = .next (fresh s)) ∧
  ∀ (t : Trigger) (a : Nat) (d : Dmd) (s : State), (∀ e, some e ∈ d.entries → e.cls ≤ 3) →
    let p := (passed t a d s).1
    (∀ n : Nat, d.entries[n]? = some none → p.entries[n]? = some none) ∧
    ∀ (n : Nat) (e : Entry), d.entries[n]? = some (some e) →
      ∃ g, p.entries[n]? = some (some { e with granted := some g }) ∧
        (d.floor = .cutoff → g = 0) ∧ (d.floor ≠ .cutoff → d.ign = true → g = e.requested) ∧
        (d.floor ≠ .cutoff → e.cls = 0 → g = e.requested) ∧
        (d.floor = .critical → d.ign = false → e.cls ≠ 0 → g = 0) ∧ g ≤ e.requested) ∧
  (∀ (n : Nat) (e : Entry) (u : Demand) (s : State), s.dmd.entries[n]? = some (some e) →
    let new := { e with
      requested := u.requested, currents := u.currents, duty := u.duty
      cls := match u.cls with
        | none => e.cls
        | some c => c
      startCharge := match u.startCharge with
        | none => e.startCharge
        | some c => c }
    let d := { s.dmd with entries := s.dmd.entries.set n (some new) }
    (new = e → deliver (.dmd (.update n u)) s = (s, [])) ∧
    (new ≠ e → s.dmd.a = none → deliver (.dmd (.update n u)) s = ({ s with dmd := d }, [])) ∧
    ∀ a, new ≠ e → s.dmd.a = some a →
      deliver (.dmd (.update n u)) s = ({ s with dmd := (passed .demand a d s).1 }, (passed .demand a d s).2)) ∧
  (∀ (n : Nat) (u : Demand) (s : State), (s.dmd.entries[n]?).join = none → deliver (.dmd (.update n u)) s = (s, [])) ∧
  (∀ (a : Nat) (f : Floor) (on : Bool) (w : Option Nat) (s : State),
    let d := s.dmd
    let pass (t : Trigger) (d : Dmd) : State × List Msg := match d.a with
      | none => ({ s with dmd := d }, [])
      | some a => ({ s with dmd := (passed t a d s).1 }, (passed t a d s).2)
    (d.a = none → deliver (.dmd (.figures a f)) s = pass .firstA { d with a := some a, floor := f }) ∧
    (d.a ≠ none → deliver (.dmd (.figures a f)) s = ({ s with dmd := { d with a := some a, floor := f } }, [])) ∧
    deliver (.dmd (.battery a)) s = pass .battery { d with a := some a } ∧
    deliver (.dmd (.floor f)) s = pass .floor { d with floor := f } ∧
    deliver (.dmd (.ign on)) s = pass .ign { d with ign := on } ∧
    deliver (.dmd (.rest w)) s = pass .rest { d with wake := w })

/-- R30, R38: the walk gives an entry the highest level up to its request whose Need on top of the sum so far keeps within B
when the level is not above the one granted before, and within B_r otherwise; Need is I x duty x h rounded up to a
milliampere-hour, and the start charge. Level 0 granted to a request begins the tail, and in the tail every entry is granted 0.
R38: a budget pass walks the non-Essential entries in budget order, with S from 0, when the floor state is CLEAR and IGN is
off. After every pass no non-Essential entry holds a level above 0 while one before it has a request above 0 and a level of 0,
and with IGN off in NORMAL or TRIMMED the Needs of those granted a level come to at most B = max(0, A - E_need). R37, R38: what
a walk hands out never exceeds the remaining budget B. -/
def Obligations.WalkGrantsTheHighestLevelThatFits : Prop :=
  (∀ (h b br sum n : Nat) (e : Entry) (rest : List (Nat × Entry)),
    let charge (l : Nat) : Nat := match l with
      | 0 => 0
      | k + 1 => ((e.currents.getD k 0).toNat * e.duty * h + 359999) / 360000 + e.startCharge.getD 0
    let within (l : Nat) : Prop := sum + charge l ≤ if l ≤ e.granted.getD 0 then b else br
    (∃ g, walk h b br false sum ((n, e) :: rest) =
        ((n, g) :: (walk h b br (decide (g = 0 ∧ e.requested ≠ 0)) (sum + charge g) rest).1,
          (walk h b br (decide (g = 0 ∧ e.requested ≠ 0)) (sum + charge g) rest).2) ∧
      g ≤ e.requested ∧ (g ≠ 0 → within g) ∧ ∀ l, g < l → l ≤ e.requested → ¬within l) ∧
    walk h b br true sum ((n, e) :: rest) = ((n, 0) :: (walk h b br true sum rest).1, (walk h b br true sum rest).2)) ∧
  (∀ (t : Trigger) (a : Nat) (d0 : Dmd) (s : State),
    let d := { d0 with a := some a }
    let others (d : Dmd) := (budgetOrder d).filter fun p => p.2.cls != 0
    let h := horizonNow d s
    let charge (e : Entry) (l : Nat) : Nat := match l with
      | 0 => 0
      | k + 1 => ((e.currents.getD k 0).toNat * e.duty * h + 359999) / 360000 + e.startCharge.getD 0
    let essential := (budgetOrder d).filter fun p => p.2.cls == 0
    let b := a - (essential.map fun p => charge p.2 p.2.requested).sum
    let d' := (budgetPass t d s).1
    (d.floor = .clear → d.ign = false →
      (others d').map (fun p => (p.1, p.2.granted)) =
        (walk h b (b * 95 / 100) false 0 (others d)).1.map fun p => (p.1, some p.2)) ∧
    (others d').Pairwise (fun p q => p.2.requested ≠ 0 → p.2.granted = some 0 → q.2.granted = some 0) ∧
    (d.ign = false → (d'.budget = .normal ∨ d'.budget = .trimmed) →
      ((others d').map fun p => charge p.2 (p.2.granted.getD 0)).sum ≤ b)) ∧
  (∀ (h b br : Nat) (order : List (Nat × Entry)), br ≤ b → (walk h b br false 0 order).2 ≤ b)

/-- R47: DEMAND_DECLARE. Out of range it is answered RANGE, and 255 with no slot left FULL, with no change. A declaration equal
to the entry is answered OK with no pass. Otherwise the entry is written and, with A known, a pass runs (`passed`), with the
trigger entry added or demand; the reply carries the position and the level then granted, a new entry without a pass being
UNASSESSED (log 22). R48: DEMAND_RELEASE. A position outside 4..7 is answered RANGE and an empty one STATE, with no change;
otherwise the entry goes, a pass with the trigger entry removed runs when A is known, and the reply is OK. That the deliveries
and the HOST_LOAD_GRANT posts of either pass go in ascending entry number is the model's choice (log 48). -/
def Obligations.HostEntriesAreDeclaredAndReleased : Prop :=
  (∀ (tag : Byte) (x : DeclareArgs) (s : State), HasSlot s →
    let ok := ((4 ≤ x.entry ∧ x.entry ≤ 7) ∨ x.entry = 255) ∧ 1 ≤ x.cls ∧ x.cls ≤ 3 ∧ 1 ≤ x.currents.length ∧
      x.currents.length ≤ 4 ∧ (∀ i ∈ x.currents, 1 ≤ i ∧ i ≤ 3000) ∧ x.currents.Pairwise (· ≤ ·) ∧
      x.requested ≤ x.currents.length ∧ x.duty ≤ 1000
    let slot := if x.entry = 255 then [4, 5, 6, 7].find? (fun n => s.dmd.entries[n]? == some none) else some x.entry
    (¬ok → exec (.demandDeclare tag x) s = .next (finish [] (answered 0x9D#8 tag 3 [] (dispatched 0x9D#8 tag s)))) ∧
    (ok → slot = none →
      exec (.demandDeclare tag x) s = .next (finish [] (answered 0x9D#8 tag 5 [] (dispatched 0x9D#8 tag s)))) ∧
    ∀ n, ok → slot = some n → n < s.dmd.entries.length →
      let old := (s.dmd.entries[n]?).join
      let new : Entry := ⟨.host, x.cls, x.currents, x.requested, x.duty, none, old.bind Entry.granted⟩
      (old = some new →
        exec (.demandDeclare tag x) s =
          .next (finish [] (answered 0x9D#8 tag 0 (u8 n ++ grantedByte new.granted) (dispatched 0x9D#8 tag s)))) ∧
      (old ≠ some new → s.dmd.a = none →
        exec (.demandDeclare tag x) s =
          .next (finish [] (answered 0x9D#8 tag 0 (u8 n ++ grantedByte new.granted)
            { dispatched 0x9D#8 tag s with dmd := { s.dmd with entries := s.dmd.entries.set n (some new) } }))) ∧
      (∀ a, old ≠ some new → s.dmd.a = some a →
        let p := passed (if old = none then .entryAdded else .demand) a
          { s.dmd with entries := s.dmd.entries.set n (some new) } s
        ∃ g : Nat, p.1.entries[n]? = some (some { new with granted := some g }) ∧
          exec (.demandDeclare tag x) s =
            .next (finish p.2 (answered 0x9D#8 tag 0 (u8 n ++ u8 g) { dispatched 0x9D#8 tag s with dmd := p.1 })))) ∧
  (∀ (tag : Byte) (n : Nat) (s : State), HasSlot s →
    (n < 4 ∨ 7 < n → exec (.demandRelease tag n) s = .next (finish [] (answered 0x9E#8 tag 3 [] (dispatched 0x9E#8 tag s)))) ∧
    (4 ≤ n → n ≤ 7 → (s.dmd.entries[n]?).join = none →
      exec (.demandRelease tag n) s = .next (finish [] (answered 0x9E#8 tag 4 [] (dispatched 0x9E#8 tag s)))) ∧
    (4 ≤ n → n ≤ 7 → (s.dmd.entries[n]?).join ≠ none → s.dmd.a = none →
      exec (.demandRelease tag n) s = .next (finish [] (answered 0x9E#8 tag 0 []
        { dispatched 0x9E#8 tag s with dmd := { s.dmd with entries := s.dmd.entries.set n none } }))) ∧
    ∀ a, 4 ≤ n → n ≤ 7 → (s.dmd.entries[n]?).join ≠ none → s.dmd.a = some a →
      let p := passed .entryRemoved a { s.dmd with entries := s.dmd.entries.set n none } s
      exec (.demandRelease tag n) s = .next (finish p.2 (answered 0x9E#8 tag 0 [] { dispatched 0x9E#8 tag s with dmd := p.1 })))

/-- R194: LINK_STATS answers the four counters and with its flag set clears them; a flag above 1 is answered RANGE. R50:
BUDGET_READ answers the budget state, the last pass when there is one, and the eight positions, and changes nothing. The
reading of R191 for that reply's layout (log 16) and the open value of the UNASSESSED byte (log 22) are the model's choice. -/
def Obligations.CountersAndBudgetAreRead : Prop :=
  ∀ (tag : Byte) (clear : Nat) (s : State), HasSlot s →
    let l := s.lnk
    let u := dispatched 0xA0#8 tag s
    let counters := u16 l.gapErrs ++ u16 l.lenErrs ++ u16 l.crcErrs ++ u16 l.overruns
    let state (b : Budget) : Nat := match b with
      | .normal => 0
      | .trimmed => 1
      | .critical => 2
      | .cutoff => 3
    let d := s.dmd
    let pass (r : PassResult) : List Byte :=
      u32 r.time ++
        u8 (match r.trigger with
          | .timer => 0 | .demand => 1 | .entryAdded => 2 | .entryRemoved => 3 | .floor => 4 | .ign => 5 | .rest => 6
          | .battery => 7 | .firstA => 8) ++
        u8 (match r.way with
          | .cutoff => 0 | .ignition => 1 | .walk => 2) ++
        u32 r.a ++
        u8 (match r.floor with
          | .clear => 0 | .critical => 1 | .cutoff => 2) ++
        flagByte r.ign ++ u32 r.h ++ u32 r.eNeed ++ u32 r.b ++ u32 r.br ++ u32 r.sum ++
        (match r.firstTrimmed with
          | none => u8 0
          | some n => u8 1 ++ u8 n) ++
        u8 r.entries.length ++
        r.entries.flatMap (fun p => u8 p.requested ++ u8 p.granted ++ u32 p.need) ++ u8 (state r.state)
    let entry (e : Entry) : List Byte :=
      u8 e.cls ++
        u8 (match e.owner with
          | .htr => 0 | .clr => 1 | .lgt => 2 | .host => 3) ++
        u8 e.currents.length ++ e.currents.flatMap s16 ++ u8 e.requested ++ u16 e.duty ++
        (match e.startCharge with
          | none => u8 0
          | some n => u8 1 ++ u32 n) ++
        (match e.granted with
          | none => [Config.unassessedCode]
          | some n => u8 n)
    (clear = 0 → exec (.linkStats tag clear) s = .next (finish [] (answered 0xA0#8 tag 0 counters u))) ∧
    (clear = 1 → exec (.linkStats tag clear) s = .next (finish [] (answered 0xA0#8 tag 0 counters
      { u with lnk := { u.lnk with gapErrs := 0, lenErrs := 0, crcErrs := 0, overruns := 0 } }))) ∧
    (1 < clear → exec (.linkStats tag clear) s = .next (finish [] (answered 0xA0#8 tag 3 [] u))) ∧
    exec (.budgetRead tag) s = .next (finish [] (answered 0x9F#8 tag 0
      (u8 (state d.budget) ++
        (match d.lastPass with
          | none => u8 0
          | some r => u8 1 ++ pass r) ++
        d.entries.flatMap fun o => match o with
          | none => u8 0
          | some e => u8 1 ++ entry e)
      (dispatched 0x9F#8 tag s)))

/-- R57, R58, R59, R60, R73, R74: the expiries of PRECHECK (5 s), PREHEAT (30 s), IGNITE (90 s) and RAMP (60 s), each in its
state with its timer run out; otherwise only the event counter advances. PRECHECK and PREHEAT go on, or end in OFF with F8 when
the grant is 0 or none; a failed ignition is tried once more by a purge bound for PREHEAT, and fails with F3, or with F4 after
a flame-out restart, the third failure being a lockout; RAMP enters RUN at min(2, cap). The reason NONE of a first failed
ignition (log 13), the -32,768 of an invalid ignition reference (log 46), the place of HEATER_TABLE_APPLIED in a change to OFF
(`heaterChanges`, log 53) and expiries without effect (log 2) are the model's choice. R57, R58, R59, R71: a measurement in
PRECHECK, PREHEAT and IGNITE, after the frost test of R78 (`heaterReads`; log 15). A check of R57 that fails ends PRECHECK in
OFF with its fault, and an invalid FLAME or OVERHEAT ends PREHEAT in OFF with F1 or F2, with both invalid F1 by the model's
choice (log 56). In IGNITE, with no fault found (log 40), a FLAME 40.0 K above the reference enters RAMP at level 1. -/
def Obligations.HeaterStartTimersAdvanceTheStart : Prop :=
  (∀ s : State,
    let h := s.htr
    let row := h.table.getD 0 ⟨0, 0, 0, 0⟩
    let result (h' : Htr) (first : List Msg) (reason : Nat) := Host.Outcome.next (φ := Fault) (ρ := Refusal)
      (settle (first ++ heaterFollows h h' reason) { fresh s with htr := h' })
    (h.timer = some 0 → (h.seq = .precheck ∨ h.seq = .preheat) → h.grant.getD 0 = 0 →
      exec .precheckExpiry s = (if h.seq = .precheck then result (heaterOff (withFault .f8 h.keep) h) [] 4 else .next (fresh s)) ∧
      exec .preheatExpiry s = (if h.seq = .preheat then result (heaterOff (withFault .f8 h.keep) h) [] 4 else .next (fresh s))) ∧
    (h.timer = some 0 → h.seq = .precheck → h.grant.getD 0 ≠ 0 →
      exec .precheckExpiry s = result
        { h with seq := .preheat, level := 0, timer := some 30, frostRetry := none, out := ⟨true, 0, 200, 0⟩ } [] 6) ∧
    (h.timer = some 0 → h.seq = .preheat → h.grant.getD 0 ≠ 0 →
      exec .preheatExpiry s = result
        { h with
          seq := .ignite, level := 0, timer := some 90, frostRetry := none, attempts := min 2 (h.attempts + 1)
          reference := h.flame, out := ⟨true, row.pump, row.burner, 0⟩ } [] 6) ∧
    (h.timer = some 0 → h.seq = .ignite →
      let failed := [post 6 (u8 h.attempts ++ tempField h.reference)]
      let code : HeaterFault := if h.restartUsed then .f4 else .f3
      let third := 3 ≤ h.keep.failures + 1
      let k := { withFault code h.keep with
        failures := min 3 (h.keep.failures + 1), lockout := h.keep.lockout || decide third }
      exec .igniteExpiry s =
        if h.restartUsed = false ∧ h.attempts ≤ 1 then result (heaterPurging .preheat .normal h.keep h) failed 6
        else result (heaterPurging (if k.lockout then .lockout else .off) .normal k h) failed 4) ∧
    (h.timer = some 0 → h.seq = .ramp →
      let level := min 2 (capOf h s.rcl.quiet)
      let out := h.table.getD (level - 1) ⟨0, 0, 0, 0⟩
      exec .rampExpiry s = result
        { h with
          seq := .run, level := level, timer := none, frostRetry := none, keep := { h.keep with failures := 0 }
          sc := h.profile.mLo, bias := .raise, samples := 0, cold := 0, warm := 0, idle := 0
          out := ⟨false, out.pump, out.burner, out.air⟩ } [] 6) ∧
    ∀ c : Instr,
      (c = .precheckExpiry ∧ (h.seq ≠ .precheck ∨ h.timer ≠ some 0) ∨ c = .preheatExpiry ∧ (h.seq ≠ .preheat ∨ h.timer ≠ some 0) ∨
        c = .igniteExpiry ∧ (h.seq ≠ .ignite ∨ h.timer ≠ some 0) ∨ c = .rampExpiry ∧ (h.seq ≠ .ramp ∨ h.timer ≠ some 0)) →
      exec c s = .next (fresh s)) ∧
  (∀ (r : HeaterReadings) (s : State), s.htr.startUpDue = false →
    let h := (heaterReads r s.htr).1
    let first := (heaterReads r s.htr).2
    let row := h.table.getD 0 ⟨0, 0, 0, 0⟩
    let stays := (({ s with htr := h } : State), first)
    let result (h' : Htr) (reason : Nat) := (({ s with htr := h' } : State), first ++ heaterFollows h h' reason)
    (h.seq = .precheck → startFault h = none → deliver (.htr (.measured r)) s = stays) ∧
    (∀ f, h.seq = .precheck → startFault h = some f →
      deliver (.htr (.measured r)) s = result (heaterOff (withFault f h.keep) h) 4) ∧
    (h.seq = .preheat →
      (h.flame = none → deliver (.htr (.measured r)) s = result (heaterOff (withFault .f1 h.keep) h) 4) ∧
      (h.flame ≠ none → h.overheat = none →
        deliver (.htr (.measured r)) s = result (heaterOff (withFault .f2 h.keep) h) 4) ∧
      (h.flame ≠ none → h.overheat ≠ none → deliver (.htr (.measured r)) s = stays)) ∧
    (∀ f ref, h.seq = .ignite → BurnsWell s.chg.battery.vHard f h → h.reference = some ref →
      (ref + 400 ≤ f →
        deliver (.htr (.measured r)) s = result
          { h with
            seq := .ramp, level := 1, timer := some 60, flameLow := 0, frostRetry := none
            out := ⟨false, row.pump, row.burner, row.air⟩ } 6) ∧
      (f < ref + 400 → deliver (.htr (.measured r)) s = stays)) ∧
    (∀ f, h.seq = .ignite → BurnsWell s.chg.battery.vHard f h → h.reference = none →
      deliver (.htr (.measured r)) s = stays))

/-- R62, R63: CONTROL_PERIOD_END in RUN with ten samples: the net count goes to SC, flips the bias when it overshoots below 0,
and at M_hi moves the level one step in the bias direction within 1..cap, the outputs following. R64, R74: IDLE_STOP in RUN
with 300 s of idle time purges bound for WAIT with reason THERMOSTAT and, after 1,800 s of the session, clears the overheat
count. R65: FLAME_OUT in RAMP or RUN with 15 s of flame-low time is posted; the first purges bound for PREHEAT, one after the
restart fails with F4. Otherwise only the event counter advances. The reason NONE of a first flame-out (log 13),
HEATER_FLAME_OUT posted before the rest of its event (log 53), and the marks as rows of their own that test their condition
(log 4), are the model's choice. R62 to R65: a measurement in RAMP and RUN with no fault found, after the frost test of R78
(`heaterReads`; log 15 for the order). FLAME below its threshold adds dt to the flame-low time, and 15 s of it are a flame-out.
Otherwise RAMP goes on, and in RUN a valid CABIN is a sample, cold below setpoint - deadband and warm above setpoint +
deadband, the tenth closing the control period; with CABIN invalid the counts go and the level is min(2, cap). At level 1 with
CABIN above setpoint + 3.0 K the idle time adds dt, and 300 s of it make an idle stop. -/
def Obligations.HeaterRunMarksActOnTheirCount : Prop :=
  (∀ s : State,
    let h := s.htr
    let result (h' : Htr) (first : List Msg) (reason : Nat) := Host.Outcome.next (φ := Fault) (ρ := Refusal)
      (settle (first ++ heaterFollows h h' reason) { fresh s with htr := h' })
    (h.seq = .run → 10 ≤ h.samples →
      let net : Int := (h.cold : Int) - h.warm
      let n := if h.bias = .raise then net else -net
      let flip := n < 0 ∧ h.sc < n.natAbs
      let sc := if 0 ≤ n then h.sc + n.natAbs else if flip then n.natAbs - h.sc else h.sc - n.natAbs
      let bias : Bias := if flip then (if h.bias = .raise then .lower else .raise) else h.bias
      let level :=
        match bias with
        | .raise => if h.level + 1 ≤ capOf h s.rcl.quiet then h.level + 1 else h.level
        | .lower => if 2 ≤ h.level then h.level - 1 else h.level
      let row := h.table.getD (level - 1) ⟨0, 0, 0, 0⟩
      exec .controlPeriodEnd s = .next { fresh s with htr :=
        if h.profile.mHi ≤ sc then
          { h with
            samples := 0, cold := 0, warm := 0, sc := h.profile.mLo, bias := bias, level := level
            out := ⟨false, row.pump, row.burner, row.air⟩ }
        else { h with samples := 0, cold := 0, warm := 0, sc := sc, bias := bias } }) ∧
    (h.seq ≠ .run ∨ h.samples < 10 → exec .controlPeriodEnd s = .next (fresh s)) ∧
    (h.seq = .run → 300 ≤ h.idle →
      exec .idleStop s = result
        (heaterPurging .wait .normal { h.keep with overheats := if 1800 ≤ h.sessionRun then 0 else h.keep.overheats } h) [] 3) ∧
    (h.seq ≠ .run ∨ h.idle < 300 → exec .idleStop s = .next (fresh s)) ∧
    ((h.seq = .ramp ∨ h.seq = .run) → 15 ≤ h.flameLow →
      let posted := [post 5 (u8 (heaterNumber h.seq) ++ tempField h.flame)]
      let k := { withFault .f4 h.keep with
        failures := min 3 (h.keep.failures + 1), lockout := h.keep.lockout || decide (3 ≤ h.keep.failures + 1) }
      exec .flameOut s =
        if h.restartUsed then result (heaterPurging (if k.lockout then .lockout else .off) .normal k h) posted 4
        else result { heaterPurging .preheat .normal h.keep h with restartUsed := true, attempts := 0 } posted 6) ∧
    ((h.seq ≠ .ramp ∧ h.seq ≠ .run) ∨ h.flameLow < 15 → exec .flameOut s = .next (fresh s))) ∧
  (∀ (r : HeaterReadings) (f : Int) (s : State), s.htr.startUpDue = false →
    let h := (heaterReads r s.htr).1
    let first := (heaterReads r s.htr).2
    let quiet := s.rcl.quiet
    let low := if f < h.profile.flamePresent then h.flameLow + r.dt else 0
    let seen := { h with flameLow := low, sessionRun := if h.seq = .run then h.sessionRun + r.dt else h.sessionRun }
    let sampled (c : Int) : Htr :=
      { seen with
        samples := seen.samples + 1
        cold := if c < h.profile.setpoint - h.profile.deadband then seen.cold + 1 else seen.cold
        warm := if h.profile.setpoint + h.profile.deadband < c then seen.warm + 1 else seen.warm }
    let counted : Htr := match h.cabin with
      | none => heaterCapped (capOf seen quiet) { seen with samples := 0, cold := 0, warm := 0 }
      | some c => if 10 ≤ (sampled c).samples then periodClosed (sampled c) quiet else sampled c
    let warmer := counted.level = 1 ∧ (h.cabin.any fun c => decide (h.profile.setpoint + 30 < c)) = true
    let idled := { counted with idle := if warmer then counted.idle + r.dt else 0 }
    let stopped := heaterPurging .wait .normal
      { idled.keep with overheats := if 1800 ≤ idled.sessionRun then 0 else idled.keep.overheats } idled
    BurnsWell s.chg.battery.vHard f h →
    ((h.seq = .ramp ∨ h.seq = .run) → 15 ≤ low →
      deliver (.htr (.measured r)) s = ({ s with htr := (flamedOut seen).1 }, first ++ (flamedOut seen).2)) ∧
    (h.seq = .ramp → low < 15 → deliver (.htr (.measured r)) s = ({ s with htr := seen }, first)) ∧
    (h.seq = .run → low < 15 → idled.idle < 300 →
      deliver (.htr (.measured r)) s = ({ s with htr := idled }, first)) ∧
    (h.seq = .run → low < 15 → 300 ≤ idled.idle →
      deliver (.htr (.measured r)) s = ({ s with htr := stopped }, first ++ heaterFollows idled stopped 3)))

/-- R66, R67, R75, R79: PURGE_MINIMUM_EXPIRY ends a NORMAL purge in its destination when FLAME is valid and below 60.0 °C, and
FIXED_PURGE_END ends a FIXED one after 300 s; PURGE_TIMEOUT after 300 s of a NORMAL purge is F7, the lockout flag and LOCKOUT;
FROST_RETRY_EXPIRY with the retry timer run out stops it and makes a frost start. Otherwise only the event counter advances.
The reason NONE at the end of a purge (log 13), HEATER_LOCKOUT posted before its alert is raised and HEATER_TABLE_APPLIED
before CHG is told (log 53), and expiries without effect (log 2) are the model's choice. R66, R67, R71: a measurement in PURGE,
after the frost test of R78 (`heaterReads`; log 15). An invalid OVERHEAT records F2 and makes the destination OFF unless it is
LOCKOUT; an invalid FLAME records F1 and turns the purge FIXED, bound for OFF instead of PREHEAT (log 28 for both); in a purge
of the start-up check a reading still STARTING does neither. Then (log 41) a NORMAL purge of at least 120 s with FLAME valid
and below 60.0 °C ends in its destination. Changed retained items go to STO. -/
def Obligations.HeaterPurgeEnds : Prop :=
  (∀ s : State,
    let h := s.htr
    let result (h' : Htr) (reason : Nat) := Host.Outcome.next (φ := Fault) (ρ := Refusal)
      (settle (heaterFollows h h' reason) { fresh s with htr := h' })
    let cool := ∃ f, h.flame = some f ∧ f < 600
    (h.seq = .purge ∧ h.purge.time = 120 ∧ h.purge.kind = .normal ∧ cool →
      exec .purgeMinimumExpiry s = result (heaterEnds h) 6) ∧
    (¬(h.seq = .purge ∧ h.purge.time = 120 ∧ h.purge.kind = .normal ∧ cool) →
      exec .purgeMinimumExpiry s = .next (fresh s)) ∧
    (h.seq = .purge ∧ h.purge.kind = .normal ∧ 300 ≤ h.purge.time →
      exec .purgeTimeout s = result
        { h with
          seq := .lockout, level := 0, timer := none, frostRetry := none, frostLimited := false, out := ⟨false, 0, 0, 0⟩
          keep := { withFault .f7 h.keep with lockout := true } } 4) ∧
    (¬(h.seq = .purge ∧ h.purge.kind = .normal ∧ 300 ≤ h.purge.time) → exec .purgeTimeout s = .next (fresh s)) ∧
    (h.seq = .purge ∧ h.purge.kind = .fixed ∧ 300 ≤ h.purge.time → exec .fixedPurgeEnd s = result (heaterEnds h) 6) ∧
    (¬(h.seq = .purge ∧ h.purge.kind = .fixed ∧ 300 ≤ h.purge.time) → exec .fixedPurgeEnd s = .next (fresh s)) ∧
    (h.frostRetry = some 0 →
      exec .frostRetryExpiry s = .next (settle [.htr .frostStart] { fresh s with htr := { h with frostRetry := none } })) ∧
    (h.frostRetry ≠ some 0 → exec .frostRetryExpiry s = .next (fresh s))) ∧
  (∀ (r : HeaterReadings) (s : State), s.htr.startUpDue = false → s.htr.seq = .purge →
    let h := (heaterReads r s.htr).1
    let first := (heaterReads r s.htr).2
    let hot : Htr :=
      if h.overheat = none ∧ ¬(h.purge.startUp = true ∧ r.overheatStarting = true) then
        { h with
          keep := withFault .f2 h.keep
          purge := { h.purge with dest := if h.purge.dest = .lockout then .lockout else .off } }
      else h
    let blind : Htr :=
      if h.flame = none ∧ ¬(h.purge.startUp = true ∧ r.flameStarting = true) then
        { hot with
          keep := withFault .f1 hot.keep
          purge := { hot.purge with kind := .fixed, dest := if hot.purge.dest = .preheat then .off else hot.purge.dest } }
      else hot
    let items : List Msg := if h.keep = blind.keep then [] else [.sto (.heater blind.keep)]
    let ends := blind.purge.kind = .normal ∧ 120 ≤ blind.purge.time ∧ ∃ f, blind.flame = some f ∧ f < 600
    (ends → deliver (.htr (.measured r)) s =
      ({ s with htr := heaterEnds blind }, first ++ items ++ heaterFollows blind (heaterEnds blind) 6)) ∧
    (¬ends → deliver (.htr (.measured r)) s = ({ s with htr := blind }, first ++ items)))

/-- R79: a frost start, taken in OFF or WAIT with the frost flag held and the start-up check done. Admitted, it sets the frost
start limit and enters PRECHECK with reason FROST (one whose check fails at once ends in OFF with reason FAULT and is tried
again at the next measurement, log 11); refused, it leaves OFF or goes there from WAIT, posts HEATER_STATE with reason
NO_BUDGET (from OFF to OFF the model's choice, log 13) and starts the 60 s retry timer. Neither entry to OFF makes a further
frost start. R44, R46: what DMD answers to a heater start with a duty and a start charge. With the floor CLEAR and IGN on it is
admitted, and so is an entry of class 0 outside CUTOFF; otherwise CUTOFF, and CRITICAL with IGN off, refuse it; otherwise it is
admitted when the Need at level 1, with the start charge, is at most A (0 before the first) less the Needs of the other class-0
entries. R83: the start-up check, at the first measurement after a reset, stands alone (log 15). With the first FLAME sample in
range and below the flame-present threshold it is done, LOCKOUT being posted and then its alert raised (the order is the
model's, log 53); at or above it HTR purges, NORMAL, and out of range FIXED with F1, bound for LOCKOUT with the lockout flag
set and for OFF otherwise. The reasons NONE and FAULT of that purge are the model's choice (log 13). R68, R78, R79: a
measurement in OFF, LOCKOUT and WAIT after the frost test (`heaterReads`; log 15). OFF and LOCKOUT stay, a frost start put off
to it being made in OFF (log 11). In WAIT a held frost flag makes a frost start; otherwise CABIN invalid or below setpoint -
1.5 K makes a start with reason THERMOSTAT, asked with the class DMD holds (log 39): admitted it enters PRECHECK, ending in OFF
with the fault of a check that fails at once, refused it goes to OFF with reason NO_BUDGET. HEATER_TABLE_APPLIED of a table
adopted at a change to OFF is posted before CHG is told (`heaterChanges`, log 53). -/
def Obligations.FrostStartIsAdmittedOrRetried : Prop :=
  (∀ s : State,
    let h := s.htr
    let h' := heaterStarted { h with frostLimited := true }
    let failed (f : HeaterFault) := { heaterOff (withFault f h'.keep) h' with frostDeferred := true }
    let refused := { heaterOff h.keep h with frostRetry := some 60 }
    let admitted := admits s.dmd s 1000 h.profile.startCharge = true
    (h.frostFlag = true ∧ h.startUpDue = false ∧ (h.seq = .off ∨ h.seq = .wait) →
      (admitted → startFault h' = none →
        deliver (.htr .frostStart) s = ({ s with htr := h' }, heaterFollows h h' 2)) ∧
      (∀ f, admitted → startFault h' = some f →
        deliver (.htr .frostStart) s =
          ({ s with htr := failed f }, heaterFollows h h' 2 ++ heaterChanges h' (failed f) 4)) ∧
      (¬admitted → h.seq = .off →
        deliver (.htr .frostStart) s = ({ s with htr := { h with frostRetry := some 60 } },
          [post 7 (u8 0 ++ u8 0 ++ u8 (faultCode h.keep.fault) ++ u8 5)])) ∧
      (¬admitted → h.seq = .wait →
        deliver (.htr .frostStart) s = ({ s with htr := refused }, heaterChanges h refused 5))) ∧
    (¬(h.frostFlag = true ∧ h.startUpDue = false ∧ (h.seq = .off ∨ h.seq = .wait)) → deliver (.htr .frostStart) s = (s, []))) ∧
  (∀ (duty startCharge : Nat) (e : Entry) (s : State), s.dmd.entries[1]? = some (some e) →
    let d := s.dmd
    let h := horizonNow d s
    let b := d.a.getD 0 - essentialSum ((budgetOrder d).filter fun p => p.1 != 1) h
    let charge := ((e.currents.getD 0 0).toNat * duty * h + 359999) / 360000 + startCharge
    admits d s duty startCharge =
      if d.floor = .clear ∧ d.ign = true then true
      else if e.cls = 0 ∧ d.floor ≠ .cutoff then true
      else if d.floor = .cutoff then false
      else if d.floor = .critical ∧ d.ign = false then false
      else decide (charge ≤ b)) ∧
  (∀ (r : HeaterReadings) (s : State), s.htr.startUpDue = true →
    let h := { s.htr with
      flame := r.flame, overheat := r.overheat, cabin := r.cabin, volts := some r.volts, frostDeferred := false, startUpDue := false }
    let dest : PurgeDest := if h.keep.lockout then .lockout else .off
    let purging (kind : PurgeKind) (k : Retained) : Htr := { heaterPurging dest kind k h with purge := ⟨dest, kind, 0, true⟩ }
    let result (h' : Htr) (reason : Nat) := (({ s with htr := h' } : State), heaterFollows h h' reason)
    (∀ f, r.flameSample = some f → f < h.profile.flamePresent →
      deliver (.htr (.measured r)) s = ({ s with htr := h },
        if h.seq = .lockout then
          [post 3 (u8 (faultCode h.keep.fault) ++ u8 h.keep.failures ++ u8 h.keep.overheats), .alr (.condition 1 true)]
        else [])) ∧
    (∀ f, r.flameSample = some f → h.profile.flamePresent ≤ f →
      deliver (.htr (.measured r)) s = result (purging .normal h.keep) 6) ∧
    (r.flameSample = none → deliver (.htr (.measured r)) s = result (purging .fixed (withFault .f1 h.keep)) 4)) ∧
  (∀ (r : HeaterReadings) (s : State), s.htr.startUpDue = false →
    let h := (heaterReads r s.htr).1
    let first := (heaterReads r s.htr).2
    let started := heaterStarted h
    let off := heaterOff h.keep h
    let failed (f : HeaterFault) := heaterOff (withFault f started.keep) started
    let cold := (h.cabin.all fun c => decide (c < h.profile.setpoint - 15)) = true
    let admitted := admits s.dmd s 1000 h.profile.startCharge = true
    (h.seq = .off → deliver (.htr (.measured r)) s =
      ({ s with htr := h }, first ++ if s.htr.frostDeferred = true ∧ h.frostFlag = true then [.htr .frostStart] else [])) ∧
    (h.seq = .lockout → deliver (.htr (.measured r)) s = ({ s with htr := h }, first)) ∧
    (h.seq = .wait → h.frostFlag = true →
      deliver (.htr (.measured r)) s = ({ s with htr := h }, first ++ [.htr .frostStart])) ∧
    (h.seq = .wait → h.frostFlag = false →
      (¬cold → deliver (.htr (.measured r)) s = ({ s with htr := h }, first)) ∧
      (cold → admitted → startFault started = none →
        deliver (.htr (.measured r)) s = ({ s with htr := started }, first ++ heaterFollows h started 3)) ∧
      (∀ f, cold → admitted → startFault started = some f →
        deliver (.htr (.measured r)) s =
          ({ s with htr := failed f }, first ++ heaterFollows h started 3 ++ heaterFollows started (failed f) 4)) ∧
      (cold → ¬admitted →
        deliver (.htr (.measured r)) s = ({ s with htr := off }, first ++ heaterFollows h off 5))))

/-- R54, R55, R57: HEAT_START by the sequencer state. In OFF, once the start-up check is done, an admitted start is answered
ACCEPTED and enters PRECHECK, ending in OFF again with the fault of a check that fails at once; a refused one is answered
NO_BUDGET. A session that is on, or a purge bound for PREHEAT or WAIT, is answered OK, anything else STATE, with no change.
R69, R74, R79: HEAT_STOP is answered OK in every state. PRECHECK, PREHEAT and WAIT go to OFF, IGNITE, RAMP and RUN to a NORMAL
purge bound for OFF, and a purge bound for PREHEAT or WAIT is bound for OFF; each clears the overheat count after 1,800 s of
the session. The frost start limit ends, with a demand update when that moves the effective max level of a state that stays.
R56, R69: the schedule's actions at HTR. PREHEAT_START applies its setpoint, held within 5.0..30.0 °C, and is then taken as
HEAT_START with reason SCHEDULE: ACCEPTED and OK accept the action, STATE and NO_BUDGET refuse it. HEAT_STOP is taken as the
request with reason SCHEDULE and is accepted. The answer goes to SCH last (log 54). HEATER_TABLE_APPLIED of a table adopted at
a change to OFF is posted before CHG is told (`heaterChanges`, log 53). -/
def Obligations.HeatStartAndStopFollowTheState : Prop :=
  (∀ (tag : Byte) (s : State), HasSlot s →
    let h := s.htr
    let u := dispatched 0x83#8 tag s
    let h' := heaterStarted h
    let admitted := admits s.dmd u 1000 h.profile.startCharge = true
    (h.seq = .off → h.startUpDue = false → admitted → startFault h' = none →
      exec (.heatStart tag) s = .next (finish (heaterFollows h h' 0) (answered 0x83#8 tag 1 [] { u with htr := h' }))) ∧
    (∀ f, h.seq = .off → h.startUpDue = false → admitted → startFault h' = some f →
      let h'' := heaterOff (withFault f h'.keep) h'
      exec (.heatStart tag) s =
        .next (finish (heaterFollows h h' 0 ++ heaterFollows h' h'' 4) (answered 0x83#8 tag 1 [] { u with htr := h'' }))) ∧
    (h.seq = .off → h.startUpDue = false → ¬admitted →
      exec (.heatStart tag) s = .next (finish [] (answered 0x83#8 tag 8 [] u))) ∧
    ((h.seq = .off ∧ h.startUpDue = true) ∨ h.seq = .lockout ∨
        (h.seq = .purge ∧ (h.purge.dest = .off ∨ h.purge.dest = .lockout)) →
      exec (.heatStart tag) s = .next (finish [] (answered 0x83#8 tag 4 [] u))) ∧
    ((h.seq = .precheck ∨ h.seq = .preheat ∨ h.seq = .ignite ∨ h.seq = .ramp ∨ h.seq = .run ∨ h.seq = .wait ∨
        (h.seq = .purge ∧ (h.purge.dest = .preheat ∨ h.purge.dest = .wait))) →
      exec (.heatStart tag) s = .next (finish [] (answered 0x83#8 tag 0 [] u)))) ∧
  (∀ (tag : Byte) (s : State), HasSlot s →
    let u := dispatched 0x84#8 tag s
    let h := { s.htr with frostLimited := false }
    let k := { s.htr.keep with overheats := if 1800 ≤ s.htr.sessionRun then 0 else s.htr.keep.overheats }
    let result (h' : Htr) (ms : List Msg) := Host.Outcome.next (φ := Fault) (ρ := Refusal)
      (finish ms (answered 0x84#8 tag 0 [] { u with htr := h' }))
    let update := if s.htr.frostLimited = true ∧ s.htr.profile.maxLevel ≠ 1 then [heaterPosts h] else []
    ((h.seq = .precheck ∨ h.seq = .preheat ∨ h.seq = .wait) →
      exec (.heatStop tag) s = result (heaterOff k h) (heaterFollows h (heaterOff k h) 0)) ∧
    ((h.seq = .ignite ∨ h.seq = .ramp ∨ h.seq = .run) →
      exec (.heatStop tag) s =
        result (heaterPurging .off .normal k h) (heaterFollows h (heaterPurging .off .normal k h) 0)) ∧
    (h.seq = .purge → (h.purge.dest = .preheat ∨ h.purge.dest = .wait) →
      exec (.heatStop tag) s =
        result { h with keep := k, purge := { h.purge with dest := .off } }
          (update ++ if h.keep = k then [] else [.sto (.heater k)])) ∧
    ((h.seq = .off ∨ h.seq = .lockout ∨ (h.seq = .purge ∧ (h.purge.dest = .off ∨ h.purge.dest = .lockout))) →
      exec (.heatStop tag) s = result h update)) ∧
  (∀ (param : Option Int) (s : State),
    let h : Htr := match param with
      | none => s.htr
      | some x => { s.htr with profile := { s.htr.profile with setpoint := if x < 50 then 50 else if 300 < x then 300 else x } }
    let started := heaterStarted h
    let failed (f : HeaterFault) := heaterOff (withFault f started.keep) started
    let admitted := admits s.dmd s 1000 h.profile.startCharge = true
    let result (h' : Htr) (ms : List Msg) (refused : Option Refuse) :=
      (({ s with htr := h' } : State), ms ++ [.sch (.answer refused)])
    let g : Htr := { s.htr with frostLimited := false }
    let k : Retained := { g.keep with overheats := if 1800 ≤ g.sessionRun then 0 else g.keep.overheats }
    let update : List Msg := if s.htr.frostLimited = true ∧ g.profile.maxLevel ≠ 1 then [heaterPosts g] else []
    (h.seq = .off → h.startUpDue = false →
      (admitted → startFault started = none →
        deliver (.htr (.act .preheatStart param)) s = result started (heaterFollows h started 1) none) ∧
      (∀ f, admitted → startFault started = some f →
        deliver (.htr (.act .preheatStart param)) s =
          result (failed f) (heaterFollows h started 1 ++ heaterFollows started (failed f) 4) none) ∧
      (¬admitted → deliver (.htr (.act .preheatStart param)) s = result h [] (some .noBudget))) ∧
    ((h.seq = .off ∧ h.startUpDue = true) ∨ h.seq = .lockout ∨
        (h.seq = .purge ∧ (h.purge.dest = .off ∨ h.purge.dest = .lockout)) →
      deliver (.htr (.act .preheatStart param)) s = result h [] (some .state)) ∧
    ((h.seq = .precheck ∨ h.seq = .preheat ∨ h.seq = .ignite ∨ h.seq = .ramp ∨ h.seq = .run ∨ h.seq = .wait ∨
        (h.seq = .purge ∧ (h.purge.dest = .preheat ∨ h.purge.dest = .wait))) →
      deliver (.htr (.act .preheatStart param)) s = result h [] none) ∧
    ((g.seq = .precheck ∨ g.seq = .preheat ∨ g.seq = .wait) →
      deliver (.htr (.act .heatStop param)) s = result (heaterOff k g) (heaterFollows g (heaterOff k g) 1) none) ∧
    ((g.seq = .ignite ∨ g.seq = .ramp ∨ g.seq = .run) →
      deliver (.htr (.act .heatStop param)) s =
        result (heaterPurging .off .normal k g) (heaterFollows g (heaterPurging .off .normal k g) 1) none) ∧
    (g.seq = .purge → (g.purge.dest = .preheat ∨ g.purge.dest = .wait) →
      deliver (.htr (.act .heatStop param)) s =
        result { g with keep := k, purge := { g.purge with dest := .off } }
          (update ++ if g.keep = k then [] else [.sto (.heater k)]) none) ∧
    ((g.seq = .off ∨ g.seq = .lockout ∨ (g.seq = .purge ∧ (g.purge.dest = .off ∨ g.purge.dest = .lockout))) →
      deliver (.htr (.act .heatStop param)) s = result g update none))

/-- R80, R61, R78: HEAT_SET. A frost guard value that is neither 0 nor 1, or M_lo and M_hi out of their relation, is answered
RANGE with nothing applied. Otherwise every setting is applied, clamped to its range, SC is held to M_hi and the cap applied;
the reply is OK, or CLAMPED with the applied profile. A changed effective max level is posted to DMD, and a guard disabled with
the flag held releases it: FROST_GUARD (cause 30) and the demand follow. R70, R75, R76: HEAT_TABLE and HEAT_CLEAR_LOCKOUT. The
read form carries the active table and the pending flag. A write out of range, or with a pump rate or a current below the level
before, is answered RANGE; one taken in OFF, WAIT or LOCKOUT is active at once with HEATER_TABLE_APPLIED and the demand,
elsewhere it waits. In LOCKOUT the clearing request sets everything retained back and goes to OFF; in a purge bound for LOCKOUT
it is answered STATE; elsewhere it clears the two counts (R75) and the fault code (R70 without limit, log 49). The model's
choice: FROST_GUARD and HEATER_TABLE_APPLIED are posted before the demand, and a table adopted with that change to OFF before
CHG is told (log 53); an invalid CABIN is sent as -32,768 in FROST_GUARD (log 46); the change to OFF has the reason NONE (log
13); the frost start that it makes with the frost flag held comes last (log 12). -/
def Obligations.HeaterSettingsTableAndLockout : Prop :=
  (∀ (tag : Byte) (x : HeatArgs) (s : State), HasSlot s →
    let u := dispatched 0x85#8 tag s
    let between (lo hi v : Int) : Int := if v < lo then lo else if hi < v then hi else v
    let betweenNat (lo hi v : Nat) : Nat := if v < lo then lo else if hi < v then hi else v
    let p : HeatProfile :=
      { setpoint := between 50 300 x.setpoint, deadband := between 2 20 x.deadband, maxLevel := betweenNat 1 4 x.maxLevel
        quietCap := betweenNat 1 4 x.quietCap, frostGuard := decide (x.frostGuard = 1)
        frostLimit := between 20 100 x.frostLimit, flamePresent := between 700 2000 x.flamePresent
        vHeat := betweenNat 22000 28000 x.vHeat, startCharge := betweenNat 0 2000 x.startCharge, mLo := x.mLo, mHi := x.mHi }
    let ok := x.frostGuard ≤ 1 ∧ x.mLo < x.mHi ∧ x.mHi ≤ 255
    let exact := p.setpoint = x.setpoint ∧ p.deadband = x.deadband ∧ p.maxLevel = x.maxLevel ∧ p.quietCap = x.quietCap ∧
      p.frostLimit = x.frostLimit ∧ p.flamePresent = x.flamePresent ∧ p.vHeat = x.vHeat ∧ p.startCharge = x.startCharge
    let status := if exact then 0 else 2
    let body := if exact then [] else
      s16 p.setpoint ++ s16 p.deadband ++ u8 p.maxLevel ++ u8 p.quietCap ++ flagByte p.frostGuard ++ s16 p.frostLimit ++
        s16 p.flamePresent ++ u16 p.vHeat ++ u32 p.startCharge ++ u8 p.mLo ++ u8 p.mHi
    let h := { s.htr with profile := p, sc := min s.htr.sc x.mHi }
    let release := x.frostGuard = 0 ∧ s.htr.frostFlag = true
    let freed := { h with frostFlag := false, frostLimited := false, frostRetry := none, frostDeferred := false }
    let capped (g : Htr) := heaterCapped (capOf g s.rcl.quiet) g
    let oldMax := if s.htr.frostLimited then 1 else s.htr.profile.maxLevel
    let newMax := if s.htr.frostLimited then 1 else p.maxLevel
    (¬ok → exec (.heatSet tag x) s = .next (finish [] (answered 0x85#8 tag 3 [] u))) ∧
    (ok → ¬release → exec (.heatSet tag x) s =
      .next (finish (if oldMax = newMax then [] else [heaterPosts (capped h)])
        (answered 0x85#8 tag status body { u with htr := capped h }))) ∧
    (ok → release → exec (.heatSet tag x) s =
      .next (finish [post 30 (u8 0 ++ tempField h.cabin), heaterPosts freed]
        (answered 0x85#8 tag status body { u with htr := capped freed })))) ∧
  (∀ (tag : Byte) (t : List LevelRow) (s : State), HasSlot s →
    let h := s.htr
    let u := dispatched 0x9C#8 tag s
    let ok := t.length = 4 ∧ (∀ r ∈ t, 50 ≤ r.pump ∧ r.pump ≤ 600 ∧ 200 ≤ r.burner ∧ r.burner ≤ 1000 ∧ 200 ≤ r.air ∧
      r.air ≤ 1000 ∧ 20 ≤ r.current ∧ r.current ≤ 1000) ∧
      ∀ i, i + 1 < t.length → (t.getD i ⟨0, 0, 0, 0⟩).pump ≤ (t.getD (i + 1) ⟨0, 0, 0, 0⟩).pump ∧
        (t.getD i ⟨0, 0, 0, 0⟩).current ≤ (t.getD (i + 1) ⟨0, 0, 0, 0⟩).current
    exec (.heatTableRead tag) s = .next (finish [] (answered 0x9C#8 tag 0
      (h.table.flatMap (fun r => u16 r.pump ++ u16 r.burner ++ u16 r.air ++ s16 r.current) ++
        (if h.pendingTable = none then u8 0 else u8 1)) u)) ∧
    (¬ok → exec (.heatTableWrite tag t) s = .next (finish [] (answered 0x9C#8 tag 3 [] u))) ∧
    (ok → (h.seq = .off ∨ h.seq = .wait ∨ h.seq = .lockout) →
      let h' := { h with table := t, pendingTable := none }
      exec (.heatTableWrite tag t) s =
        .next (finish [post 31 [], heaterPosts h'] (answered 0x9C#8 tag 0 [] { u with htr := h' }))) ∧
    (ok → ¬(h.seq = .off ∨ h.seq = .wait ∨ h.seq = .lockout) →
      exec (.heatTableWrite tag t) s =
        .next (finish [] (answered 0x9C#8 tag 0 [] { u with htr := { h with pendingTable := some t } }))) ∧
    (s.lnk.service = true →
      let u := dispatched 0xB0#8 tag s
      let off := heaterOff ⟨false, 0, 0, none⟩ h
      let k := { h.keep with failures := 0, overheats := 0, fault := none }
      (h.seq = .lockout →
        exec (.heatClearLockout tag) s =
          .next (finish (heaterFollows h off 6) (answered 0xB0#8 tag 0 [] { u with htr := off }))) ∧
      (h.seq = .purge → h.purge.dest = .lockout →
        exec (.heatClearLockout tag) s = .next (finish [] (answered 0xB0#8 tag 4 [] u))) ∧
      (h.seq ≠ .lockout → ¬(h.seq = .purge ∧ h.purge.dest = .lockout) →
        exec (.heatClearLockout tag) s =
          .next (finish (if h.keep = k then [] else [.sto (.heater k)])
            (answered 0xB0#8 tag 0 [] { u with htr := { h with keep := k } })))))

/-- R71, R72, R70, R74: a measurement handed to HTR in IGNITE, RAMP or RUN, the start-up check done, after the frost test of
R78 (`heaterReads`; log 15 for the order). FLAME invalid is F1 and then OVERHEAT invalid F2, both a FIXED purge bound for OFF;
OVERHEAT above 120.0 °C is F5, posted and counted, the second bound for LOCKOUT; V below V_hard is F6, a NORMAL purge bound for
OFF. R61, R73: a grant delivered to HTR. A grant of 0 ends PRECHECK and PREHEAT in OFF and IGNITE, RAMP and RUN in a NORMAL
purge bound for OFF, with F8; a grant of 1 or more lowers the level in RUN to the cap; elsewhere only the grant is held.
HEATER_OVERHEAT is posted before the rest of its event, and HEATER_TABLE_APPLIED of a table adopted at a change to OFF before
CHG is told (log 53). R61: a change of the quiet flag, told to HTR. In RUN the level falls to the cap that the flag gives, or
is min(2, cap) with CABIN invalid; elsewhere nothing changes. -/
def Obligations.BurningFaultsAndGrantsStopTheHeater : Prop :=
  (∀ (r : HeaterReadings) (s : State), s.htr.startUpDue = false →
    (s.htr.seq = .ignite ∨ s.htr.seq = .ramp ∨ s.htr.seq = .run) →
    let tested := heaterReads r s.htr
    let h := { tested.1 with
      sessionRun := if s.htr.seq = .run then s.htr.sessionRun + r.dt else s.htr.sessionRun }
    let result (h' : Htr) (posted : List Msg) :=
      (({ s with htr := h' } : State), tested.2 ++ posted ++ heaterFollows h h' 4)
    (r.flame = none →
      deliver (.htr (.measured r)) s = result (heaterPurging .off .fixed (withFault .f1 h.keep) h) []) ∧
    (r.flame ≠ none → r.overheat = none →
      deliver (.htr (.measured r)) s = result (heaterPurging .off .fixed (withFault .f2 h.keep) h) []) ∧
    (∀ o, r.flame ≠ none → r.overheat = some o → 1200 < o →
      let k := { withFault .f5 h.keep with
        overheats := min 2 (h.keep.overheats + 1), lockout := h.keep.lockout || decide (2 ≤ h.keep.overheats + 1) }
      deliver (.htr (.measured r)) s =
        result (heaterPurging (if k.lockout then .lockout else .off) .normal k h) [post 4 (s16 o)]) ∧
    (∀ o, r.flame ≠ none → r.overheat = some o → o ≤ 1200 → r.volts < s.chg.battery.vHard →
      deliver (.htr (.measured r)) s = result (heaterPurging .off .normal (withFault .f6 h.keep) h) [])) ∧
  (∀ (level : Nat) (b : Budget) (s : State),
    let h := { s.htr with grant := some level }
    let k := withFault .f8 h.keep
    (level = 0 → (h.seq = .precheck ∨ h.seq = .preheat) →
      deliver (.htr (.grant level b)) s = ({ s with htr := heaterOff k h }, heaterFollows h (heaterOff k h) 4)) ∧
    (level = 0 → (h.seq = .ignite ∨ h.seq = .ramp ∨ h.seq = .run) →
      deliver (.htr (.grant level b)) s =
        ({ s with htr := heaterPurging .off .normal k h }, heaterFollows h (heaterPurging .off .normal k h) 4)) ∧
    (level = 0 → (h.seq = .off ∨ h.seq = .wait ∨ h.seq = .lockout ∨ h.seq = .purge) →
      deliver (.htr (.grant level b)) s = ({ s with htr := h }, [])) ∧
    (1 ≤ level → deliver (.htr (.grant level b)) s = ({ s with htr := heaterCapped (capOf h s.rcl.quiet) h }, []))) ∧
  (∀ s : State,
    deliver (.htr .quiet) s = ({ s with htr := heaterCapped (capOf s.htr s.rcl.quiet) s.htr }, []))

/-- R88, R89, R91, R92, R97: the cooler's timers, each run out. The min-on timer lets a stop that waits take place: a grant of
0, cooling disabled or no call stops the run and the cooler settles, and a quiet run that is due pauses. The min-off, pause,
backoff and blind off timers let a cooler at rest settle anew; in every state the min-on, min-off and blind off timers are
stopped and the event closes (`coolerEnds`). A grant of 0 taken before a quiet run's end, the reasons TIMER and QUIET, and a
min-off timer that has run out with the pause counting as expired are the model's choice (log 14). Otherwise only the event
counter advances. R87, R90: a grant delivered to CLR is held with the budget state it carries. In RUNNING a grant of 0 in
CUTOFF stops the compressor at once, whatever the min-on timer, and any other grant drives the speed of R87, which is 1 while a
grant of 0 waits for the min-on timer, and closes the event. In PAUSE a grant of 0 gives SHED, and the pause runs on under any
other. A resting cooler settles, and in BACKOFF, DISABLED and FAULTED the grant is only recorded. That SHED entered from PAUSE
has the reason of the grant (log 14), that COOLER_STATE carries the driven speed (log 55), the -32,768 that reports send for an
invalid CABINET (log 46), and the order of R100's table at a change other than a stop (log 57), are the model's choice. R86,
R87, R91, R95: a change of the quiet flag, told to CLR, drives the speed and the demand anew, and closes the event; its
clearing ends the pre-chill and a pause. The close of the rest record ends the pre-chill. -/
def Obligations.CoolerTimersSettleTheState : Prop :=
  (∀ s : State,
    let c := s.clr
    let q := s.rcl.quiet
    let rest := c.state = .idle ∨ c.state = .waitOff ∨ c.state = .shed
    let shed := c.grant.any (fun g => g.1 == 0) = true
    let quietDue := q = true ∧ c.settings.enable = true ∧ c.settings.qRun ≤ c.runTime
    let stopping := shed ∨ c.settings.enable = false ∨ coolerCalls c = false
    let run := { c with minOn := none, stalls := if 300 ≤ c.runTime then 0 else c.stalls }
    (c.minOn = some 0 → c.state = .running →
      (shed ∨ (¬quietDue ∧ stopping) →
        exec .minOnExpiry s = .next (coolerNext (fresh s) (coolerSettled { coolerStopped run with state := .idle } q) 5)) ∧
      (¬shed → quietDue →
        exec .minOnExpiry s = .next (coolerNext (fresh s)
          { coolerStopped run with state := .pause, pause := some (max c.settings.qPause 180) } 3)) ∧
      (¬quietDue → ¬stopping → exec .minOnExpiry s = .next (coolerNext (fresh s) run 5))) ∧
    (c.minOff = some 0 → rest →
      exec .minOffExpiry s = .next (coolerNext (fresh s) (coolerSettled { c with minOff := none } q) 5)) ∧
    (c.pause = some 0 → c.state = .pause →
      exec .pauseExpiry s = .next (coolerNext (fresh s) (coolerSettled
        { c with pause := none, state := .idle, minOff := if c.minOff = some 0 then none else c.minOff } q) 3)) ∧
    (c.backoff = some 0 → c.state = .backoff →
      exec .backoffExpiry s = .next (coolerNext (fresh s) (coolerSettled { c with backoff := none, state := .idle } q) 5)) ∧
    (c.blindOff = some 0 → rest →
      exec .blindOffExpiry s = .next (coolerNext (fresh s) (coolerSettled { c with blindOff := none } q) 5)) ∧
    (c.minOn = some 0 → exec .minOnExpiry s = .next (coolerEnds (fresh s) { c with minOn := none } 5)) ∧
    (c.minOff = some 0 → exec .minOffExpiry s = .next (coolerEnds (fresh s) { c with minOff := none } 5)) ∧
    (c.blindOff = some 0 → exec .blindOffExpiry s = .next (coolerEnds (fresh s) { c with blindOff := none } 5)) ∧
    (c.minOn ≠ some 0 → exec .minOnExpiry s = .next (fresh s)) ∧
    (c.minOff ≠ some 0 → exec .minOffExpiry s = .next (fresh s)) ∧
    (¬(c.pause = some 0 ∧ c.state = .pause) → exec .pauseExpiry s = .next (fresh s)) ∧
    (¬(c.backoff = some 0 ∧ c.state = .backoff) → exec .backoffExpiry s = .next (fresh s)) ∧
    (c.blindOff ≠ some 0 → exec .blindOffExpiry s = .next (fresh s))) ∧
  (∀ (level : Nat) (budget : Budget) (s : State),
    let c := s.clr
    let q := s.rcl.quiet
    let held := { c with grant := some (level, budget) }
    let run := { held with stalls := if 300 ≤ c.runTime then 0 else c.stalls }
    let reason := if level = 0 ∧ budget = .cutoff then 2 else 1
    let changed (c' : Clr) (reason : Nat) : State × List Msg :=
      ({ s with clr := (coolerChanged s c c' reason).1 }, (coolerChanged s c c' reason).2)
    let driven := { held with speed := max 1 (min (coolerWish c q) level) }
    (c.state = .running → level = 0 → budget = .cutoff →
      deliver (.clr (.grant level budget)) s =
        changed (coolerSettled { coolerStopped run with state := .idle } q) 2) ∧
    (c.state = .running → ¬(level = 0 ∧ budget = .cutoff) →
      deliver (.clr (.grant level budget)) s =
        changed (coolerClosed driven q 1).1 (coolerClosed driven q 1).2) ∧
    (c.state = .pause → level = 0 →
      deliver (.clr (.grant level budget)) s = changed { held with state := .shed, pause := none } reason) ∧
    (c.state = .pause → 1 ≤ level → deliver (.clr (.grant level budget)) s = ({ s with clr := held }, [])) ∧
    ((c.state = .idle ∨ c.state = .waitOff ∨ c.state = .shed) →
      deliver (.clr (.grant level budget)) s = changed (coolerSettled held q) reason) ∧
    ((c.state = .backoff ∨ c.state = .disabled ∨ c.state = .faulted) →
      deliver (.clr (.grant level budget)) s = changed held reason)) ∧
  (∀ (flag : Bool) (s : State),
    let c := s.clr
    let q := s.rcl.quiet
    let told := { c with prechill := if flag then c.prechill else false }
    let changed (c' : Clr) (reason : Nat) : State × List Msg :=
      ({ s with clr := (coolerChanged s c c' reason).1 }, (coolerChanged s c c' reason).2)
    let driven := { told with speed := max 1 (min (coolerWish c q) ((c.grant.map Prod.fst).getD 0)) }
    (c.state = .running →
      deliver (.clr (.quiet flag)) s = changed (coolerClosed driven q 3).1 (coolerClosed driven q 3).2) ∧
    (c.state = .pause → flag = false →
      deliver (.clr (.quiet flag)) s = changed (coolerSettled { told with pause := none, state := .idle } q) 3) ∧
    ((c.state = .idle ∨ c.state = .waitOff ∨ c.state = .shed) →
      deliver (.clr (.quiet flag)) s = changed (coolerSettled told q) 3) ∧
    ((c.state = .pause ∧ flag = true) ∨ c.state = .backoff ∨ c.state = .disabled ∨ c.state = .faulted →
      deliver (.clr (.quiet flag)) s = changed told 3) ∧
    deliver (.clr .restClosed) s = ({ s with clr := { c with prechill := false } }, []))

/-- R91, R93, R94, R96, R97: QUIET_RUN_END pauses a quiet run of Q_run, unless a grant of 0 stops it first; STALL_COUNT_CLEAR
clears the count in a run of 300 s; BLIND_RUN_END stops a blind run of 600 s whose min-on time is over; MINUTE_TIMER_EXPIRY
takes the minute's seconds into the ring of 60, the duty being 500 permille until 15 are filled; WARM_CONDITION_RAISED raises
the condition after 1,800 s of warm time, a row of its own beside the measurement (log 4). BLIND_RUN_END and
MINUTE_TIMER_EXPIRY close their event in every state (`coolerEnds`). The reasons THERMOSTAT for a blind run and TIMER for the
minute, and the grant of 0 taken first, are the model's choice (log 14). Otherwise only the event counter advances. R85, R96,
R97: a measurement at CLR. With blind mode off a valid CABINET moves the call by the band around the effective setpoint; an
invalid one begins blind mode, and a valid one ends it, with the call at or above the effective setpoint: such a change
recomputes the speed and posts COOLER_STATE with reason BLIND and the driven speed (log 55), and a quiet run that is due posts
one of its own (log 14). A rise of the call wakes CHG first. Then the warm watch: dt more above setpoint + 8.0 K raises the
condition at 1,800 s, and a reading down to setpoint + band / 2 clears it. R92, R93: COMP_FAULT. Asserted in RUNNING it is a
stall: the compressor stops, the stall is counted, the fifth in a row is FAULTED and the others wait 60 s in BACKOFF; in other
states the level is only held. The level held already is no change (log 24). An invalid CABINET in COOLER_FAULT and COOLER_WARM
is sent as -32,768 (log 46), and a change other than a stop is handed on in the order of R100's table (log 57), both the
model's choice. -/
def Obligations.CoolerMarksAndFaults : Prop :=
  (∀ s : State,
    let c := s.clr
    let q := s.rcl.quiet
    let shed := c.grant.any (fun g => g.1 == 0) = true
    let quietDue := q = true ∧ c.state = .running ∧ c.settings.enable = true ∧ c.settings.qRun ≤ c.runTime
    let run := { c with stalls := if 300 ≤ c.runTime then 0 else c.stalls }
    let blindDue := c.blind = true ∧ c.state = .running ∧ 600 ≤ c.runTime
    let ring := (if c.ring.length < 60 then c.ring else c.ring.drop 1) ++ [c.secondsOn]
    let minute := { c with
      ring := ring, secondsOn := 0, minute := 60
      duty := if ring.length < 15 then 500 else ring.sum * 1000 / (ring.length * 60) }
    (quietDue → ¬(shed ∧ c.minOn = none) →
      exec .quietRunEnd s = .next (coolerNext (fresh s)
        { coolerStopped run with state := .pause, pause := some (max c.settings.qPause 180) } 3)) ∧
    (quietDue → shed → c.minOn = none →
      exec .quietRunEnd s =
        .next (coolerNext (fresh s) (coolerSettled { coolerStopped run with state := .idle } q) 3)) ∧
    (¬quietDue → exec .quietRunEnd s = .next (fresh s)) ∧
    (c.state = .running → 300 ≤ c.runTime →
      exec .stallCountClear s = .next { fresh s with clr := { c with stalls := 0 } }) ∧
    (c.state ≠ .running ∨ c.runTime < 300 → exec .stallCountClear s = .next (fresh s)) ∧
    (blindDue → ¬quietDue → c.minOn = none →
      exec .blindRunEnd s =
        .next (coolerNext (fresh s) (coolerSettled { coolerStopped run with state := .idle } q) 0)) ∧
    (blindDue → exec .blindRunEnd s = .next (coolerEnds (fresh s) c 0)) ∧
    (¬blindDue → exec .blindRunEnd s = .next (fresh s)) ∧
    (c.minute = 0 → c.state ≠ .running → c.state ≠ .idle → c.state ≠ .waitOff → c.state ≠ .shed →
      exec .minuteTimerExpiry s = .next (coolerNext (fresh s) minute 5)) ∧
    (c.minute = 0 → (c.state = .idle ∨ c.state = .waitOff ∨ c.state = .shed) →
      exec .minuteTimerExpiry s = .next (coolerNext (fresh s) (coolerSettled minute q) 5)) ∧
    (c.minute = 0 → c.state = .running → ¬quietDue → ¬shed → c.settings.enable = true → coolerCalls c = true →
      exec .minuteTimerExpiry s =
        .next (coolerNext (fresh s) { minute with stalls := if 300 ≤ c.runTime then 0 else c.stalls } 5)) ∧
    (c.minute = 0 → exec .minuteTimerExpiry s = .next (coolerEnds (fresh s) minute 5)) ∧
    (c.minute ≠ 0 → exec .minuteTimerExpiry s = .next (fresh s)) ∧
    (1800 ≤ c.warmTime → c.warm = false → c.state ≠ .disabled →
      exec .warmConditionRaised s = .next (settle
        [.alr (.condition 3 true), post 10 (u8 1 ++ tempField (s.chg.temp 2))]
        { fresh s with clr := { c with warm := true } })) ∧
    (c.warmTime < 1800 ∨ c.warm = true ∨ c.state = .disabled → exec .warmConditionRaised s = .next (fresh s))) ∧
  (∀ (dt : Nat) (cabinet : Option Int) (s : State),
    let c := s.clr
    let q := s.rcl.quiet
    let setpoint := c.settings.setpoint
    let effective := if c.prechill then setpoint - c.settings.offset else setpoint
    let half := c.settings.band.tdiv 2
    let read : Clr := match cabinet with
      | none => if c.blind then c else { c with blind := true, blindOff := none }
      | some t =>
        if c.blind then { c with blind := false, blindOff := none, call := decide (effective ≤ t) }
        else { c with call := if c.call then decide (effective - half < t) else decide (effective + half ≤ t) }
    let wake : List Msg :=
      if c.call = false ∧ read.call = true ∧ c.settings.enable = true ∧ c.state ≠ .faulted then [.chg .wake] else []
    let done : Clr × List Msg :=
      if c.blind = read.blind then coolerChanged s c (coolerClosed read q 0).1 (coolerClosed read q 0).2
      else
        let mid := coolerDriven read q
        let e := coolerClosed mid q 6
        coolerDone s c e.1 (if e.2 = 6 then [coolerReport c e.1 6]
          else coolerReport c mid 6 :: if mid.state = e.1.state then [] else [coolerReport mid e.1 e.2])
    let watched (c : Clr) : Clr × List Msg := match cabinet with
      | none => (c, [])
      | some t =>
        let time := min 1800 (c.warmTime + dt)
        if c.state = .disabled then (c, [])
        else if setpoint + 80 < t then
          if time = 1800 ∧ c.warm = false then
            ({ c with warmTime := time, warm := true }, [.alr (.condition 3 true), post 10 (u8 1 ++ tempField (some t))])
          else ({ c with warmTime := time }, [])
        else if t ≤ setpoint + half ∧ c.warm = true then
          ({ c with warmTime := 0, warm := false }, [.alr (.condition 3 false), post 10 (u8 0 ++ tempField (some t))])
        else ({ c with warmTime := 0 }, [])
    deliver (.clr (.measured dt cabinet)) s = ({ s with clr := (watched done.1).1 }, wake ++ done.2 ++ (watched done.1).2)) ∧
  (∀ (asserted : Bool) (s : State),
    let c := { s.clr with faultPin := asserted }
    (asserted = s.clr.faultPin → exec (.compFault asserted) s = .next (fresh s)) ∧
    (asserted ≠ s.clr.faultPin → asserted = true → s.clr.state = .running →
      exec (.compFault asserted) s = .next (coolerNext (fresh s) (coolerStalled c) 4)) ∧
    (asserted ≠ s.clr.faultPin → ¬(asserted = true ∧ s.clr.state = .running) →
      exec (.compFault asserted) s = .next { fresh s with clr := c }))

/-- R98: COOL_SET. An enable value that is neither 0 nor 1, a quiet pause that is not 0, 300, 600 or 1200, or level currents
that are not three in 1..3,000 cA that do not decrease are answered RANGE with nothing applied. Otherwise the settings are
applied, clamped, and the reply is OK, or CLAMPED with the settings applied. FAULTED and, when cooling is disabled, PAUSE and
BACKOFF are left, and a cooler at rest settles; in RUNNING the speed and the demand follow, and a quiet run past the new Q_run,
or a disable once the min-on timer is over, ends the run (R87, R89, R91, `coolerSet`). The order of the stops (log 14), a run
past Q_run going straight to DISABLED when the event disables cooling (log 50), the driven speed in COOLER_STATE (log 55), the
-32,768 of an invalid CABINET in COOLER_FAULT and COOLER_WARM (log 46), and the order of R100's table at a change other than a
stop (log 57) are the model's choice. R99: the schedule's actions at CLR. COOL_ENABLE applies the setpoint it carries, clamped,
is refused STATE in FAULTED, where the setpoint stays, and otherwise enables cooling as COOL_SET does (`coolerSet`);
COOL_DISABLE disables it and is accepted in every state; PRECHILL_BEGIN is refused STATE in FAULTED and DISABLED and sets the
pre-chill flag otherwise. The answer goes to SCH, behind what the change hands on (log 54). -/
def Obligations.CoolSetAppliesTheSettings : Prop :=
  (∀ (tag : Byte) (x : CoolArgs) (s : State), HasSlot s →
    let u := dispatched 0x86#8 tag s
    let between (lo hi v : Int) : Int := if v < lo then lo else if hi < v then hi else v
    let betweenNat (lo hi v : Nat) : Nat := if v < lo then lo else if hi < v then hi else v
    let p : CoolSettings :=
      { enable := decide (x.enable = 1), setpoint := between (-200) 100 x.setpoint, band := between 10 60 x.band
        hostMax := betweenNat 1 3 x.hostMax, offset := between 0 50 x.offset, qRun := betweenNat 300 1800 x.qRun
        qPause := x.qPause, currents := x.currents }
    let ok := x.enable ≤ 1 ∧ (x.qPause = 0 ∨ x.qPause = 300 ∨ x.qPause = 600 ∨ x.qPause = 1200) ∧ x.currents.length = 3 ∧
      (∀ i ∈ x.currents, 1 ≤ i ∧ i ≤ 3000) ∧ x.currents.Pairwise (· ≤ ·)
    let exact := p.setpoint = x.setpoint ∧ p.band = x.band ∧ p.hostMax = x.hostMax ∧ p.offset = x.offset ∧ p.qRun = x.qRun
    let status := if exact then 0 else 2
    let body := if exact then [] else
      flagByte p.enable ++ s16 p.setpoint ++ s16 p.band ++ u8 p.hostMax ++ s16 p.offset ++ u32 p.qRun ++ u32 p.qPause ++
        p.currents.flatMap s16
    let c := s.clr
    let rest := c.state = .idle ∨ c.state = .waitOff ∨ c.state = .shed ∨ (c.state = .disabled ∧ p.enable = true) ∨
      c.state = .faulted ∨ ((c.state = .pause ∨ c.state = .backoff) ∧ p.enable = false)
    let set := { c with settings := p }
    let woken := { set with
      state := .idle
      stalls := if c.state = .faulted then 0 else c.stalls
      pause := if c.state = .pause ∨ c.state = .backoff then none else c.pause
      backoff := if c.state = .pause ∨ c.state = .backoff then none else c.backoff }
    let settled := coolerSettled woken s.rcl.quiet
    (¬ok → exec (.coolSet tag x) s = .next (finish [] (answered 0x86#8 tag 3 [] u))) ∧
    (ok → rest → ¬(settled.state = .running ∧ c.faultPin = true) →
      exec (.coolSet tag x) s =
        .next (finish (coolerFollows s c settled 7) (answered 0x86#8 tag status body
          { u with clr := coolerKept c settled s.rcl.quiet }))) ∧
    (ok → ¬rest → c.state ≠ .running →
      exec (.coolSet tag x) s =
        .next (finish (coolerFollows s c set 7) (answered 0x86#8 tag status body
          { u with clr := coolerKept c set s.rcl.quiet }))) ∧
    (ok → exec (.coolSet tag x) s =
      .next (finish (coolerSet u p 7).2 (answered 0x86#8 tag status body { u with clr := (coolerSet u p 7).1 })))) ∧
  (∀ (param : Option Int) (s : State),
    let c := s.clr
    let p : CoolSettings := match param with
      | none => c.settings
      | some x => { c.settings with setpoint := if x < -200 then -200 else if 100 < x then 100 else x }
    let result (r : Clr × List Msg) (refused : Option Refuse) :=
      (({ s with clr := r.1 } : State), r.2 ++ [.sch (.answer refused)])
    (c.state = .faulted →
      deliver (.clr (.act .coolEnable param)) s = result ({ c with settings := p }, []) (some .state)) ∧
    (c.state ≠ .faulted →
      deliver (.clr (.act .coolEnable param)) s = result (coolerSet s { p with enable := true } 8) none) ∧
    deliver (.clr (.act .coolDisable param)) s = result (coolerSet s { c.settings with enable := false } 8) none ∧
    ((c.state = .faulted ∨ c.state = .disabled) →
      deliver (.clr (.act .prechillBegin param)) s = result (c, []) (some .state)) ∧
    (c.state ≠ .faulted → c.state ≠ .disabled →
      deliver (.clr (.act .prechillBegin param)) s = result ({ c with prechill := true }, []) none))

/-- R103, R114: a target write. Without a flash the channel takes the target and the steps of the fade time (five a tenth of a
second, one for 0) and starts from its level; under a flash the write goes to the frame of that flash and the channel stands.
The standing target and hold mode are the channel's own, or under a flash those in its frame. R109, R114: a hold mode write
sets the channel's own hold mode, or under a flash the one in its frame. R109, R110, R113: LIGHT_SET and SCENE_RECALL.
LIGHT_SET writes target and hold mode to a channel, or to each member of a group from the lowest, and answers OK with their
number; anything out of range is answered RANGE. SCENE_RECALL writes the scene's items in order, but for channels that are
HELD, and answers OK with the numbers written and left; a scene above 11 is answered RANGE and an empty one STATE. What the
writes hand on (`lightsFollow`) comes as CAB_LIGHTS before SAFETY_LIGHTS (log 42), and then the dark condition (log 51): both
orders are the model's choice. -/
def Obligations.LightWritesAndRecalls : Prop :=
  (∀ (k target fade : Nat) (l : Lgt), k < l.channels.length →
    let c := l.channels.getD k ⟨0, 0, 0, false, none, 0⟩
    let frame := l.stack.find? fun f => f.owner == .flash k
    (∀ held, c.flash = none → writeHeld k held l = { l with channels := l.channels.set k { c with held := held } }) ∧
    (∀ held, c.flash ≠ none →
      writeHeld k held l =
        { l with stack := l.stack.map fun x => if x.owner = .flash k then { x with helds := x.helds.set k held } else x }) ∧
    (c.flash = none →
      writeTarget k target fade l =
          { l with channels := l.channels.set k { c with target := target, steps := if fade = 0 then 1 else 5 * fade } } ∧
        standingTarget l k = c.target ∧ standingHeld l k = c.held) ∧
    (∀ f, c.flash ≠ none → frame = some f →
      writeTarget k target fade l =
          { l with stack := l.stack.map fun x => if x.owner = .flash k then { x with targets := x.targets.set k target } else x } ∧
        standingTarget l k = f.targets.getD k 0 ∧ standingHeld l k = f.helds.getD k false)) ∧
  (∀ (tag : Byte) (x : LightArgs) (n : Nat) (s : State), HasSlot s →
    let l := s.lgt
    let q := s.rcl.quiet
    let ok := x.kind ≤ 1 ∧ x.number ≤ (if x.kind = 0 then 7 else 3) ∧ x.target ≤ 1000 ∧ x.fade ≤ 36000 ∧ x.hold ≤ 1
    let members := if x.kind = 0 then [x.number]
      else [0, 1, 2, 3, 4, 5, 6, 7].filter fun k => (l.groups.getD x.number 0#8).getLsbD k
    let set := members.foldl (fun l k => writeHeld k (decide (x.hold = 1)) (writeTarget k x.target x.fade l)) l
    let items := l.scenes.getD n []
    let recalled := items.foldl
      (fun (r : Lgt × Nat × Nat) i =>
        if standingHeld r.1 i.channel then (r.1, r.2.1, r.2.2 + 1)
        else (writeTarget i.channel i.level i.fade r.1, r.2.1 + 1, r.2.2)) (l, 0, 0)
    let u := dispatched 0x87#8 tag s
    let v := dispatched 0x88#8 tag s
    (¬ok → exec (.lightSet tag x) s = .next (finish [] (answered 0x87#8 tag 3 [] u))) ∧
    (ok → exec (.lightSet tag x) s =
      .next (finish (lightsFollow l set) (answered 0x87#8 tag 0 (u8 members.length) { u with lgt := lightsKept set q }))) ∧
    (11 < n → exec (.sceneRecall tag n) s = .next (finish [] (answered 0x88#8 tag 3 [] v))) ∧
    (n ≤ 11 → items = [] → exec (.sceneRecall tag n) s = .next (finish [] (answered 0x88#8 tag 4 [] v))) ∧
    (n ≤ 11 → items ≠ [] → exec (.sceneRecall tag n) s =
      .next (finish (lightsFollow l recalled.1)
        (answered 0x88#8 tag 0 (u8 recalled.2.1 ++ u8 recalled.2.2) { v with lgt := lightsKept recalled.1 q }))))

/-- R103, R104, R118: FADE_STEP moves every fading channel that has no flash by the truncated share of its way, the last step to
the target exactly, and ends a fade whose fine level already equals the target; FLASH_STEP counts every flash down and turns its
phase over at the end of its steps. The outputs follow. R105, R106: a grant delivered to LGT is held with its budget state, for
SAFETY_LIGHTS (entry 0) or CAB_LIGHTS (entry 3), and the outputs follow, as they follow a change of the quiet flag. R117: a
flash that starts pushes a FLASH frame of the standing values, which on a full stack of four gives up the lowest HOST frame with
LIGHT_STACK_DROP (cause 29; owner byte 1, log 16), and begins its on phase; on a channel that flashes already only the pattern
is replaced. The start is answered to ALR. R119: a cancelled flash takes its frame out of the stack, and the channel takes the
standing hold mode and fades to the standing target over 1.0 s, which ALR is told; without a flash nothing ends. What the event
hands on of its own goes before demand, the dark condition behind it (log 51), and CAB_LIGHTS before SAFETY_LIGHTS (log 42):
these orders are the model's choice. -/
def Obligations.LightStepsMoveEveryChannel : Prop :=
  (∀ s : State,
    let faded := { s.lgt with channels := s.lgt.channels.map fun c =>
      if c.steps = 0 ∨ c.flash.isSome = true then c
      else if c.steps = 1 then { c with fine := 1000 * c.target, steps := 0 }
      else if c.fine = 1000 * c.target then { c with steps := 0 }
      else { c with
        fine := ((c.fine : Int) + ((1000 * c.target : Int) - c.fine).tdiv c.steps).toNat, steps := c.steps - 1 } }
    let flashed := { s.lgt with channels := s.lgt.channels.map fun c =>
      match c.flash with
      | none => c
      | some f =>
        if 2 ≤ f.left then { c with flash := some { f with left := f.left - 1 } }
        else { c with flash := some { f with
          onPhase := !f.onPhase, left := if f.onPhase then f.offSteps else f.onSteps } } }
    exec .fadeStep s = .next (lightsNext (fresh s) faded []) ∧ exec .flashStep s = .next (lightsNext (fresh s) flashed [])) ∧
  (∀ (entry level : Nat) (budget : Budget) (s : State),
    let l := s.lgt
    let lit (l' : Lgt) (ms : List Msg) : State × List Msg :=
      ({ s with lgt := lightsKept l' s.rcl.quiet }, ms ++ lightsFollow l l')
    deliver (.lgt (.grant 0 level budget)) s = lit { l with safetyGrant := some level, safetyBudget := budget } [] ∧
    (entry ≠ 0 →
      deliver (.lgt (.grant entry level budget)) s = lit { l with cabGrant := some level, cabBudget := budget } []) ∧
    deliver (.lgt .quiet) s = lit l []) ∧
  (∀ (k level on off : Nat) (s : State), k < s.lgt.channels.length →
    let l := s.lgt
    let c := l.channels.getD k ⟨0, 0, 0, false, none, 0⟩
    let lit (l' : Lgt) (ms : List Msg) : State × List Msg :=
      ({ s with lgt := lightsKept l' s.rcl.quiet }, ms ++ lightsFollow l l')
    let ks := [0, 1, 2, 3, 4, 5, 6, 7]
    let frame : Frame := ⟨.flash k, ks.map (standingTarget l), ks.map (standingHeld l)⟩
    let dropped := l.stack.eraseP (fun f => f.owner == .host) ++ [frame]
    let flashing := l.channels.set k { c with flash := some ⟨level, on, off, true, on⟩ }
    (c.flash = none → l.stack.length < 4 →
      deliver (.lgt (.flashStart k level on off)) s =
        lit { l with stack := l.stack ++ [frame], channels := flashing } [.alr .flashAccepted]) ∧
    (c.flash = none → 4 ≤ l.stack.length →
      deliver (.lgt (.flashStart k level on off)) s =
        lit { l with stack := dropped, channels := flashing }
          [post 29 (u8 1 ++ u8 dropped.length), .alr .flashAccepted]) ∧
    (c.flash ≠ none →
      deliver (.lgt (.flashStart k level on off)) s = lit { l with channels := flashing } [.alr .flashAccepted]) ∧
    (c.flash = none → deliver (.lgt (.flashCancel k)) s = lit l []) ∧
    (c.flash ≠ none →
      deliver (.lgt (.flashCancel k)) s =
        lit
          { l with
            stack := l.stack.filter fun f => decide (f.owner ≠ .flash k)
            channels := l.channels.set k
              { c with flash := none, held := standingHeld l k, target := standingTarget l k, steps := 50 } }
          [.alr (.flashEnded k)]))

/-- R120, R121: the door and the buttons. A door that opens brings STEP (channel 5) to 1000 over 0.5 s and stops the door
timer, one that closes starts the timer at 30 s, and its expiry brings STEP to 0 over 3 s; a HELD STEP is left. A short press
switches the reading light of its side between 700 and 0 over 0.5 s; a press held 2 s acknowledges a sounding alert or switches
the night light between 150 and 0 (button 1), or recalls scene 0 (button 2). A level held already is no change (log 24). The
model's choice: the wake that a door or button hands to CHG, and the acknowledgement to ALR, go before the demand, and the dark
condition behind it (log 51); a recall that changes both lighting entries posts CAB_LIGHTS before SAFETY_LIGHTS (log 42). -/
def Obligations.DoorAndButtonsSwitchTheLights : Prop :=
  ∀ (isOpen pressed : Bool) (b : Button) (s : State),
    let l := s.lgt
    let u := fresh s
    let step (target fade : Nat) (l : Lgt) : Lgt := if standingHeld l 5 then l else writeTarget 5 target fade l
    let known := match b with
      | .btn1 => l.btn1
      | .btn2 => l.btn2
    let knows (x : ButtonState) : Lgt := match b with
      | .btn1 => { l with btn1 := x }
      | .btn2 => { l with btn2 := x }
    let side := match b with
      | .btn1 => 0
      | .btn2 => 1
    (isOpen = l.doorOpen → exec (.doorChange isOpen) s = .next u) ∧
    (isOpen ≠ l.doorOpen → isOpen = true →
      exec (.doorChange isOpen) s =
        .next (lightsNext u (step 1000 5 { l with doorOpen := true, doorTimer := none }) [.chg .wake])) ∧
    (isOpen ≠ l.doorOpen → isOpen = false →
      exec (.doorChange isOpen) s =
        .next (lightsNext u { l with doorOpen := false, doorTimer := some 30 } [.chg .wake])) ∧
    (l.doorTimer = some 0 →
      exec .doorTimerExpiry s = .next (lightsNext u (step 0 30 { l with doorTimer := none }) [])) ∧
    (l.doorTimer ≠ some 0 → exec .doorTimerExpiry s = .next u) ∧
    ((pressed = true ∧ known ≠ .released) ∨ (pressed = false ∧ known = .released) →
      exec (.buttonChange b pressed) s = .next u) ∧
    (pressed = true → known = .released →
      exec (.buttonChange b pressed) s = .next (lightsNext u (knows .pressed) [.chg .wake])) ∧
    (pressed = false → known = .pressed →
      exec (.buttonChange b pressed) s =
        .next (lightsNext u (writeTarget side (if standingTarget l side = 0 then 700 else 0) 5 (knows .released))
          [.chg .wake])) ∧
    (pressed = false → (known = .blocked ∨ known = .longTaken) →
      exec (.buttonChange b pressed) s = .next (lightsNext u (knows .released) [.chg .wake])) ∧
    (known = .pressed → b = .btn1 → s.alr.owner ≠ none →
      exec (.longPress b) s = .next (lightsNext u (knows .longTaken) [.alr .buttonAck])) ∧
    (known = .pressed → b = .btn1 → s.alr.owner = none →
      exec (.longPress b) s =
        .next (lightsNext u (writeTarget 4 (if standingTarget l 4 = 0 then 150 else 0) 10 (knows .longTaken)) [])) ∧
    (known = .pressed → b = .btn2 →
      exec (.longPress b) s =
        .next (lightsNext u
          ((l.scenes.getD 0 []).foldl
            (fun l i => if standingHeld l i.channel then l else writeTarget i.channel i.level i.fade l) (knows .longTaken)) [])) ∧
    (known ≠ .pressed → exec (.longPress b) s = .next (lightsNext u l []))

/-- R110, R111, R112, R115, R116: the stack and the light settings. LIGHT_SAVE pushes the standing values as a HOST frame; on a
full stack of four the lowest HOST frame goes first and LIGHT_STACK_DROP (cause 29) is posted, its owner byte 0 being the
model's choice (log 16). LIGHT_RESTORE takes the topmost HOST frame and writes its values over 1.0 s, STATE without one. The
model's choice: a restore posts its demand once, after all eight channels (log 43), LIGHT_STACK_DROP goes before demand, the
dark condition behind it (log 51), and CAB_LIGHTS before SAFETY_LIGHTS (log 42). GROUP_SET and SCENE_STORE take their setting
when it is in range, and are answered RANGE with no change when not. -/
def Obligations.LightStackAndSettings : Prop :=
  ∀ (tag : Byte) (g : Nat) (members : Byte) (currents : List Int) (cap n : Nat) (items : List SceneItem) (s : State),
    HasSlot s →
    let l := s.lgt
    let q := s.rcl.quiet
    let ks := [0, 1, 2, 3, 4, 5, 6, 7]
    let frame : Frame := ⟨.host, ks.map (standingTarget l), ks.map (standingHeld l)⟩
    let saved := { l with stack := l.stack ++ [frame] }
    let dropped := { l with stack := l.stack.eraseP (fun f => f.owner == .host) ++ [frame] }
    let last := l.stack.reverse.find? fun f => f.owner == .host
    let left := (l.stack.reverse.eraseP fun f => f.owner == .host).reverse
    let u := dispatched 0x89#8 tag s
    let v := dispatched 0x8A#8 tag s
    let w := dispatched 0x97#8 tag s
    let x := dispatched 0x96#8 tag s
    let tableOk := currents.length = 8 ∧ (∀ i ∈ currents, 1 ≤ i ∧ i ≤ 500) ∧ cap ≤ 1000
    let sceneOk := n ≤ 11 ∧ 1 ≤ items.length ∧ items.length ≤ 8 ∧
      (∀ i ∈ items, i.channel ≤ 7 ∧ i.level ≤ 1000 ∧ i.fade ≤ 36000) ∧ (items.map SceneItem.channel).Nodup
    (l.stack.length < 4 → exec (.lightSave tag) s =
      .next (finish (lightsFollow l saved)
        (answered 0x89#8 tag 0 (u8 (l.stack.length + 1)) { u with lgt := lightsKept saved q }))) ∧
    (4 ≤ l.stack.length → exec (.lightSave tag) s =
      .next (finish (post 29 (u8 0 ++ u8 dropped.stack.length) :: lightsFollow l dropped)
        (answered 0x89#8 tag 0 (u8 dropped.stack.length) { u with lgt := lightsKept dropped q }))) ∧
    (last = none → exec (.lightRestore tag) s = .next (finish [] (answered 0x8A#8 tag 4 [] v))) ∧
    (∀ f, last = some f →
      let restored := ks.foldl
        (fun l k => writeHeld k (f.helds.getD k false) (writeTarget k (f.targets.getD k 0) 10 l)) { l with stack := left }
      exec (.lightRestore tag) s = .next (finish (lightsFollow l restored)
        (answered 0x8A#8 tag 0 (u8 left.length) { v with lgt := lightsKept restored q }))) ∧
    (exec (.groupSetGroup tag g members) s = .next (finish []
      (if g ≤ 3 then answered 0x97#8 tag 0 [] { w with lgt := { l with groups := l.groups.set g members } }
      else answered 0x97#8 tag 3 [] w))) ∧
    (¬tableOk → exec (.groupSetChannel tag currents cap) s = .next (finish [] (answered 0x97#8 tag 3 [] w))) ∧
    (tableOk →
      let l' := { l with fullCurrents := currents, quietLight := cap }
      exec (.groupSetChannel tag currents cap) s =
        .next (finish (lightsFollow l l') (answered 0x97#8 tag 0 [] { w with lgt := lightsKept l' q }))) ∧
    (¬sceneOk → exec (.sceneStore tag n items) s = .next (finish [] (answered 0x96#8 tag 3 [] x))) ∧
    (sceneOk → exec (.sceneStore tag n items) s =
      .next (finish [] (answered 0x96#8 tag 0 [] { x with lgt := { l with scenes := l.scenes.set n items } })))

/-- R125, R126, R128 to R130, R132, R133: SECOND_TIMER. Expiries still due are taken first (log 2); then cab time goes up by 1
modulo 2^32, the period, the break run with its part in REST or AVAILABLE, the rest record, and in DRIVE the accumulator
advance, a break run that reaches the break minimum, or the split second part with the split flag set, qualifies, the warnings
are tested, and the other blocks count the second, SCH last with its firing sweep. The order in which the blocks take a second
(log 52), and BREAK_DUE cleared before BREAK_OVERDUE at a qualification (log 44), are the model's choice. R125: what each block
does with a second. A running timer has one second less and stays at 0 until its expiry (log 2): CHG's doze timer, DMD's budget
timer, HTR's state timer and frost retry timer, CLR's min-on, min-off, pause, backoff, blind off and minute timers, LGT's door
timer (log 25), SCH's refresh timer, ALR's re-sound timers and STO's hourly timer. The purge time in PURGE, the run time in
RUNNING, the seconds COMP_EN is on and, up to 600, the sounding time of an event alert that sounds go up by 1. No block hands
anything on, and nothing else changes. R130, R132: FULL_QUALIFICATION, SPLIT_QUALIFICATION, BREAK_DUE and BREAK_OVERDUE test
their condition on the state as it stands (SECOND_TIMER itself acts on it, log 4); without it only the event counter advances. -/
def Obligations.SecondTimerAdvancesTheClock : Prop :=
  (∀ s : State,
    let u := events (overdueMsgs s) s
    let r := u.rcl
    let advanced := { r with
      cabTime := (r.cabTime + 1) % 4294967296
      period := { r.period with duration := r.period.duration + 1 }
      breakRun := r.breakRun.map fun b => { b with
        length := b.length + 1
        rest := if r.period.activity = .rest then b.rest + 1 else b.rest
        available := if r.period.activity = .available then b.available + 1 else b.available }
      acc := if r.period.activity = .drive then min 604800 (r.acc + 1) else r.acc
      record := r.record.map fun x => { x with length := x.length + 1 } }
    let full := advanced.breakRun.any fun b => b.marker != .full && decide (r.settings.breakMin ≤ b.length)
    let split := advanced.breakRun.any fun b => b.marker == .none && r.split && decide (r.settings.splitSecond ≤ b.length)
    let seconds : List Msg := [.chg .second, .dmd .second, .htr .second, .clr .second, .lgt .second, .sch .second, .alr .second,
      .sto .second, .sch .sweep]
    r.cabTime ≤ 4294967295 →
    (full = true →
      exec .secondTimer s = .next (settle (qualifiedMsgs advanced ++ warnedMsgs (qualified .full advanced) ++ seconds)
        { fresh u with rcl := warned (qualified .full advanced) })) ∧
    (full = false → split = true →
      exec .secondTimer s = .next (settle (qualifiedMsgs advanced ++ warnedMsgs (qualified .split advanced) ++ seconds)
        { fresh u with rcl := warned (qualified .split advanced) })) ∧
    (full = false → split = false →
      exec .secondTimer s = .next (settle (warnedMsgs advanced ++ seconds) { fresh u with rcl := warned advanced }))) ∧
  (∀ s : State,
    let less (t : Option Nat) : Option Nat := match t with
      | none => none
      | some n => some (n - 1)
    deliver (.chg .second) s = ({ s with chg := { s.chg with doze := less s.chg.doze } }, []) ∧
    deliver (.dmd .second) s = ({ s with dmd := { s.dmd with timer := less s.dmd.timer } }, []) ∧
    deliver (.htr .second) s =
      ({ s with htr := { s.htr with
          timer := less s.htr.timer
          purge := if s.htr.seq = .purge then { s.htr.purge with time := s.htr.purge.time + 1 } else s.htr.purge
          frostRetry := less s.htr.frostRetry } }, []) ∧
    deliver (.clr .second) s =
      ({ s with clr := { s.clr with
          minOn := less s.clr.minOn, minOff := less s.clr.minOff, pause := less s.clr.pause, backoff := less s.clr.backoff
          blindOff := less s.clr.blindOff, minute := s.clr.minute - 1
          runTime := if s.clr.state = .running then s.clr.runTime + 1 else s.clr.runTime
          secondsOn := if s.clr.compEn = true then s.clr.secondsOn + 1 else s.clr.secondsOn } }, []) ∧
    deliver (.lgt .second) s = ({ s with lgt := { s.lgt with doorTimer := less s.lgt.doorTimer } }, []) ∧
    deliver (.sch .second) s = ({ s with sch := { s.sch with refresh := less s.sch.refresh } }, []) ∧
    deliver (.alr .second) s =
      ({ s with alr := { s.alr with
          records := s.alr.records.zipIdx.map fun p => { p.1 with
            sounding := if 5 ≤ p.2 ∧ p.1.state = .sounding then min 600 (p.1.sounding + 1) else p.1.sounding
            resound := less p.1.resound } } }, []) ∧
    deliver (.sto .second) s = ({ s with sto := { s.sto with hourly := s.sto.hourly - 1 } }, [])) ∧
  (∀ s : State,
    let r := s.rcl
    let u := fresh s
    let full := r.breakRun.any fun b => b.marker != .full && decide (r.settings.breakMin ≤ b.length)
    let split := r.breakRun.any fun b => b.marker == .none && r.split && decide (r.settings.splitSecond ≤ b.length)
    exec .fullQualification s =
      .next (if full then settle (qualifiedMsgs r) { u with rcl := qualified .full r } else u) ∧
    exec .splitQualification s =
      .next (if split then settle (qualifiedMsgs r) { u with rcl := qualified .split r } else u) ∧
    exec .breakDue s =
      .next (if r.due = false ∧ r.settings.driveLimit - r.settings.lead ≤ r.acc then
        settle (breakWarning false true r.acc) { u with rcl := { r with due := true } } else u) ∧
    exec .breakOverdue s =
      .next (if r.overdue = false ∧ r.settings.driveLimit ≤ r.acc then
        settle (breakWarning true true r.acc) { u with rcl := { r with overdue := true } } else u))

/-- R127, R128, R131, R133, R135, R139: ACTIVITY. A code above 3 is answered RANGE; otherwise the reply carries the activity (0
DRIVE, 1 WORK, 2 AVAILABLE, 3 REST), the accumulator and the split flag as they then stand. An ended DRIVE or WORK period is
logged; AVAILABLE and REST begin or continue a break run, DRIVE and WORK end it, and REST opens an unplanned rest record when
none is open, its wake time a regular rest away. That wake time is not wrapped at 32 bits, the model's reading (log 27). A
record open at the end of the run closes in the order of R135 (`closeMsgs`). The model's choice: a cleared quiet flag goes to
HTR, CLR, LGT and ALR in that order (log 52), and the class in REST_SHORT and REST_CLOSED is numbered as R191 says in the order
of R135's table, not as Table 10-4 numbers the log's classes (log 16). -/
def Obligations.ActivityRequestChangesThePeriod : Prop :=
  ∀ (tag : Byte) (code : Nat) (s : State), HasSlot s →
    let r := s.rcl
    let u := dispatched 0x8B#8 tag s
    let new : Activity := match code with
      | 0 => .drive
      | 1 => .work
      | 2 => .available
      | _ => .rest
    let breaks (a : Activity) : Bool := a == .available || a == .rest
    let old := r.period.activity
    let result (r' : Rcl) (ms : List Msg) := Host.Outcome.next (φ := Fault) (ρ := Refusal)
      (finish ms (answered 0x8B#8 tag 0 (u8 code ++ u32 r'.acc ++ flagByte r'.split) { u with rcl := r' }))
    let at' (r' : Rcl) : Rcl := { r' with period := ⟨new, r.cabTime, 0⟩ }
    let record : RestRecord := ⟨r.cabTime, 0, r.cabTime + r.settings.regularMin, false⟩
    let opened (r' : Rcl) : Rcl := if new = .rest ∧ r'.record = none then { r' with record := some record } else r'
    let openMsgs (r' : Rcl) : List Msg :=
      if new = .rest ∧ r'.record = none then [.sch (.restOpened record.start record.wake), .dmd (.rest (some record.wake))]
      else []
    let ended := logged (if old = .drive then .drive r.acc else .work) r.period.start r.period.duration r
    let begun := { ended with breakRun := some ⟨r.cabTime, 0, 0, 0, .none⟩ }
    (3 < code → exec (.activity tag code) s = .next (finish [] (answered 0x8B#8 tag 3 [] u))) ∧
    (code ≤ 3 → new = old → exec (.activity tag code) s = result r []) ∧
    (code ≤ 3 → new ≠ old → breaks old = true → breaks new = true →
      exec (.activity tag code) s = result (opened (at' r)) (openMsgs r)) ∧
    (code ≤ 3 → breaks old = false → breaks new = true →
      exec (.activity tag code) s = result (opened (at' begun)) (openMsgs r)) ∧
    (code ≤ 3 → new ≠ old → breaks old = false → breaks new = false →
      exec (.activity tag code) s = result (at' ended) []) ∧
    (∀ b, code ≤ 3 → breaks old = true → breaks new = false → r.breakRun = some b →
      exec (.activity tag code) s =
        result (at' (runEnded b r)) (match r.record with
          | some x => closeMsgs x r
          | none => []))

/-- R133, R134: REST_PLAN. In DRIVE it is answered STATE, and a wake time not 900 to 86,400 s ahead RANGE, with no change.
Without a record open it opens a planned one from now; an open one takes the wake time and is planned. The activity becomes
REST, and the reply carries the record's start and wake time. SCH and DMD are told of an opening and of a wake time that
changes. -/
def Obligations.RestPlanOpensOrPlansTheRecord : Prop :=
  ∀ (tag : Byte) (wake : Nat) (s : State), HasSlot s →
    let r := s.rcl
    let u := dispatched 0x8C#8 tag s
    let ok := r.cabTime + 900 ≤ wake ∧ wake ≤ r.cabTime + 86400
    let result (start : Nat) (r' : Rcl) (ms : List Msg) := Host.Outcome.next (φ := Fault) (ρ := Refusal)
      (finish ms (answered 0x8C#8 tag 0 (u32 start ++ u32 wake) { u with rcl := r' }))
    let resting (r' : Rcl) : Rcl :=
      match r.period.activity with
      | .rest => r'
      | .available => { r' with period := ⟨.rest, r.cabTime, 0⟩ }
      | _ => { logged .work r.period.start r.period.duration r' with
          breakRun := some ⟨r.cabTime, 0, 0, 0, .none⟩, period := ⟨.rest, r.cabTime, 0⟩ }
    (r.period.activity = .drive →
      exec (.restPlan tag wake) s = .next (finish [] (answered 0x8C#8 tag 4 [] u))) ∧
    (r.period.activity ≠ .drive → ¬ok → exec (.restPlan tag wake) s = .next (finish [] (answered 0x8C#8 tag 3 [] u))) ∧
    (r.period.activity ≠ .drive → ok → r.record = none →
      exec (.restPlan tag wake) s =
        result r.cabTime (resting { r with record := some ⟨r.cabTime, 0, wake, true⟩ })
          [.sch (.restOpened r.cabTime wake), .dmd (.rest (some wake))]) ∧
    (∀ x, r.period.activity ≠ .drive → ok → r.record = some x →
      exec (.restPlan tag wake) s =
        result x.start (resting { r with record := some { x with wake := wake, planned := true } })
          (if x.wake = wake then [] else [.sch (.restWake wake), .dmd (.rest (some wake))]))

/-- R137, R138: CLOCK_SET. The time form sets cab time and the time-set flag, shifts the start stamps of the period, the break
run and the rest record by the difference, held within 32 bits, answers OK with the difference, in 4 signed bytes (the model's
choice, log 16), and tells SCH. The settings form answers RANGE with nothing applied when a value is out of its range or two
are out of their relation, and otherwise applies all nine and tests the warnings. R141, R142, Table 10-4: LOG_WINDOW takes a
window of serials from 1 up in order, and answers OK with the oldest serial held and the next one, RANGE otherwise. LOG_READ
without a window is answered STATE; with one it returns up to four serials from the cursor, each as its record, as a marker of
a record not yet made (255), or as one of a record that is gone (254), and moves the cursor past them, back to the first after
the last. The oldest serial of an empty log is the next one, the model's choice (log 16). -/
def Obligations.ClockAndLogRequests : Prop :=
  (∀ (tag : Byte) (time : Nat) (x : RestSettings) (s : State), HasSlot s →
    let r := s.rcl
    let u := dispatched 0x90#8 tag s
    let delta : Int := (time : Int) - r.cabTime
    let shift (t : Nat) : Nat := if (t : Int) + delta < 0 then 0 else min 4294967295 ((t : Int) + delta).toNat
    let moved := { r with
      cabTime := time
      timeSet := true
      period := { r.period with start := shift r.period.start }
      breakRun := r.breakRun.map fun b => { b with start := shift b.start }
      record := r.record.map fun y => { y with start := shift y.start } }
    let ok := (300 ≤ x.splitFirst ∧ x.splitFirst ≤ 3600) ∧ (600 ≤ x.splitSecond ∧ x.splitSecond ≤ 7200) ∧
      (900 ≤ x.breakMin ∧ x.breakMin ≤ 10800) ∧ (3600 ≤ x.driveLimit ∧ x.driveLimit ≤ 36000) ∧ x.lead ≤ 3600 ∧
      (3600 ≤ x.reducedMin ∧ x.reducedMin ≤ 86400) ∧ (3600 ≤ x.regularMin ∧ x.regularMin ≤ 86400) ∧ x.quietDelay ≤ 3600 ∧
      (600 ≤ x.hIdle ∧ x.hIdle ≤ 43200) ∧ x.splitFirst < x.breakMin ∧ x.splitSecond < x.breakMin ∧ x.lead < x.driveLimit ∧
      x.breakMin ≤ x.reducedMin ∧ x.reducedMin < x.regularMin
    exec (.clockSet tag time) s =
        .next (finish [.sch (.clockSet (moved.record.map RestRecord.start))]
          (answered 0x90#8 tag 0 (s32 delta) { u with rcl := moved })) ∧
      (¬ok → exec (.clockSetSettings tag x) s = .next (finish [] (answered 0x90#8 tag 3 [] u))) ∧
      (ok → exec (.clockSetSettings tag x) s =
        .next (finish (warnedMsgs { r with settings := x })
          (answered 0x90#8 tag 0 [] { u with rcl := warned { r with settings := x } })))) ∧
  (∀ (tag : Byte) (first last : Nat) (s : State), HasSlot s →
    let r := s.rcl
    let u := dispatched 0x94#8 tag s
    let v := dispatched 0x95#8 tag s
    let item (n : Nat) : List Byte := u32 n ++
      match r.log.find? fun x => decide (x.serial = n) with
      | none => u8 (if r.nextSerial ≤ n then 255 else 254) ++ List.replicate 26 0
      | some x => match x.kind with
        | .drive acc => u8 0 ++ u8 255 ++ u8 0 ++ u32 x.start ++ u32 x.duration ++ u32 acc ++ u32 0 ++ u32 0 ++ u32 0
        | .work => u8 1 ++ u8 255 ++ u8 0 ++ u32 x.start ++ u32 x.duration ++ u32 0 ++ u32 0 ++ u32 0 ++ u32 0
        | .breakRun rest available cls wake =>
          u8 2 ++ u8 cls.code ++ (if wake = none then u8 0 else u8 1) ++ u32 x.start ++ u32 x.duration ++ u32 0 ++ u32 rest ++
            u32 available ++ u32 (wake.getD 0)
    (first = 0 ∨ last < first → exec (.logWindow tag first last) s = .next (finish [] (answered 0x94#8 tag 3 [] u))) ∧
    (1 ≤ first → first ≤ last →
      exec (.logWindow tag first last) s =
        .next (finish [] (answered 0x94#8 tag 0
          (u32 ((r.log.head?.map LogRecord.serial).getD r.nextSerial) ++ u32 r.nextSerial)
          { u with rcl := { r with window := some ⟨first, last, first⟩ } }))) ∧
    (r.window = none → exec (.logRead tag) s = .next (finish [] (answered 0x95#8 tag 4 [] v))) ∧
    ∀ w, r.window = some w →
      let count := min 4 (w.last + 1 - w.cursor)
      let serials := (List.range count).map fun k => w.cursor + k
      let cursor := if w.last < w.cursor + count then w.first else w.cursor + count
      exec (.logRead tag) s =
        .next (finish [] (answered 0x95#8 tag 0 (u8 count ++ serials.flatMap item)
          { v with rcl := { r with window := some { w with cursor := cursor } } })))

/-- R151, R152: SCHEDULE_FIRING takes out the head entry, the held one first by due time and then by insertion number, when it
is due: CHG is woken and the action goes to its owner (`Firing` holds the entry until the owner answers). With none due, only
the event counter advances. A firing in progress, which no run leaves open, holds another back. That the row tests the
condition itself (log 4), and that CHG is woken at each entry fired and before its action, here and at a sweep (log 12), are
the model's choice. R151, R152: a firing sweep at SCH fires the head entry, when it is due, and goes on after the owner's
answer; with none due nothing fires. A firing in progress goes on with the sweep after its answer. R146: the table order lists
every entry held with its slot, once, by due time and then by insertion number. -/
def Obligations.ScheduleFiringDeliversTheHead : Prop :=
  (∀ (n : Nat) (e : SchedEntry) (s : State), s.sch.firing = none →
    let held (m : Nat) : Option SchedEntry := (s.sch.slots[m]?).join
    let owner : Msg := match e.action with
      | .preheatStart | .heatStop => .htr (.act e.action e.param)
      | .coolEnable | .coolDisable | .prechillBegin => .clr (.act e.action e.param)
      | .scene | .wakeLight => .lgt (.act e.action e.param)
      | .quietBegin | .quietEnd => .rcl (.act e.action)
      | .wakeAlarm | .userAlarm => .alr (.act e.action)
    (held n = some e →
      (∀ m x, held m = some x → m ≠ n → e.due < x.due ∨ (e.due = x.due ∧ e.insertion < x.insertion)) →
      e.due ≤ s.rcl.cabTime →
      exec .scheduleFiring s = .next (settle [.chg .wake, owner]
        { fresh s with sch := { s.sch with
          slots := s.sch.slots.set n none
          firing := some ⟨n, { e with late := decide (e.due < s.rcl.cabTime) }, false⟩ } })) ∧
    ((∀ m x, held m = some x → s.rcl.cabTime < x.due) → exec .scheduleFiring s = .next (fresh s))) ∧
  (∀ (n : Nat) (e : SchedEntry) (s : State),
    let held (m : Nat) : Option SchedEntry := (s.sch.slots[m]?).join
    let owner : Msg := match e.action with
      | .preheatStart | .heatStop => .htr (.act e.action e.param)
      | .coolEnable | .coolDisable | .prechillBegin => .clr (.act e.action e.param)
      | .scene | .wakeLight => .lgt (.act e.action e.param)
      | .quietBegin | .quietEnd => .rcl (.act e.action)
      | .wakeAlarm | .userAlarm => .alr (.act e.action)
    (s.sch.firing = none → held n = some e →
      (∀ m x, held m = some x → m ≠ n → e.due < x.due ∨ (e.due = x.due ∧ e.insertion < x.insertion)) →
      e.due ≤ s.rcl.cabTime →
      deliver (.sch .sweep) s =
        ({ s with sch := { s.sch with
            slots := s.sch.slots.set n none
            firing := some ⟨n, { e with late := decide (e.due < s.rcl.cabTime) }, true⟩ } }, [.chg .wake, owner])) ∧
    (s.sch.firing = none → (∀ m x, held m = some x → s.rcl.cabTime < x.due) → deliver (.sch .sweep) s = (s, [])) ∧
    ∀ f, s.sch.firing = some f →
      deliver (.sch .sweep) s = ({ s with sch := { s.sch with firing := some { f with sweep := true } } }, [])) ∧
  (∀ c : Sch,
    (tableOrder c).Pairwise (fun a b => a.2.due < b.2.due ∨ (a.2.due = b.2.due ∧ a.2.insertion ≤ b.2.insertion)) ∧
    (tableOrder c).length = (c.slots.filter Option.isSome).length ∧
    ∀ (n : Nat) (e : SchedEntry), (n, e) ∈ tableOrder c ↔ c.slots[n]? = some (some e))

/-- R145, R152, R153: the owner's answer ends the firing. A repeating entry goes back to its slot at its first later due time,
unless that passes 2^32 - 1, with a fresh insertion number; a rest entry's kind is done. SCHEDULE_FIRED (cause 18) with the
next due time and the occurrences passed over, or SCHEDULE_FAILED (cause 19) with the reason (0 STATE, 1 RANGE, 2 NO_BUDGET, 3
HELD), is posted, and the sweep goes on. R122, R136, R164: the schedule's actions at LGT, RCL and ALR. SCENE recalls its scene,
refused RANGE above 11 and STATE when it is empty; WAKE_LIGHT fades BUNK_AMBIENT (channel 2) over 1,200 s to its parameter, or
600, refused HELD while it is held; QUIET_BEGIN is refused STATE with no rest record open; it and QUIET_END hand a changed
quiet flag to HTR, CLR, LGT and ALR. WAKE_ALARM and USER_ALARM raise their alerts (kinds 5 and 7), and WAKE_ALARM (cause 17)
carries the cab time and the state entered. The model's choice: the answer to SCH stands behind what the action hands on, that
of WAKE_ALARM before its post (log 51 for LGT, log 54 for RCL and ALR); ALR tells CHG before the owner settles (log 58); a
changed quiet flag goes to HTR, CLR, LGT and ALR in that order (log 52); a recall that changes both lighting entries posts
CAB_LIGHTS before SAFETY_LIGHTS (log 42), and then the dark condition (log 51). -/
def Obligations.FiringEndsWithTheOwnersAnswer : Prop :=
  (∀ (f : Firing) (refused : Option Refuse) (s : State), s.sch.firing = some f →
    let now := s.rcl.cabTime
    let e := f.entry
    let passed (p : Nat) := (now - e.due) / p
    let next := e.period.bind fun p =>
      if e.due + (passed p + 1) * p ≤ 4294967295 then some (e.due + (passed p + 1) * p, passed p) else none
    let data := u8 f.slot ++ u8 e.action.code ++ u8 (if f.slot < 10 then 0 else 1) ++ u32 e.due ++ flagByte e.late ++ u32 now
    let report := match refused with
      | none => post 18 (data ++ match next with
        | none => u8 0
        | some (due, skipped) => u8 1 ++ u32 due ++ u32 skipped)
      | some .state => post 19 (data ++ u8 0)
      | some .range => post 19 (data ++ u8 1)
      | some .noBudget => post 19 (data ++ u8 2)
      | some .held => post 19 (data ++ u8 3)
    deliver (.sch (.answer refused)) s =
      ({ s with sch := { s.sch with
          firing := none
          done := if 10 ≤ f.slot then s.sch.done.set (f.slot - 10) true else s.sch.done
          slots := match next with
            | none => s.sch.slots
            | some (due, _) => s.sch.slots.set f.slot (some { e with due := due, late := false, insertion := s.sch.counter })
          counter := match next with
            | none => s.sch.counter
            | some _ => s.sch.counter + 1 } },
        report :: if f.sweep = true ∨ next ≠ none then [.sch .sweep] else [])) ∧
  (∀ (param : Option Int) (s : State), s.alr.records.length = 8 →
    let l := s.lgt
    let r := s.rcl
    let scene := l.scenes.getD (param.getD 0).toNat []
    let write (l : Lgt) (i : SceneItem) : Lgt :=
      if standingHeld l i.channel then l else writeTarget i.channel i.level i.fade l
    let refused (why : Refuse) : State × List Msg := (s, [.sch (.answer (some why))])
    let lit (l' : Lgt) : State × List Msg :=
      ({ s with lgt := lightsKept l' r.quiet }, lightsFollow l l' ++ [.sch (.answer none)])
    let quiet (flag : Bool) : State × List Msg :=
      ({ s with rcl := { r with quiet := flag } },
        (if r.quiet = flag then [] else [.htr .quiet, .clr (.quiet flag), .lgt .quiet, .alr (.quiet flag)]) ++
          [.sch (.answer none)])
    let record (kind : Nat) := s.alr.records.getD kind ⟨.inactive, false, 0, none⟩
    let entered (kind : Nat) : AlertRecord := match (record kind).state with
      | .inactive => { record kind with state := if r.quiet then .held else .sounding, sounding := 0 }
      | .sounding => { record kind with sounding := 0 }
      | _ => record kind
    let alarm (kind : Nat) (ms : List Msg) : State × List Msg :=
      let a := { s.alr with records := s.alr.records.set kind (entered kind) }
      ({ s with alr := (ownerSettled a).1 },
        (if (s.alr.records.any fun r => r.state == .sounding) = (a.records.any fun r => r.state == .sounding) then []
          else [.chg .review]) ++ (if (record kind).state = .inactive then [.chg .wake] else []) ++ (ownerSettled a).2 ++ ms)
    (11 < (param.getD 0).toNat → deliver (.lgt (.act .scene param)) s = refused .range) ∧
    ((param.getD 0).toNat ≤ 11 → scene = [] → deliver (.lgt (.act .scene param)) s = refused .state) ∧
    ((param.getD 0).toNat ≤ 11 → scene ≠ [] → deliver (.lgt (.act .scene param)) s = lit (scene.foldl write l)) ∧
    (standingHeld l 2 = true → deliver (.lgt (.act .wakeLight param)) s = refused .held) ∧
    (standingHeld l 2 = false →
      deliver (.lgt (.act .wakeLight param)) s = lit (writeTarget 2 (param.getD 600).toNat 12000 l)) ∧
    (r.record = none → deliver (.rcl (.act .quietBegin)) s = refused .state) ∧
    (r.record ≠ none → deliver (.rcl (.act .quietBegin)) s = quiet true) ∧
    deliver (.rcl (.act .quietEnd)) s = quiet false ∧
    deliver (.alr (.act .wakeAlarm)) s = alarm 5
      [.sch (.answer none), post 17 (u32 r.cabTime ++ u8 (match (entered 5).state with
        | .inactive => 0
        | .sounding => 1
        | .held => 2
        | .silenced => 3))] ∧
    deliver (.alr (.act .userAlarm)) s = alarm 7 [.sch (.answer none)])

/-- R155 to R157: REFRESH_TIMER_EXPIRY with the timer run out restarts it at 300 s and makes a derivation while a rest record
is open. Of the six rest entries in slots 10 to 15 (QUIET_BEGIN, PRECHILL_BEGIN, PREHEAT_START, QUIET_END, WAKE_LIGHT,
WAKE_ALARM) one whose kind is done stands, the first two are removed in a rest that leaves no quiet time, and each other stands
at its due time or is put there, with the insertion counter's next number, in slot order (R146). The sweep ends the derivation.
A PREHEAT_START that a derivation moves alone onto the due time of QUIET_END and WAKE_LIGHT takes a fresh number and so comes
behind both: R157's table with R146 is followed there, against the sentence of R157 that it falls ahead of both, which is the
model's choice (log 45). Due times are not wrapped at 32 bits, the model's reading (log 27), and an expiry without its timer
run out has no effect (log 2). R154, R155, R157, R158: what SCH does with the rest record that RCL hands it. An opening takes
the start and W, makes every kind waiting, starts the refresh timer at 300 s and makes a derivation (`restDerived`); a changed
W makes one; a CLOCK_SET makes one with the shifted start while a record is open, and otherwise only the sweep follows. A close
empties slots 10 to 15 and stops the refresh timer. OUTSIDE is held for the next derivation. -/
def Obligations.RefreshDerivesTheRestEntries : Prop :=
  (∀ (start wake : Nat) (s : State),
    let c := s.sch
    let delay := s.rcl.settings.quietDelay
    let lead : Nat := match c.outside with
      | none => 3600
      | some t => min 5400 (max 600 (600 + 60 * (10 - t.tdiv 10).toNat))
    let dues := [start + delay, start + delay - 1200, wake - lead, wake - 1200, wake - 1200, wake]
    let actions : List Action := [.quietBegin, .prechillBegin, .preheatStart, .quietEnd, .wakeLight, .wakeAlarm]
    let inserted (i : Nat) : Bool :=
      c.done.getD i false == false && (decide (2 ≤ i) || decide (start + delay < wake - 1200)) &&
        ((c.slots[10 + i]?).join).all fun e => decide (e.due ≠ dues.getD i 0)
    let number (i : Nat) : Nat := c.counter + ((List.range i).filter inserted).length
    (c.refresh = some 0 → c.rest = some (start, wake) → c.slots.length = 16 →
      let c' := restDerived start wake delay { c with refresh := some 300 }
      exec .refreshTimerExpiry s = .next (settle [.sch .sweep] { fresh s with sch := c' }) ∧
        c' = { c with slots := c'.slots, counter := number 6, refresh := some 300 } ∧
        c'.slots.length = 16 ∧ (∀ n, n < 10 → c'.slots[n]? = c.slots[n]?) ∧
        ∀ i, i < 6 →
          let old := (c.slots[10 + i]?).join
          let new := (c'.slots[10 + i]?).join
          let due := dues.getD i 0
          (c.done.getD i false = true → new = old) ∧
          (c.done.getD i false = false → i < 2 → wake - 1200 ≤ start + delay → new = none) ∧
          (c.done.getD i false = false → (2 ≤ i ∨ start + delay < wake - 1200) →
            (∀ e, old = some e → e.due = due → new = old) ∧
            (∀ e, old = some e → e.due ≠ due → new = some { e with due := due, insertion := number i }) ∧
            (old = none → new = some ⟨due, actions.getD i .userAlarm, none, none, number i, false⟩))) ∧
    (c.refresh = some 0 → c.rest = none →
      exec .refreshTimerExpiry s = .next { fresh s with sch := { c with refresh := some 300 } }) ∧
    (c.refresh ≠ some 0 → exec .refreshTimerExpiry s = .next (fresh s))) ∧
  (∀ (start wake : Nat) (shifted : Option Nat) (outside : Option Int) (s : State),
    let c := s.sch
    let delay := s.rcl.settings.quietDelay
    let derived (start wake : Nat) (c : Sch) : State × List Msg :=
      ({ s with sch := restDerived start wake delay { c with rest := some (start, wake) } }, [.sch .sweep])
    deliver (.sch (.restOpened start wake)) s =
      derived start wake { c with done := List.replicate 6 false, refresh := some 300 } ∧
    (∀ opened w, c.rest = some (opened, w) → deliver (.sch (.restWake wake)) s = derived opened wake c) ∧
    (c.rest = none → deliver (.sch (.restWake wake)) s = (s, [])) ∧
    deliver (.sch .restClosed) s =
      ({ s with sch := { c with
          slots := c.slots.take 10 ++ List.replicate 6 none, refresh := none, rest := none } }, []) ∧
    (∀ opened w moved, c.rest = some (opened, w) → shifted = some moved →
      deliver (.sch (.clockSet shifted)) s = derived moved w c) ∧
    ((c.rest = none ∨ shifted = none) → deliver (.sch (.clockSet shifted)) s = (s, [.sch .sweep])) ∧
    deliver (.sch (.outside outside)) s = ({ s with sch := { c with outside := outside } }, []))

/-- R148, R149, R150: SCHED_ADD, SCHED_REMOVE and SCHED_LIST. An action above 10, a parameter that the action may not carry (by
the parameter column of R147's table), a period not 60 to 604,800 s or a due time in the past is answered RANGE, ten host
entries held FULL; otherwise the entry takes the lowest empty host slot with the carried fields, the late flag clear and a
fresh insertion number, the reply carries the slot, and the firing sweep that follows is taken before the reply is placed, a
due time of now being accepted. A removal answers RANGE above slot 15 and STATE for an empty one, and otherwise the action and
due time, a rest entry's kind being done. A list carries the number held and up to four entries in table order from the
position asked for. -/
def Obligations.ScheduleRequestsKeepTheTable : Prop :=
  ∀ (tag : Byte) (x : SchedArgs) (n : Nat) (s : State), HasSlot s →
    let c := s.sch
    let u := dispatched 0x91#8 tag s
    let v := dispatched 0x92#8 tag s
    let action : Action := match x.action with
      | 0 => .preheatStart | 1 => .heatStop | 2 => .coolEnable | 3 => .coolDisable | 4 => .prechillBegin | 5 => .scene
      | 6 => .wakeLight | 7 => .quietBegin | 8 => .quietEnd | 9 => .wakeAlarm | _ => .userAlarm
    let param : Bool := match action with
      | .preheatStart | .coolEnable => true
      | .scene => x.param.any fun p => decide (0 ≤ p ∧ p ≤ 255)
      | .wakeLight => x.param.all fun p => decide (0 ≤ p ∧ p ≤ 1000)
      | _ => x.param.isNone
    let ok := x.action ≤ 10 ∧ param = true ∧ x.period.all (fun p => decide (60 ≤ p ∧ p ≤ 604800)) = true ∧ s.rcl.cabTime ≤ x.due
    let empty := [0, 1, 2, 3, 4, 5, 6, 7, 8, 9].find? fun k => c.slots[k]? == some none
    let entry : SchedEntry := ⟨x.due, action, x.param, x.period, c.counter, false⟩
    (¬ok → exec (.schedAdd tag x) s = .next (finish [] (answered 0x91#8 tag 3 [] u))) ∧
    (ok → empty = none → exec (.schedAdd tag x) s = .next (finish [] (answered 0x91#8 tag 5 [] u))) ∧
    (∀ k, empty = some k → ok →
      exec (.schedAdd tag x) s =
        .next (finish [.sch .sweep] (answered 0x91#8 tag 0 (u8 k)
          { u with sch := { c with slots := c.slots.set k (some entry), counter := c.counter + 1 } }))) ∧
    (15 < n → exec (.schedRemove tag n) s = .next (finish [] (answered 0x92#8 tag 3 [] v))) ∧
    (n ≤ 15 → (c.slots[n]?).join = none → exec (.schedRemove tag n) s = .next (finish [] (answered 0x92#8 tag 4 [] v))) ∧
    (∀ e, (c.slots[n]?).join = some e → n ≤ 15 →
      exec (.schedRemove tag n) s =
        .next (finish [] (answered 0x92#8 tag 0 (u8 e.action.code ++ u32 e.due)
          { v with sch := { c with
            slots := c.slots.set n none, done := if 10 ≤ n then c.done.set (n - 10) true else c.done } }))) ∧
    exec (.schedList tag n) s =
      .next (finish [] (answered 0x93#8 tag 0
        (let order := tableOrder c
        let shown := (order.drop n).take 4
        u8 order.length ++ u8 shown.length ++ (shown.zipIdx n).flatMap fun p =>
          u8 p.1.1 ++ u32 p.1.2.due ++ u8 p.1.2.action.code ++ u8 (if p.1.1 < 10 then 0 else 1) ++
            (match p.1.2.param with
              | none => u8 0
              | some y => u8 1 ++ s16 y) ++
            (match p.1.2.period with
              | none => u8 0
              | some y => u8 1 ++ u32 y) ++ u8 p.2)
        (dispatched 0x93#8 tag s)))

/-- R164, R171: SOUNDING_TIME_EXPIRY silences an event alert (kinds 5 to 7) that has sounded for 600 s, and RE_SOUND_EXPIRY
sounds a silenced alert again when its timer has run out. Otherwise only the event counter advances. R162, R163, R165: a
condition word to a kind of 0 to 4. A raise takes the record out of INACTIVE, to SOUNDING, or to HELD with the quiet flag set
and an urgency of 2 or more (kinds 3 and 4); a clear takes it to INACTIVE; the same word again is nothing. R164: a raise of an
event kind sounds it and starts its sounding time anew, or holds it in the quiet. R166, R172: CHG is told when sounding begins
or ends and woken when an alert leaves INACTIVE, and then the owner settles (`alertsFollow`; the order is the model's choice,
log 58). R165: a change of the quiet flag at ALR: set, it holds every SOUNDING alert of an urgency of 2 or 3 (kinds 3 to 7);
cleared, it sounds every held one; the owner settles once after all of them (log 36). R170: a BTN1 long press acknowledges the
owner's alert and posts ALERT_ACKED (cause 23) with the source BUTTON, 1; without an owner nothing changes. -/
def Obligations.AlertRecordsFollowTheirWords : Prop :=
  (∀ (kind : Nat) (s : State),
    let a := s.alr
    let r := a.records.getD kind ⟨.inactive, false, 0, none⟩
    let put (r : AlertRecord) : Alr := { a with records := a.records.set kind r }
    (5 ≤ kind → r.state = .sounding → 600 ≤ r.sounding →
      exec (.soundingTimeExpiry kind) s = .next (alertsNext (fresh s) (put { r with state := .inactive }) [])) ∧
    (kind < 5 ∨ r.state ≠ .sounding ∨ r.sounding < 600 → exec (.soundingTimeExpiry kind) s = .next (fresh s)) ∧
    (r.state = .silenced → r.resound = some 0 →
      exec (.reSoundExpiry kind) s =
        .next (alertsNext (fresh s) (put { r with state := .sounding, resound := none }) [])) ∧
    (r.state ≠ .silenced ∨ r.resound ≠ some 0 → exec (.reSoundExpiry kind) s = .next (fresh s))) ∧
  (∀ (kind : Nat) (raised : Bool) (s : State), kind < s.alr.records.length →
    let a := s.alr
    let r := a.records.getD kind ⟨.inactive, false, 0, none⟩
    let entered : AlertState := if s.rcl.quiet = true ∧ 3 ≤ kind then .held else .sounding
    let put (r : AlertRecord) : Alr := { a with records := a.records.set kind r }
    let settled (a' : Alr) : State × List Msg := ({ s with alr := (ownerSettled a').1 }, alertsFollow a a')
    (r.raised = true → raised = false →
      deliver (.alr (.condition kind raised)) s =
        settled (put { r with raised := false, state := .inactive, resound := none })) ∧
    (r.raised = false → raised = true →
      deliver (.alr (.condition kind raised)) s =
        settled (put { r with raised := true, state := if r.state = .inactive then entered else r.state })) ∧
    (r.raised = raised → deliver (.alr (.condition kind raised)) s = settled a) ∧
    deliver (.alr (.raise kind)) s =
      settled (put
        (match r.state with
        | .inactive => { r with state := entered, sounding := 0 }
        | .sounding => { r with sounding := 0 }
        | _ => r))) ∧
  (∀ (flag : Bool) (s : State),
    let a := s.alr
    let a' := { a with records := a.records.zipIdx.map fun p => { p.1 with
      state :=
        if flag = true ∧ p.1.state = .sounding ∧ 3 ≤ p.2 then .held
        else if flag = false ∧ p.1.state = .held then .sounding
        else p.1.state } }
    deliver (.alr (.quiet flag)) s = ({ s with alr := (ownerSettled a').1 }, alertsFollow a a')) ∧
  (∀ s : State,
    let a := s.alr
    (a.owner = none → deliver (.alr .buttonAck) s = (s, [])) ∧
    ∀ k, a.owner = some k → k < a.records.length →
      deliver (.alr .buttonAck) s =
        ({ s with alr := (ownerSettled (acknowledged k a)).1 },
          alertsFollow a (acknowledged k a) ++ [post 23 (u8 k ++ u8 (if 5 ≤ k then 0 else 3) ++ u8 1)]))

/-- R166, R167: the buzzer's pattern. BURST_START begins the owner's burst at the end of a gap; BEEP_PHASE turns each on period
of 200 ms into an off period and each off period but the last into the next beep; the last off period, by BEEP_PHASE or
BURST_BOUNDARY, leads into the gap while the owner comes first, and hands the buzzer over otherwise. Otherwise only the event
counter advances. The time of the next burst, set to the period at the start of a burst and counted down at phase changes only,
is the model's choice (log 26). -/
def Obligations.BuzzerFollowsThePattern : Prop :=
  ∀ s : State,
    let a := s.alr
    let left := a.nextBurst - 200
    let u := fresh s
    let result (p : Alr × List Msg) := Host.Outcome.next (φ := Fault) (ρ := Refusal) (settle p.2 { u with alr := p.1 })
    let boundary := match firstSounding a with
      | none => ownedByNone a
      | some k => if a.owner = some k then ({ a with phase := .gap, nextBurst := left }, []) else ownedBy k a
    (∀ k, a.owner = some k → a.phase = .gap →
      exec .burstStart s =
        result ({ a with phase := .beep 1 true, nextBurst := burstPeriod k, buzzer := true }, [])) ∧
    (a.owner = none ∨ a.phase ≠ .gap → exec .burstStart s = .next u) ∧
    (∀ n, a.phase = .beep n true →
      exec .beepPhase s = result ({ a with phase := .beep n false, nextBurst := left, buzzer := false }, []) ∧
      exec .burstBoundary s = .next u) ∧
    (∀ n, a.phase = .beep n false →
      (a.owner.all (fun k => decide (n < burstBeeps k)) = true →
        exec .beepPhase s = result ({ a with phase := .beep (n + 1) true, nextBurst := left, buzzer := true }, []) ∧
        exec .burstBoundary s = .next u) ∧
      (a.owner.any (fun k => decide (burstBeeps k ≤ n)) = true →
        exec .beepPhase s = result boundary ∧ exec .burstBoundary s = result boundary)) ∧
    ((a.phase = .silent ∨ a.phase = .gap) → exec .beepPhase s = .next u ∧ exec .burstBoundary s = .next u)

/-- R168, R169, R171, R172: ALERT_ACK. A kind above 7 other than 255 is answered RANGE; 255 stands for the owner; an alert that
neither sounds nor is held, or no owner, is answered STATE. Otherwise an event alert goes to INACTIVE and a condition alert to
SILENCED, with a re-sound timer of 600 s for kinds 0 to 2 (`acknowledged`), CHG is told when that ends all sounding, the owner
settles (`alertsFollow`; log 58), the reply carries the kind and its state, and ALERT_ACKED (cause 23) is posted. The settings
form takes a channel up to 7, RANGE above, and moves the flash of an owner to it. R168: LGT's answers. A flash accepted sets
the flash flag, and the end of the flash on the alert channel clears it; that of another channel changes nothing. -/
def Obligations.AlertAckSilencesAnAlert : Prop :=
  (∀ (tag : Byte) (kind channel : Nat) (s : State), HasSlot s →
    let a := s.alr
    let u := dispatched 0x8D#8 tag s
    let target := if kind = 255 then a.owner else some kind
    let bad := 7 < kind ∧ kind ≠ 255
    let state (k : Nat) := (a.records.getD k ⟨.inactive, false, 0, none⟩).state
    (bad → exec (.alertAck tag kind) s = .next (finish [] (answered 0x8D#8 tag 3 [] u))) ∧
    (¬bad → (target = none ∨ (∃ k, target = some k ∧ (state k = .inactive ∨ state k = .silenced))) →
      exec (.alertAck tag kind) s = .next (finish [] (answered 0x8D#8 tag 4 [] u))) ∧
    (∀ k, target = some k → k < a.records.length → ¬bad → (state k = .sounding ∨ state k = .held) →
      let a' := acknowledged k a
      let code := if 5 ≤ k then 0 else 3
      exec (.alertAck tag kind) s =
        .next (finish (alertsFollow a a' ++ [post 23 (u8 k ++ u8 code ++ u8 0)])
          (answered 0x8D#8 tag 0 (u8 k ++ u8 code) { u with alr := (ownerSettled a').1 }))) ∧
    (7 < channel → exec (.alertAckSettings tag channel) s = .next (finish [] (answered 0x8D#8 tag 3 [] u))) ∧
    (channel ≤ 7 → (a.owner = none ∨ channel = a.channel) →
      exec (.alertAckSettings tag channel) s =
        .next (finish [] (answered 0x8D#8 tag 0 [] { u with alr := { a with channel := channel } }))) ∧
    (channel ≤ 7 → a.owner ≠ none → channel ≠ a.channel →
      exec (.alertAckSettings tag channel) s =
        .next (finish [.lgt (.flashCancel a.channel), .lgt (.flashStart channel 1000 4 4)]
          (answered 0x8D#8 tag 0 [] { u with alr := { a with channel := channel, flashFlag := false } })))) ∧
  (∀ (k : Nat) (s : State),
    deliver (.alr .flashAccepted) s = ({ s with alr := { s.alr with flashFlag := true } }, []) ∧
    (k = s.alr.channel → deliver (.alr (.flashEnded k)) s = ({ s with alr := { s.alr with flashFlag := false } }, [])) ∧
    (k ≠ s.alr.channel → deliver (.alr (.flashEnded k)) s = (s, [])))

/-- R175 to R178, R183: a post. CHG is stirred first. The lowest-numbered descriptor ARMED for the cause takes a capture
record: the cab time and each quantity, -32,768 for none; the last record makes it DONE and CAPTURE_DONE (cause 24) is posted.
Otherwise a level above the mask sets the pending mark, an entry of the cause takes the post, and with fewer than 16 entries a
new entry goes to its place. In a full queue a more urgent post displaces the last entry, or the one before it when the last is
in flight, and either way one report is lost. -/
def Obligations.PostIsCapturedMaskedOrQueued : Prop :=
  ∀ (cause : Nat) (data : List Byte) (s : State),
    let q := s.rpq
    let now := s.rcl.cabTime
    let level := q.levels.getD (cause - 1) 0
    let desc (d : Nat) : Desc := q.descs.getD d ⟨.free, 0, [], 0, 0, 0⟩
    let armed := [0, 1, 2, 3].find? fun d => decide ((desc d).state = .armed ∧ (desc d).cause = cause)
    let value (n : Nat) : Int := match n with
      | 0 => (s.chg.v.map Int.ofNat).getD (-32768)
      | 1 => s.chg.i.getD (-32768)
      | 2 => s.chg.q
      | 3 => (s.chg.figures.map fun f => (f.a : Int)).getD (-32768)
      | 4 => ((s.chg.q * 1000 / s.chg.battery.cNom : Nat) : Int)
      | 5 => (s.chg.temp 0).getD (-32768)
      | 6 => (s.chg.temp 1).getD (-32768)
      | 7 => (s.chg.temp 2).getD (-32768)
      | 8 => (s.chg.temp 3).getD (-32768)
      | 9 => s.chg.tb.getD (-32768)
      | 10 => s.htr.level
      | _ => match s.dmd.budget with
        | .normal => 0
        | .trimmed => 1
        | .critical => 2
        | .cutoff => 3
    let new : QEntry := ⟨cause, level, 1, now, now, data, false, 0, 0⟩
    let next (q' : Rpq) (hands : List Msg) : State × List Msg :=
      ({ s with rpq := reportsKept s q' }, .chg .stir :: (hands ++ reportsFollow s q'))
    (∀ d, armed = some d →
      let x := desc d
      deliver (.rpq (.post cause data)) s = next
        { q with
          buffer := q.buffer.set (x.start + x.taken) (some ⟨now, x.quantities.map value⟩)
          descs := q.descs.set d
            { x with taken := x.taken + 1, state := if x.count ≤ x.taken + 1 then .done else .armed } }
        (if x.count ≤ x.taken + 1 then [post 24 (u8 d ++ u8 cause ++ u8 (x.taken + 1))] else [])) ∧
    (armed = none → q.mask < level →
      deliver (.rpq (.post cause data)) s = next { q with marks := q.marks.set (cause - 1) true } []) ∧
    (armed = none → level ≤ q.mask → (q.queue.any fun e => decide (e.cause = cause)) = true →
      deliver (.rpq (.post cause data)) s = next
        { q with queue := q.queue.map fun e =>
            if e.cause ≠ cause then e
            else if e.inFlight = false then
              { e with count := min 255 (e.count + 1), lastTime := now, data := data, since := 0 }
            else
              { e with
                count := min 255 (e.count + 1), lastTime := now, data := data, since := min 255 (e.since + 1)
                sinceFirst := if e.since = 0 then now else e.sinceFirst } } []) ∧
    (armed = none → level ≤ q.mask → (q.queue.any fun e => decide (e.cause = cause)) = false →
      (q.queue.length < 16 → deliver (.rpq (.post cause data)) s = next { q with queue := placed new q.queue } []) ∧
      (16 ≤ q.queue.length → ∀ last, q.queue.getLast? = some last →
        deliver (.rpq (.post cause data)) s = next
          { q with
            lost := min 65535 (q.lost + 1)
            queue :=
              if last.level ≤ level then q.queue
              else if last.inFlight = false then placed new q.queue.dropLast
              else placed new (q.queue.take (q.queue.length - 2) ++ [last]) } []))

/-- R174, R178, R179: REPORT_GATE, and CAUSE_LEVEL in its two forms. A value out of range is answered RANGE. The gate takes the
setting, and the reply carries it, the entries queued and the lost-report count before any clear. A cause's level is replaced
and its queued entry moves to the place the new level gives it. Mask and threshold are replaced. ATTN is evaluated afresh. The
count in that reply takes 2 bytes, the model's choice (log 16). -/
def Obligations.GateAndLevelRequests : Prop :=
  ∀ (tag : Byte) (a b : Nat) (s : State), HasSlot s →
    let q := s.rpq
    let u := dispatched 0x8E#8 tag s
    let v := dispatched 0x98#8 tag s
    let on (q : Rpq) (u : State) : State := { u with rpq := { q with attn := attnOf q } }
    (a ≤ 1 → b ≤ 1 →
      exec (.reportGate tag a b) s = .next (finish [] (answered 0x8E#8 tag 0 (u8 a ++ u8 q.queue.length ++ u16 q.lost)
        (on { q with gate := decide (a = 1), lost := if b = 1 then 0 else q.lost } u)))) ∧
    (1 < a ∨ 1 < b → exec (.reportGate tag a b) s = .next (finish [] (answered 0x8E#8 tag 3 [] (on q u)))) ∧
    (1 ≤ a → a ≤ 33 → b ≤ 7 →
      exec (.causeLevel tag a b) s = .next (finish [] (answered 0x98#8 tag 0 (u8 a ++ u8 b)
        (on
          { q with
            levels := q.levels.set (a - 1) b
            queue := match q.queue.find? fun e => decide (e.cause = a) with
              | none => q.queue
              | some e => placed { e with level := b } (q.queue.filter fun x => decide (x.cause ≠ a)) } v)))) ∧
    (a = 0 ∨ 33 < a ∨ 7 < b → exec (.causeLevel tag a b) s = .next (finish [] (answered 0x98#8 tag 3 [] (on q v)))) ∧
    (a ≤ 7 → b ≤ 7 →
      exec (.causeLevelSettings tag a b) s =
        .next (finish [] (answered 0x98#8 tag 0 [] (on { q with mask := a, threshold := b } v)))) ∧
    (7 < a ∨ 7 < b → exec (.causeLevelSettings tag a b) s = .next (finish [] (answered 0x98#8 tag 3 [] (on q v))))

/-- R182, R184: CAPTURE_ARM, CAPTURE_READ and CAPTURE_FREE. Arming is refused RANGE out of range, STATE on a descriptor that is
not FREE, and RANGE on a region another descriptor holds; otherwise the descriptor is ARMED with an empty region. A read
answers the descriptor and the record at an index below the records taken, marked not taken otherwise. A freed descriptor is
FREE; its other fields, which R182 gives only to one that is not FREE, are 0 or empty, the model's choice (log 30). -/
def Obligations.CaptureRequestsKeepTheDescriptors : Prop :=
  ∀ (tag : Byte) (x : ArmArgs) (d n : Nat) (s : State), HasSlot s → s.rpq.descs.length = 4 → s.rpq.buffer.length = 32 →
    let q := s.rpq
    let desc (d : Nat) : Desc := q.descs.getD d ⟨.free, 0, [], 0, 0, 0⟩
    let result (kind : Byte) (status : Nat) (body : List Byte) (q : Rpq) := Host.Outcome.next (φ := Fault) (ρ := Refusal)
      (finish [] (answered kind tag status body { dispatched kind tag s with rpq := { q with attn := attnOf q } }))
    let ok := x.desc ≤ 3 ∧ 1 ≤ x.cause ∧ x.cause ≤ 33 ∧ 1 ≤ x.quantities.length ∧ x.quantities.length ≤ 6 ∧
      (∀ k ∈ x.quantities, k ≤ 11) ∧ 1 ≤ x.count ∧ x.count ≤ 16 ∧ x.start ≤ 31 ∧ x.start + x.count ≤ 32
    let shared := [0, 1, 2, 3].any fun m =>
      decide ((desc m).state ≠ .free ∧ x.start < (desc m).start + (desc m).count ∧ (desc m).start < x.start + x.count)
    (¬ok → exec (.captureArm tag x) s = result 0x99#8 3 [] q) ∧
    (ok → (desc x.desc).state ≠ .free → exec (.captureArm tag x) s = result 0x99#8 4 [] q) ∧
    (ok → (desc x.desc).state = .free → shared = true → exec (.captureArm tag x) s = result 0x99#8 3 [] q) ∧
    (ok → (desc x.desc).state = .free → shared = false →
      exec (.captureArm tag x) s = result 0x99#8 0 []
        { q with
          descs := q.descs.set x.desc ⟨.armed, x.cause, x.quantities, x.count, x.start, 0⟩
          buffer := q.buffer.take x.start ++ List.replicate x.count none ++ q.buffer.drop (x.start + x.count) }) ∧
    (3 < d → exec (.captureRead tag d n) s = result 0x9A#8 3 [] q ∧ exec (.captureFree tag d) s = result 0x9B#8 3 [] q) ∧
    (d ≤ 3 → (desc d).state = .free → exec (.captureRead tag d n) s = result 0x9A#8 4 [] q) ∧
    (d ≤ 3 → (desc d).state ≠ .free → (desc d).count ≤ n → exec (.captureRead tag d n) s = result 0x9A#8 3 [] q) ∧
    (d ≤ 3 → (desc d).state ≠ .free → n < (desc d).count →
      exec (.captureRead tag d n) s = result 0x9A#8 0
        (u8 (if (desc d).state = .armed then 1 else 2) ++ u8 (desc d).cause ++ u8 (desc d).quantities.length ++
          (desc d).quantities.flatMap u8 ++ u8 (desc d).taken ++
          (if n < (desc d).taken then
            match (q.buffer.getD ((desc d).start + n) none) with
            | none => u8 0
            | some r => u8 1 ++ u32 r.time ++ r.values.flatMap s32
          else u8 0)) q) ∧
    (d ≤ 3 → exec (.captureFree tag d) s = result 0x9B#8 0 [] { q with descs := q.descs.set d ⟨.free, 0, [], 0, 0, 0⟩ })

/-- R186, R188, R189, R194: each received byte, and the gap timer's expiry. In HUNT only 0x5A begins a frame; a LEN outside
2..58 is a length error; BODY keeps LEN bytes; in CHECK a byte that is not the CRC of LEN and the bytes kept is a CRC error. An
error counts, saturating at 65,535, and posts LINK_ERRORS (cause 25) with its number and the counters. Every byte stirs CHG
first. R189, R190, R192, R194: the last byte of a good frame. A KIND outside 0x01..0x3F is discarded. With both slots full the
frame is discarded as an overrun, counted up to 65,535, and LINK_ERRORS (cause 25, number 3) is posted. With a slot left a
payload that spells no request of its code is answered UNKNOWN, status 9; a Service request with SERVICE low DENIED, status 6;
STATUS, READINGS and LINK_STATS are answered by LNK; any other goes to its owner. The reply has KIND the code plus 0x80, and
the frame's TAG. CHG is stirred first. -/
def Obligations.FramesAreAssembledAndDispatched : Prop :=
  (∀ (b : Byte) (s : State), s.lnk.answer = none → s.lnk.reserved = none →
    let l := s.lnk
    let next (l : Lnk) (ms : List Msg) := Host.Outcome.next (φ := Fault) (ρ := Refusal)
      (closed (settle (.chg .stir :: ms) { fresh s with lnk := l }))
    let errors (n : Nat) (l : Lnk) := post 25 (u8 n ++ u16 l.gapErrs ++ u16 l.lenErrs ++ u16 l.crcErrs ++ u16 l.overruns)
    let long := { l with asm := .hunt, lenErrs := min 65535 (l.lenErrs + 1) }
    let bad := { l with asm := .hunt, crcErrs := min 65535 (l.crcErrs + 1) }
    let lost := { l with asm := .hunt, gapErrs := min 65535 (l.gapErrs + 1) }
    (l.asm = .hunt → b = 0x5A#8 → exec (.receiveByte b) s = next { l with asm := .length } []) ∧
    (l.asm = .hunt → b ≠ 0x5A#8 → exec (.receiveByte b) s = next l []) ∧
    (l.asm = .length → 2 ≤ b.toNat → b.toNat ≤ 58 →
      exec (.receiveByte b) s = next { l with asm := .body b.toNat [] } []) ∧
    (l.asm = .length → b.toNat < 2 ∨ 58 < b.toNat → exec (.receiveByte b) s = next long [errors 1 long]) ∧
    (∀ len kept, l.asm = .body len kept →
      exec (.receiveByte b) s = next
        { l with asm := if kept.length + 1 < len then .body len (kept ++ [b]) else .check len (kept ++ [b]) } []) ∧
    (∀ len kept, l.asm = .check len kept → b ≠ crc8 (BitVec.ofNat 8 len :: kept) →
      exec (.receiveByte b) s = next bad [errors 2 bad]) ∧
    (l.asm = .hunt → exec .gapTimerExpiry s = .next (fresh s)) ∧
    (l.asm ≠ .hunt → exec .gapTimerExpiry s = .next (settle [errors 0 lost] { fresh s with lnk := lost }))) ∧
  (∀ (kind tag : Byte) (payload : List Byte) (s : State), s.lnk.answer = none → s.lnk.reserved = none →
    s.lnk.asm = .check (payload.length + 2) (kind :: tag :: payload) →
    let b := crc8 (BitVec.ofNat 8 (payload.length + 2) :: kind :: tag :: payload)
    let code := kind.toNat
    let heard := { s with lnk := { s.lnk with asm := .hunt } }
    let next (ms : List Msg) (u : State) := Host.Outcome.next (φ := Fault) (ρ := Refusal)
      (closed (settle (.chg .stir :: ms) u))
    let reply := kind + 0x80#8
    let u := dispatched reply tag heard
    let counters := u16 s.lnk.gapErrs ++ u16 s.lnk.lenErrs ++ u16 s.lnk.crcErrs ++ u16 s.lnk.overruns
    let overruns := min 65535 (s.lnk.overruns + 1)
    let taken := 1 ≤ code ∧ code ≤ 0x3F ∧ HasSlot s
    (code = 0 ∨ 0x3F < code → exec (.receiveByte b) s = next [] (fresh heard)) ∧
    (1 ≤ code → code ≤ 0x3F → 2 ≤ s.lnk.slots.length →
      exec (.receiveByte b) s = next
        [post 25 (u8 3 ++ u16 s.lnk.gapErrs ++ u16 s.lnk.lenErrs ++ u16 s.lnk.crcErrs ++ u16 overruns)]
        { fresh heard with lnk := { heard.lnk with overruns := overruns } }) ∧
    (taken → parseRequest code payload = none → exec (.receiveByte b) s = next [] (answered reply tag 9 [] u)) ∧
    ∀ r, parseRequest code payload = some r → taken →
      (0x30 ≤ code → s.lnk.service = false → exec (.receiveByte b) s = next [] (answered reply tag 6 [] u)) ∧
      (code < 0x30 ∨ s.lnk.service = true → ∀ m, r.owner = some m → exec (.receiveByte b) s = next [m] u) ∧
      (r = .status →
        exec (.receiveByte b) s =
          next [.rpq (.clearMarks s.rpq.marks)] (answered reply tag 0 (statusBody (fresh s)) u)) ∧
      (r = .readings → exec (.receiveByte b) s = next [] (answered reply tag 0 (readingsBody (fresh s)) u)) ∧
      (r = .linkStats 0 → exec (.receiveByte b) s = next [] (answered reply tag 0 counters u)) ∧
      (r = .linkStats 1 →
        exec (.receiveByte b) s = next [] (answered reply tag 0 counters
          { u with lnk := { u.lnk with gapErrs := 0, lenErrs := 0, crcErrs := 0, overruns := 0 } })) ∧
      (∀ n, r = .linkStats n → 1 < n → exec (.receiveByte b) s = next [] (answered reply tag 3 [] u)))

/-- R180, R193: FRAME_SENT. A reply goes on with its next part of 54 bytes; after its last part the slot is empty and the
transmitter takes the reply of the other slot, and RPQ may have a report taken. After a report the waiting reply is taken and
RPQ takes the end: the entry in flight is removed, or kept with the posts since the take. An idle transmitter sends nothing.
R180, R187: a report that LNK takes is on TXD, in its frame. -/
def Obligations.FrameSentFreesTheTransmitter : Prop :=
  (∀ s : State,
    let l := s.lnk
    let q := s.rpq
    let next (l : Lnk) (ms : List Msg) := Host.Outcome.next (φ := Fault) (ρ := Refusal) (settle ms { fresh s with lnk := l })
    let idle := { l with tx := .idle, txFrame := [] }
    let ended := { q with queue := q.queue.flatMap fun e =>
      if e.inFlight = false then [e]
      else if e.since = 0 then []
      else [{ e with count := e.since, firstTime := e.sinceFirst, inFlight := false, since := 0, sinceFirst := 0 }] }
    (l.tx = .idle → exec .frameSent s = .next (fresh s)) ∧
    (l.tx = .report → exec .frameSent s = next (replyTaken idle) [.rpq .reportEnd]) ∧
    (∀ n, l.tx = .reply n → ∀ r, l.slots.head? = some r →
      (54 * (n + 1) < r.body.length →
        exec .frameSent s = next { l with tx := .reply (n + 1), txFrame := replyFrame r (n + 1) } []) ∧
      (r.body.length ≤ 54 * (n + 1) →
        exec .frameSent s = next (replyTaken { idle with slots := l.slots.drop 1 }) [.rpq .linkFree])) ∧
    deliver (.rpq .linkFree) s = ({ s with rpq := reportsKept s q }, reportsFollow s q) ∧
    deliver (.rpq .reportEnd) s = ({ s with rpq := reportsKept s ended }, reportsFollow s ended)) ∧
  (∀ (frame : List Byte) (s : State),
    deliver (.lnk (.sendReport frame)) s = ({ s with lnk := { s.lnk with tx := .report, txFrame := frame } }, []))

/-- R195, Table 10-6: STATUS is answered with the 28 bytes of the summary, from the state at the dispatch. The pending marks it
carries as set are cleared, and nothing else changes. The cooler speed shown is the driven one, the model's choice (log 55). -/
def Obligations.StatusCarriesTheSummary : Prop :=
  ∀ (tag : Byte) (s : State), HasSlot s →
    let u := dispatched 0x81#8 tag s
    let bit (c : Bool) (n : Nat) : Nat := if c then 2 ^ n else 0
    let held (lo hi : Nat) : Nat := ((List.range 16).filter fun n =>
      decide (lo ≤ n ∧ n < hi) && ((s.sch.slots[n]?).join).isSome).length
    let alert (k : Nat) : Nat := match (s.alr.records.getD k ⟨.inactive, false, 0, none⟩).state with
      | .inactive => 0
      | .sounding => 1
      | .held => 2
      | .silenced => 3
    let desc (d : Nat) : Nat := match (s.rpq.descs.getD d ⟨.free, 0, [], 0, 0, 0⟩).state with
      | .free => 0
      | .armed => 1
      | .done => 2
    let marks (i : Nat) : Nat :=
      bit (s.rpq.marks.getD (8 * i) false) 0 + bit (s.rpq.marks.getD (8 * i + 1) false) 1 +
        bit (s.rpq.marks.getD (8 * i + 2) false) 2 + bit (s.rpq.marks.getD (8 * i + 3) false) 3 +
        bit (s.rpq.marks.getD (8 * i + 4) false) 4 + bit (s.rpq.marks.getD (8 * i + 5) false) 5 +
        bit (s.rpq.marks.getD (8 * i + 6) false) 6 + bit (s.rpq.marks.getD (8 * i + 7) false) 7
    let body :=
      u32 s.rcl.cabTime ++
      u8 (bit s.rcl.timeSet 0 + bit s.rcl.record.isSome 1 + bit s.rcl.quiet 2 + bit s.rcl.due 3 + bit s.rcl.overdue 4 +
        32 * (match s.rcl.period.activity with
          | .drive => 0 | .work => 1 | .available => 2 | .rest => 3)) ++
      u8 ((match s.chg.mode with
          | .active => 0 | .doze => 1 | .hibernate => 2) +
        bit s.chg.synced 2 +
        8 * (match s.chg.floor with
          | .clear => 0 | .critical => 1 | .cutoff => 2) +
        32 * (match s.dmd.budget with
          | .normal => 0 | .trimmed => 1 | .critical => 2 | .cutoff => 3)) ++
      u8 (heaterNumber s.htr.seq) ++
      u8 (s.htr.level + bit s.htr.keep.lockout 3 + bit s.htr.pendingTable.isSome 4) ++
      u8 (match s.htr.keep.fault with
        | none => 0
        | some .f1 => 1 | some .f2 => 2 | some .f3 => 3 | some .f4 => 4 | some .f5 => 5 | some .f6 => 6 | some .f7 => 7
        | some .f8 => 8 | some .f9 => 9) ++
      u8 (coolerNumber s.clr.state + 16 * s.clr.speed) ++
      u8 (s.lgt.stack.length + bit (s.lgt.channels.any fun c => c.flash.isSome) 3 + bit (tableOrder s.sch).head?.isSome 7) ++
      u8 (held 0 10 + 16 * held 10 16) ++
      u32 (match (tableOrder s.sch).head? with
        | none => 0
        | some e => e.2.due) ++
      u16 (alert 0 * 16384 + alert 1 * 4096 + alert 2 * 1024 + alert 3 * 256 + alert 4 * 64 + alert 5 * 16 + alert 6 * 4 +
        alert 7) ++
      u8 (s.alr.owner.getD 255) ++
      u8 (s.rpq.queue.length + bit s.rpq.gate 5 + bit s.sto.saving.isSome 6 + bit s.lnk.service 7) ++
      u16 s.rpq.lost ++
      u8 (marks 0) ++ u8 (marks 1) ++ u8 (marks 2) ++ u8 (marks 3) ++ u8 (marks 4) ++
      u8 (desc 0 + 4 * desc 1 + 16 * desc 2 + 64 * desc 3)
    body.length = 28 ∧ (s.sch.slots.length = 16 →
      exec (.status tag) s = .next (finish [] (answered 0x81#8 tag 0 body
        { u with rpq := { s.rpq with marks := s.rpq.marks.map fun _ => false, attn := attnOf s.rpq } })))

/-- R195 (R25, R81, R100, R123, R143, R172; log 17): READINGS is answered with the figures of CHG, HTR, CLR, LGT, RCL and ALR
in that order, and changes nothing. A temperature reads -32,768 when invalid; a figure that has no value before the first
measurement is a free value (log 21). The layout (log 17) and the driven speed of the cooler (log 55) are the model's choice. -/
def Obligations.ReadingsCarryTheFigures : Prop :=
  ∀ (tag : Byte) (s : State), HasSlot s →
    let c := s.chg
    let h := s.htr
    let k := s.clr
    let l := s.lgt
    let r := s.rcl
    let a := s.alr
    let u := dispatched 0x82#8 tag s
    let temp (t : Option Int) := s16 (t.getD (-32768))
    let timer (t : Option Nat) := u32 (t.getD 0)
    let figure (n : Nat) (f : Figures → Nat) : Int := match c.figures with
      | some x => f x
      | none => Config.unmeasuredFigure u.free n
    let activity : Nat := match r.period.activity with
      | .drive => 0
      | .work => 1
      | .available => 2
      | .rest => 3
    let record (n : Nat) : AlertRecord := a.records.getD n ⟨.inactive, false, 0, none⟩
    let chg :=
      s16 (match c.v with
        | some v => v
        | none => Config.unmeasuredFigure u.free 0) ++
      s16 (match c.i with
        | some i => i
        | none => Config.unmeasuredFigure u.free 1) ++
      u32 c.q ++ u16 (c.q * 1000 / c.battery.cNom) ++ beBytes 4 (figure 2 Figures.a) ++ temp (c.temp 0) ++ temp (c.temp 1) ++
      temp (c.temp 2) ++ temp (c.temp 3) ++ temp (c.temp 4) ++ temp c.tb ++ s16 c.r ++ beBytes 4 (figure 3 Figures.qd) ++
      beBytes 2 (figure 4 Figures.k) ++ beBytes 1 (figure 5 Figures.coldSteps) ++ beBytes 4 (figure 6 Figures.reserve) ++
      beBytes 4 (figure 7 Figures.u) ++ flagByte c.synced ++ u8 c.floor.code ++ u8 c.mode.code
    let htr :=
      u8 (heaterNumber h.seq) ++ u8 h.level ++ u8 (faultCode h.keep.fault) ++ flagByte h.keep.lockout ++
      flagByte h.pendingTable.isSome ++ u8 h.keep.failures ++ u8 h.keep.overheats ++ flagByte h.frostFlag ++
      flagByte h.frostLimited ++ u8 h.sc ++ u8 (if h.bias = .raise then 0 else 1)
    let clr :=
      u8 (coolerNumber k.state) ++ u8 k.speed ++ flagByte k.call ++ flagByte k.prechill ++ flagByte k.blind ++ u8 k.stalls ++
      u16 k.duty ++ u8 k.ring.length ++ flagByte k.warm
    let light (n : Nat) :=
      let x := l.channels.getD n ⟨0, 0, 0, false, none, 0⟩
      u16 (x.fine / 1000) ++ u16 x.target ++ u16 (standingTarget l n) ++ flagByte x.held ++ u16 x.output ++
        u8 (match x.flash with
          | none => 0
          | some f => if f.onPhase then 1 else 2)
    let lgt :=
      light 0 ++ light 1 ++ light 2 ++ light 3 ++ light 4 ++ light 5 ++ light 6 ++ light 7 ++
      u16 (match l.cabGrant.getD 0 with
        | 0 => 0 | 1 => 300 | 2 => 600 | _ => 1000) ++
      u16 (if l.safetyBudget = .cutoff then 0 else 1000) ++ u16 l.quietLight ++ timer l.doorTimer
    let rcl :=
      u32 r.cabTime ++ flagByte r.timeSet ++ u8 activity ++ flagByte r.record.isSome ++ flagByte r.quiet ++ flagByte r.due ++
      flagByte r.overdue ++ u8 activity ++ u32 r.period.start ++ u32 r.period.duration ++
      (match r.breakRun with
        | none => u8 0
        | some b => u8 1 ++ u32 b.start ++ u32 b.length ++ u32 b.rest ++ u32 b.available ++
          u8 (match b.marker with
            | .none => 0 | .split => 1 | .full => 2)) ++
      u32 r.acc ++ flagByte r.split ++
      (match r.record with
        | none => u8 0
        | some x => u8 1 ++ u32 x.start ++ u32 x.length ++ u32 x.wake ++ flagByte x.planned) ++
      u32 r.nextSerial
    let alr :=
      ([0, 1, 2, 3, 4, 5, 6, 7].flatMap fun n => u8 (match (record n).state with
        | .inactive => 0 | .sounding => 1 | .held => 2 | .silenced => 3)) ++
      (match a.owner with
        | none => u8 0
        | some n => u8 1 ++ u8 n) ++
      u32 (record 5).sounding ++ u32 (record 6).sounding ++ u32 (record 7).sounding ++ timer (record 0).resound ++
      timer (record 1).resound ++ timer (record 2).resound ++ flagByte a.flashFlag ++ u8 a.channel
    exec (.readings tag) s = .next (finish [] (answered 0x82#8 tag 0 (chg ++ htr ++ clr ++ lgt ++ rcl ++ alr) u))

/-- R197 to R199, R202: the store. A save's completion writes the snapshot with its CRC-16 and clears the flag; a State write's
completion writes its items and Q, begins the pending write with the values then current, and moves the stage of a RESTART that
waits: a write before its own, its own, the one pending behind it, done (log 10); the hourly timer run out starts again at
3,600 s and requests a State write. Otherwise only the event counter advances (log 2). R74, R197, R199: what HTR and CHG hand
to STO. Changed heater items are taken as those of the next State write, and they and the entry to HIBERNATE request a write:
it begins with the items and Q of that moment and makes the area invalid, or, with one in progress, one is pending behind it.
R198, R202: SETTINGS_SAVE takes a snapshot of every working value, invalidates the area and is answered ACCEPTED; RESTART, with
SERVICE high, requests a State write and is answered OK; its stage is then its own write, or the one ahead of it, and a RESTART
that waits already keeps its stage (log 10). With a save in progress both, and DEFAULTS, are answered BUSY. -/
def Obligations.StoreSavesAndWrites : Prop :=
  (∀ s : State,
    let t := s.sto
    let next (t : Sto) := Host.Outcome.next (φ := Fault) (ρ := Refusal) { fresh s with sto := t }
    let current : Saved := ⟨t.items, s.chg.q⟩
    let stage : RestartStage := match t.restarting with
      | .ahead => .own
      | .own => if t.writeAgain then .behind else .done
      | .behind => .done
      | r => r
    (∀ x, t.saving = some x →
      exec .settingsSaveComplete s = next { t with settingsArea := some ⟨x, crc16 (settingsBytes x)⟩, saving := none }) ∧
    (t.saving = none → exec .settingsSaveComplete s = .next (fresh s)) ∧
    (∀ x, t.writing = some x →
      exec .stateWriteComplete s = next
        (if t.writeAgain then
          { t with stateArea := none, writing := some current, writeAgain := false, restarting := stage }
        else { t with stateArea := some ⟨x, crc16 (savedBytes x)⟩, writing := none, restarting := stage })) ∧
    (t.writing = none → exec .stateWriteComplete s = .next (fresh s)) ∧
    (t.hourly = 0 →
      exec .hourlyStateTimer s = next
        (if t.writing = none then { t with hourly := 3600, stateArea := none, writing := some current }
        else { t with hourly := 3600, writeAgain := true })) ∧
    (t.hourly ≠ 0 → exec .hourlyStateTimer s = .next (fresh s))) ∧
  (∀ (items : Retained) (s : State),
    let t := s.sto
    let requested (t : Sto) : State × List Msg :=
      ({ s with sto :=
          if t.writing = none then { t with writing := some ⟨t.items, s.chg.q⟩, stateArea := none }
          else { t with writeAgain := true } }, [])
    deliver (.sto (.heater items)) s = requested { t with items := items } ∧ deliver (.sto .writeState) s = requested t) ∧
  (∀ (tag : Byte) (s : State), HasSlot s →
    let t := s.sto
    let result (kind : Byte) (status : Nat) (t : Sto) := Host.Outcome.next (φ := Fault) (ρ := Refusal)
      (finish [] (answered kind tag status [] { dispatched kind tag s with sto := t }))
    let working : Settings :=
      { battery := s.chg.battery, ocv := s.chg.ocv, trims := s.chg.trims, profile := s.htr.profile, table := s.htr.table
        cooler := s.clr.settings, groups := s.lgt.groups, fullCurrents := s.lgt.fullCurrents
        quietLight := s.lgt.quietLight, scenes := s.lgt.scenes, levels := s.rpq.levels, mask := s.rpq.mask
        threshold := s.rpq.threshold, rest := s.rcl.settings, alertChannel := s.alr.channel }
    (t.saving = none →
      exec (.settingsSave tag) s = result 0xA1#8 1 { t with saving := some working, settingsArea := none }) ∧
    (t.saving ≠ none → exec (.settingsSave tag) s = result 0xA1#8 7 t) ∧
    (t.saving ≠ none → s.lnk.service = true →
      exec (.defaults tag) s = result 0xB5#8 7 t ∧ exec (.restart tag) s = result 0xB6#8 7 t) ∧
    (t.saving = none → s.lnk.service = true →
      exec (.restart tag) s = result 0xB6#8 0
        (if t.writing = none then
          { t with
            restarting := if t.restarting = .none then .own else t.restarting
            stateArea := none, writing := some ⟨t.items, s.chg.q⟩ }
        else { t with restarting := if t.restarting = .none then .ahead else t.restarting, writeAgain := true })))

/-- R202, and the defaults of R5, R11, R22, R76, R80, R98, 5.1, R110 to R112, R138, R172, 9.1 and R178: DEFAULTS, with SERVICE
high and no save in progress, hands the defaults to CHG, HTR, CLR, LGT, RPQ, RCL and ALR and is answered OK, and each block
then holds its defaults. A C_nom that differs makes the count UNSYNCED; a running heater keeps its table and holds the default
pending. The order in which the blocks take them, and that CHG hands its figures on once, are the model's choice (log 29). -/
def Obligations.DefaultsReachEveryBlock : Prop :=
  ∀ (tag : Byte) (s : State),
    let d := defaultSettings
    let c := (deliver (.chg .defaults) s).1.chg
    let h := (deliver (.htr .defaults) s).1.htr
    let l := (deliver (.lgt .defaults) s).1.lgt
    let q := (deliver (.rpq .defaults) s).1.rpq
    let still := s.htr.seq = .off ∨ s.htr.seq = .lockout ∨ s.htr.seq = .wait
    (HasSlot s → s.sto.saving = none → s.lnk.service = true →
      exec (.defaults tag) s = .next (finish
        [.chg .defaults, .htr .defaults, .clr .defaults, .lgt .defaults, .rpq .defaults, .rcl .defaults, .alr .defaults]
        (answered 0xB5#8 tag 0 [] (dispatched 0xB5#8 tag s)))) ∧
    d =
      { battery := ⟨225000, 950, 27600, 400, 40000, 10000, 23400, 22800⟩
        ocv := [23000, 23800, 24400, 24900, 25300, 25600]
        trims := [0, 0, 0, 0, 0, 0]
        profile := ⟨200, 5, 4, 2, true, 50, 900, 24000, 120, 4, 16⟩
        table := [⟨120, 350, 400, 90⟩, ⟨210, 520, 600, 140⟩, ⟨320, 720, 800, 200⟩, ⟨460, 1000, 1000, 280⟩]
        cooler := ⟨true, 40, 30, 3, 20, 600, 600, [150, 220, 300]⟩
        groups := [0x03#8, 0xCF#8, 0x30#8, 0x00#8]
        fullCurrents := [40, 40, 60, 120, 10, 20, 30, 30]
        quietLight := 300
        scenes := [⟨0, 0, 20⟩, ⟨1, 0, 20⟩, ⟨2, 0, 20⟩, ⟨3, 0, 20⟩, ⟨6, 0, 20⟩, ⟨7, 0, 20⟩] :: List.replicate 11 []
        levels := [0, 0, 1, 1, 2, 2, 3, 2, 3, 2, 2, 4, 2, 1, 2, 4, 2, 5, 3, 2, 4, 5, 5, 4, 6, 1, 1, 3, 6, 2, 5, 3, 3]
        mask := 7
        threshold := 2
        rest := ⟨900, 1800, 2700, 16200, 900, 32400, 39600, 900, 3600⟩
        alertChannel := 4 } ∧
    c.battery = d.battery ∧ c.ocv = d.ocv ∧ c.trims = d.trims ∧
    c.synced = (if s.chg.battery.cNom = 225000 then s.chg.synced else false) ∧ h.profile = d.profile ∧
    (still → h.table = d.table ∧ h.pendingTable = none) ∧
    (¬still → h.table = s.htr.table ∧ h.pendingTable = some d.table) ∧
    (deliver (.clr .defaults) s).1.clr.settings = d.cooler ∧ l.groups = d.groups ∧ l.fullCurrents = d.fullCurrents ∧
    l.quietLight = d.quietLight ∧ l.scenes = d.scenes ∧ q.mask = d.mask ∧ q.threshold = d.threshold ∧
    (s.rpq.levels.length = 33 → q.levels = d.levels) ∧ (deliver (.rcl .defaults) s).1.rcl.settings = d.rest ∧
    (deliver (.alr .defaults) s).1.alr.channel = d.alertChannel

/-- R22 to R24, R192: BATTERY_SET, CHARGE_SET, OCV_SET and SENSOR_TRIM with SERVICE high. A value out of range is answered
RANGE and nothing changes. Otherwise the values are applied with OK: a C_nom that differs makes the count UNSYNCED with Q held
to it, a charge set makes it SYNCED with no residue; the figures follow at once from the values held, once there are any (log
23), and A goes to DMD. A trim offset waits for the next measurement. -/
def Obligations.ServiceSettingsOfTheCharge : Prop :=
  ∀ (tag : Byte) (p : BatteryParams) (charge : Nat) (ocv : List Nat) (input : Nat) (offset : Int) (s : State),
    HasSlot s → s.lnk.service = true →
    let c := s.chg
    let k := match c.tb with
      | none => 600
      | some x => if 200 ≤ x then 1000 else if 0 ≤ x then 900 else if -100 ≤ x then 800 else if -200 ≤ x then 700 else 600
    let steps : Nat := match c.tb with
      | none => 4
      | some x => if x.tdiv 10 < 0 then ((x.tdiv 10).natAbs + 9) / 10 else 0
    let figures (c : Chg) : Figures :=
      let qd := c.q * k / 1000
      let reserve := min (c.battery.rBase + c.battery.rCold * steps) c.battery.cNom
      let u := if c.synced then 0 else c.battery.cNom / 10
      ⟨qd, k, steps, reserve, u, qd - reserve - u⟩
    let refused (kind : Byte) := Host.Outcome.next (φ := Fault) (ρ := Refusal)
      (finish [] (answered kind tag 3 [] (dispatched kind tag s)))
    let applied (kind : Byte) (c' : Chg) := Host.Outcome.next (φ := Fault) (ρ := Refusal)
      (finish (if c.figures.isSome then [.dmd (.battery (figures c').a)] else [])
        (answered kind tag 0 []
          { dispatched kind tag s with
            chg := { c' with figures := if c.figures.isSome then some (figures c') else none } }))
    let fits := 20000 ≤ p.cNom ∧ p.cNom ≤ 400000 ∧ 800 ≤ p.e ∧ p.e ≤ 1000 ∧ 24000 ≤ p.vFull ∧ p.vFull ≤ 30000 ∧
      0 ≤ p.iTail ∧ p.iTail ≤ 2000 ∧ p.rBase ≤ 200000 ∧ p.rCold ≤ 50000 ∧ 21000 ≤ p.vCut ∧ p.vCut ≤ 26000 ∧
      20000 ≤ p.vHard ∧ p.vHard ≤ 25800 ∧ p.vHard + 200 ≤ p.vCut
    let rises := ocv.length = 6 ∧ (∀ v ∈ ocv, v ≤ 32767) ∧ ocv.Pairwise (· < ·)
    (¬fits → exec (.batterySet tag p) s = refused 0xB1#8) ∧
    (fits → p.cNom = c.battery.cNom → exec (.batterySet tag p) s = applied 0xB1#8 { c with battery := p }) ∧
    (fits → p.cNom ≠ c.battery.cNom →
      exec (.batterySet tag p) s = applied 0xB1#8
        { c with
          battery := p, synced := false, syncCount := 0, syncDone := false, q := min c.q p.cNom
          r := if p.cNom < c.q then 0 else c.r }) ∧
    (c.battery.cNom < charge → exec (.chargeSet tag charge) s = refused 0xB2#8) ∧
    (charge ≤ c.battery.cNom →
      exec (.chargeSet tag charge) s =
        applied 0xB2#8 { c with q := charge, r := 0, synced := true, syncCount := 0, syncDone := false }) ∧
    (¬rises → exec (.ocvSet tag ocv) s = refused 0xB3#8) ∧
    (rises → exec (.ocvSet tag ocv) s = applied 0xB3#8 { c with ocv := ocv }) ∧
    (5 < input ∨ offset < -100 ∨ 100 < offset → exec (.sensorTrim tag input offset) s = refused 0xB4#8) ∧
    (input ≤ 5 → -100 ≤ offset → offset ≤ 100 →
      exec (.sensorTrim tag input offset) s = .next (finish [] (answered 0xB4#8 tag 0 []
        { dispatched 0xB4#8 tag s with chg := { c with trims := c.trims.set input offset } })))

/-- State.reset satisfies every invariant below. -/
def Obligations.ResetSatisfiesTheInvariants : Prop :=
  heaterInv State.reset ∧ coolerInv State.reset ∧ chargeInv State.reset ∧ reportsInv State.reset ∧ linkInv State.reset ∧
    alertsInv State.reset ∧ clockInv State.reset

/-- R52: in every state the heater outputs and level are those of the table, a RUN level being 1 to 4, and every step keeps it
so; every step also keeps a grant of 1 or more with a burning heater (R73), the lockout flag with LOCKOUT and the purge bound
for it (R75), the failure count within 3 and the overheat count within 2 (R74) in HTR and in the items that STO holds, and the
lengths and ranges of the settings on which this rests. -/
def Obligations.StepKeepsTheHeater : Prop :=
  ∀ s t : State, heaterInv s → step s = .next t → heaterInv t

/-- R6, R8, R10, R16, R19, R21, R197: every step keeps Q within 0..C_nom and the residue below a milliampere-hour, the floor
counters below their limits and 0 where they do not run, the inputs with the runs of their conditions, HIBERNATE to CUTOFF, and
the settings in their shape. -/
def Obligations.StepKeepsTheCharge : Prop :=
  ∀ s t : State, chargeInv s → step s = .next t → chargeInv t

/-- R176, R180, R181: every step keeps the report queue in order, within 16 entries and without two of a cause, at most one
entry in flight, every count and count since the take within 255, and ATTN as the queue and the threshold say. -/
def Obligations.StepKeepsTheReportQueue : Prop :=
  ∀ s t : State, reportsInv s → step s = .next t → reportsInv t

/-- R188, R189, R193: every step leaves at most two replies, none half made, and a transmitter that is idle only with no reply
waiting. -/
def Obligations.StepKeepsTheLink : Prop :=
  ∀ s t : State, linkInv s → step s = .next t → linkInv t

/-- R84, R89, R126, R133, R140, R166, R167: every step keeps the compressor to RUNNING, the buzzer with an alert that sounds,
and the break run, the rest record and the log as the activity says. -/
def Obligations.StepKeepsCoolerAlertsAndClock : Prop :=
  ∀ s t : State, step s = .next t →
    (coolerInv s → coolerInv t) ∧ (alertsInv s → alertsInv t) ∧ (clockInv s → clockInv t)
end

