-- ==== Sys2Proof/Laws/Alerts.lean ====
section
/-! SUPPORT. The alert unit in the words of the statements: the owner settled, what a change of records hands on, and an
acknowledgement. -/

namespace Sys2Proof.Machine.Laws

open Sys2Proof Sys2Proof.Machine

theorem sounds_eq (a : Alr) (k : Nat) : sounds a k = ((a.record k).state == .sounding) := rfl

theorem firstSounding_eq (a : Alr) : firstSounding a = candidate a := rfl

theorem becomeOwner_eq (k : Nat) (a : Alr) : becomeOwner k a = ownedBy k a := by
  have h : periodOf (urgency k) = burstPeriod k := by
    match k with
    | 0 | 1 | 2 | 3 | 4 | 5 => rfl
    | n + 6 => simp [urgency, periodOf, burstPeriod]
  simp only [becomeOwner, ownedBy, h, startFlashMsg]

theorem beepsOf_eq (k : Nat) : beepsOf (urgency k) = burstBeeps k := by
  match k with
  | 0 | 1 | 2 | 3 | 4 | 5 => rfl
  | n + 6 => simp [urgency, beepsOf, burstBeeps]

theorem dropOwner_eq (a : Alr) : dropOwner a = ownedByNone a := rfl

/-- R166: where an event leaves the owner. -/
theorem settleOwner_eq (a : Alr) : settleOwner a = ownerSettled a := by
  unfold settleOwner ownerSettled
  rw [firstSounding_eq]
  rcases ho : a.owner with _ | o <;> rcases hc : candidate a with _ | k <;>
    simp only [Option.any_none, Option.any_some, sounds_eq, becomeOwner_eq, dropOwner_eq, beq_iff_eq, Bool.false_eq_true,
      if_false, if_true, reduceCtorEq, ne_eq, Option.some.injEq]
  · simp only [eq_comm (a := k) (b := o)]

/-- R166, R172: a change of the records, settled. -/
theorem settleAlerts_eq (before a : Alr) : settleAlerts before a = ((ownerSettled a).1, alertsFollow before a) := by
  have e : alertsFollow before a = (if anySounding before = anySounding a then [] else [.chg .review]) ++
      msgsIf ((List.range 8).any fun k => (before.record k).state == .inactive && (a.record k).state != .inactive)
        [.chg .wake] ++ (ownerSettled a).2 := rfl
  rw [e, settleAlerts, alertHands, settleOwner_eq]
  by_cases h : anySounding before = anySounding a
  · simp only [msgsIf, h, if_true, bne_self_eq_false, Bool.false_eq_true, if_false]
  · rw [if_neg h, bne_iff_ne.mpr h]
    rfl

/-- R169, R171: an acknowledgement's record. -/
theorem setRecord_ackRecord (k : Nat) (a : Alr) : setRecord k (ackRecord k (a.record k)) a = acknowledged k a := by
  have h : urgency k ≤ 1 ↔ k ≤ 2 := by
    match k with
    | 0 | 1 | 2 | 3 | 4 | 5 => decide
    | n + 6 => simp [urgency]
  simp only [setRecord, ackRecord, acknowledged, isEventKind, decide_eq_true_eq, Alr.record, inactiveRecord, h]

/-- The owner's settling leaves the records as they are. -/
@[simp] theorem ownerSettled_records (a : Alr) : (ownerSettled a).1.records = a.records := by
  unfold ownerSettled
  repeat' split
  all_goals rfl

/-- R169, R172: an acknowledgement with all it hands on. -/
theorem changeRecord_ackRecord (k : Nat) (a : Alr) :
    changeRecord k (ackRecord k) a = ((ownerSettled (acknowledged k a)).1, alertsFollow a (acknowledged k a)) := by
  rw [changeRecord, setRecord_ackRecord, settleAlerts_eq]

/-- The state an acknowledgement leaves: INACTIVE for an event alert, SILENCED for a condition alert. -/
theorem record_acknowledged (k : Nat) (a : Alr) (hk : k < a.records.length) :
    ((acknowledged k a).record k).state = if 5 ≤ k then .inactive else .silenced := by
  simp only [acknowledged, Alr.record, List.getD_eq_getElem?_getD, List.getElem?_set_self hk, Option.getD_some]
  split <;> rfl

end Sys2Proof.Machine.Laws
end

