-- ==== Sys2Proof/Laws/State.lean ====
section
/-! SUPPORT. What an update of the state leaves in each field, true by definition. -/

namespace Sys2Proof.Machine

@[simp] theorem fresh_chg (s : State) : (fresh s).chg = s.chg := rfl
@[simp] theorem fresh_dmd (s : State) : (fresh s).dmd = s.dmd := rfl
@[simp] theorem fresh_htr (s : State) : (fresh s).htr = s.htr := rfl
@[simp] theorem fresh_clr (s : State) : (fresh s).clr = s.clr := rfl
@[simp] theorem fresh_lgt (s : State) : (fresh s).lgt = s.lgt := rfl
@[simp] theorem fresh_rcl (s : State) : (fresh s).rcl = s.rcl := rfl
@[simp] theorem fresh_sch (s : State) : (fresh s).sch = s.sch := rfl
@[simp] theorem fresh_alr (s : State) : (fresh s).alr = s.alr := rfl
@[simp] theorem fresh_rpq (s : State) : (fresh s).rpq = s.rpq := rfl
@[simp] theorem fresh_lnk (s : State) : (fresh s).lnk = s.lnk := rfl
@[simp] theorem fresh_sto (s : State) : (fresh s).sto = s.sto := rfl
@[simp] theorem fresh_pending (s : State) : (fresh s).pending = s.pending := rfl
@[simp] theorem fresh_free (s : State) : (fresh s).free = s.free + 1 := rfl

/-- A message for CHG delivered: only CHG changes. -/
@[simp] theorem deliver_chg (e : ChgEv) (s : State) :
    deliver (.chg e) s = ({ s with chg := (chgHandle e s).1 }, (chgHandle e s).2) := rfl

/-- A message for DMD delivered: only DMD changes. -/
@[simp] theorem deliver_dmd (e : DmdEv) (s : State) :
    deliver (.dmd e) s = ({ s with dmd := (dmdHandle e s).1 }, (dmdHandle e s).2) := rfl

/-- A message for HTR delivered: only HTR changes. -/
@[simp] theorem deliver_htr (e : HtrEv) (s : State) :
    deliver (.htr e) s = ({ s with htr := (htrHandle e s).1 }, (htrHandle e s).2) := rfl

/-- A message for CLR delivered: only CLR changes. -/
@[simp] theorem deliver_clr (e : ClrEv) (s : State) :
    deliver (.clr e) s = ({ s with clr := (clrHandle e s).1 }, (clrHandle e s).2) := rfl

/-- A message for LGT delivered: only LGT changes. -/
@[simp] theorem deliver_lgt (e : LgtEv) (s : State) :
    deliver (.lgt e) s = ({ s with lgt := (lgtHandle e s).1 }, (lgtHandle e s).2) := rfl

/-- A message for RCL delivered: only RCL changes. -/
@[simp] theorem deliver_rcl (e : RclEv) (s : State) :
    deliver (.rcl e) s = ({ s with rcl := (rclHandle e s).1 }, (rclHandle e s).2) := rfl

/-- A message for SCH delivered: only SCH changes. -/
@[simp] theorem deliver_sch (e : SchEv) (s : State) :
    deliver (.sch e) s = ({ s with sch := (schHandle e s).1 }, (schHandle e s).2) := rfl

/-- A message for ALR delivered: only ALR changes. -/
@[simp] theorem deliver_alr (e : AlrEv) (s : State) :
    deliver (.alr e) s = ({ s with alr := (alrHandle e s).1 }, (alrHandle e s).2) := rfl

/-- A message for RPQ delivered: only RPQ changes. -/
@[simp] theorem deliver_rpq (e : RpqEv) (s : State) :
    deliver (.rpq e) s = ({ s with rpq := (rpqHandle e s).1 }, (rpqHandle e s).2) := rfl

/-- A message for LNK delivered: only LNK changes. -/
@[simp] theorem deliver_lnk (e : LnkEv) (s : State) :
    deliver (.lnk e) s = ({ s with lnk := (lnkHandle e s).1 }, (lnkHandle e s).2) := rfl

/-- A message for STO delivered: only STO changes. -/
@[simp] theorem deliver_sto (e : StoEv) (s : State) :
    deliver (.sto e) s = ({ s with sto := (stoHandle e s).1 }, (stoHandle e s).2) := rfl

/-- A delivery leaves the queue of commands as it was. -/
@[simp] theorem deliver_pending (m : Msg) (s : State) : (deliver m s).1.pending = s.pending := by cases m <;> rfl

/-- A delivery leaves the event counter as it was. -/
@[simp] theorem deliver_free (m : Msg) (s : State) : (deliver m s).1.free = s.free := by cases m <;> rfl

/-- Only a message for CHG changes CHG. -/
theorem deliver_keeps_chg (m : Msg) (s : State) (h : ∀ e, m ≠ .chg e) : (deliver m s).1.chg = s.chg := by
  cases m <;> first | rfl | exact absurd rfl (h _)

/-- Only a message for DMD changes DMD. -/
theorem deliver_keeps_dmd (m : Msg) (s : State) (h : ∀ e, m ≠ .dmd e) : (deliver m s).1.dmd = s.dmd := by
  cases m <;> first | rfl | exact absurd rfl (h _)

/-- Only a message for HTR changes HTR. -/
theorem deliver_keeps_htr (m : Msg) (s : State) (h : ∀ e, m ≠ .htr e) : (deliver m s).1.htr = s.htr := by
  cases m <;> first | rfl | exact absurd rfl (h _)

/-- Only a message for CLR changes CLR. -/
theorem deliver_keeps_clr (m : Msg) (s : State) (h : ∀ e, m ≠ .clr e) : (deliver m s).1.clr = s.clr := by
  cases m <;> first | rfl | exact absurd rfl (h _)

/-- Only a message for LGT changes LGT. -/
theorem deliver_keeps_lgt (m : Msg) (s : State) (h : ∀ e, m ≠ .lgt e) : (deliver m s).1.lgt = s.lgt := by
  cases m <;> first | rfl | exact absurd rfl (h _)

/-- Only a message for RCL changes RCL. -/
theorem deliver_keeps_rcl (m : Msg) (s : State) (h : ∀ e, m ≠ .rcl e) : (deliver m s).1.rcl = s.rcl := by
  cases m <;> first | rfl | exact absurd rfl (h _)

/-- Only a message for SCH changes SCH. -/
theorem deliver_keeps_sch (m : Msg) (s : State) (h : ∀ e, m ≠ .sch e) : (deliver m s).1.sch = s.sch := by
  cases m <;> first | rfl | exact absurd rfl (h _)

/-- Only a message for ALR changes ALR. -/
theorem deliver_keeps_alr (m : Msg) (s : State) (h : ∀ e, m ≠ .alr e) : (deliver m s).1.alr = s.alr := by
  cases m <;> first | rfl | exact absurd rfl (h _)

/-- Only a message for RPQ changes RPQ. -/
theorem deliver_keeps_rpq (m : Msg) (s : State) (h : ∀ e, m ≠ .rpq e) : (deliver m s).1.rpq = s.rpq := by
  cases m <;> first | rfl | exact absurd rfl (h _)

/-- Only a message for LNK changes LNK. -/
theorem deliver_keeps_lnk (m : Msg) (s : State) (h : ∀ e, m ≠ .lnk e) : (deliver m s).1.lnk = s.lnk := by
  cases m <;> first | rfl | exact absurd rfl (h _)

/-- Only a message for STO changes STO. -/
theorem deliver_keeps_sto (m : Msg) (s : State) (h : ∀ e, m ≠ .sto e) : (deliver m s).1.sto = s.sto := by
  cases m <;> first | rfl | exact absurd rfl (h _)

end Sys2Proof.Machine
end

