-- ==== Sys2Proof/Laws/Run.lean ====
section
/-! SUPPORT. Messages taken one after another: what is kept while they are taken. -/

namespace Sys2Proof.Machine

/-! ### The next message -/

theorem popRank_all {p : Msg → Bool} {n : Nat} {ms : List Msg} {m : Msg} {rest : List Msg}
    (h : popRank n ms = some (m, rest)) (hp : ms.all p = true) : p m = true ∧ rest.all p = true := by
  induction ms generalizing m rest with
  | nil => simp [popRank] at h
  | cons x l ih =>
    simp only [List.all_cons, Bool.and_eq_true] at hp
    unfold popRank at h
    split at h
    · simp only [Option.some.injEq, Prod.mk.injEq] at h
      exact ⟨h.1 ▸ hp.1, h.2 ▸ hp.2⟩
    · cases hq : popRank n l with
      | none => simp [hq] at h
      | some q =>
        simp only [hq, Option.map_some, Option.some.injEq, Prod.mk.injEq] at h
        obtain ⟨rfl, rfl⟩ := h
        have := ih hq hp.2
        exact ⟨this.1, by simp [hp.1, this.2]⟩

/-- The message taken and those left are among the messages that waited. -/
theorem popMsg_all {p : Msg → Bool} {ms : List Msg} {m : Msg} {rest : List Msg}
    (h : popMsg ms = some (m, rest)) (hp : ms.all p = true) : p m = true ∧ rest.all p = true := by
  unfold popMsg at h
  split at h
  · next q hq => simp only [Option.some.injEq] at h; subst h; exact popRank_all hq hp
  · split at h
    · next q hq => simp only [Option.some.injEq] at h; subst h; exact popRank_all hq hp
    · exact popRank_all h hp

/-- A message of rank 0 at the front is taken first. -/
theorem popMsg_cons {m : Msg} {ms : List Msg} (h : m.rank = 0) : popMsg (m :: ms) = some (m, ms) := by
  simp [popMsg, popRank, h]

@[simp] theorem popMsg_nil : popMsg [] = none := rfl

/-! ### Running -/

@[simp] theorem run_nil (n : Nat) (s : State) : run n [] s = s := by cases n <;> rfl

theorem run_cons {m : Msg} {ms : List Msg} (n : Nat) (s : State) (h : m.rank = 0) :
    run (n + 1) (m :: ms) s = run n (ms ++ (deliver m s).2) (deliver m s).1 := by
  simp [run, popMsg_cons h]

@[simp] theorem settle_nil (s : State) : settle [] s = s := run_nil _ _

/-- What every message of a class keeps, and a class whose messages hand on only messages of it, is kept to the end. -/
theorem run_keeps {p : Msg → Bool} {P : State → Prop}
    (hs : ∀ m s, p m = true → P s → P (deliver m s).1 ∧ (deliver m s).2.all p = true) (n : Nat) (ms : List Msg) (s : State)
    (hp : ms.all p = true) (h : P s) : P (run n ms s) := by
  induction n generalizing ms s with
  | zero => exact h
  | succ n ih =>
    unfold run
    cases hq : popMsg ms with
    | none => exact h
    | some q =>
      obtain ⟨hm, hr⟩ := popMsg_all hq hp
      have := hs q.1 s hm h
      exact ih _ _ (by simp [hr, this.2]) this.1

/-- The same for `settle`. -/
theorem settle_keeps {p : Msg → Bool} {P : State → Prop}
    (hs : ∀ m s, p m = true → P s → P (deliver m s).1 ∧ (deliver m s).2.all p = true) (ms : List Msg) (s : State)
    (hp : ms.all p = true) (h : P s) : P (settle ms s) := run_keeps hs _ _ _ hp h

/-- What every delivery keeps is kept to the end. -/
theorem settle_keeps_of_deliver {P : State → Prop} (hs : ∀ m s, P s → P (deliver m s).1) (ms : List Msg) (s : State)
    (h : P s) : P (settle ms s) :=
  settle_keeps (p := fun _ => true) (fun m s _ h => ⟨hs m s h, by simp⟩) ms s (by simp) h

/-- The queue of commands is not touched while messages are taken. -/
@[simp] theorem settle_pending (ms : List Msg) (s : State) : (settle ms s).pending = s.pending :=
  settle_keeps_of_deliver (P := fun t => t.pending = s.pending) (fun m t h => by simp [h]) ms s rfl

/-- The event counter stands while messages are taken. -/
@[simp] theorem settle_free (ms : List Msg) (s : State) : (settle ms s).free = s.free :=
  settle_keeps_of_deliver (P := fun t => t.free = s.free) (fun m t h => by simp [h]) ms s rfl

/-! ### Events -/

/-- An event whose block changes the state to `s'` and hands `ms` on. -/
theorem event_eq {m : Msg} {s s' : State} {ms : List Msg} (h : deliver m (fresh s) = (s', ms)) :
    event m s = settle ms s' := by
  simp [event, h]

/-- An event whose block hands nothing on. -/
theorem event_of_quiet {m : Msg} {s : State} (h : (deliver m (fresh s)).2 = []) : event m s = (deliver m (fresh s)).1 := by
  simp [event, h]

/-- What every delivery and the event counter's advance keep, an event keeps. -/
theorem event_keeps {P : State → Prop} (hf : ∀ s, P s → P (fresh s)) (hs : ∀ m s, P s → P (deliver m s).1) (m : Msg)
    (s : State) (h : P s) : P (event m s) := settle_keeps_of_deliver hs _ _ (hs _ _ (hf _ h))

/-- The same for several events at once. -/
theorem events_keeps {P : State → Prop} (hf : ∀ s, P s → P (fresh s)) (hs : ∀ m s, P s → P (deliver m s).1)
    (ms : List Msg) (s : State) (h : P s) : P (events ms s) := settle_keeps_of_deliver hs _ _ (hf _ h)

/-- The same for a request. -/
theorem request_keeps {P : State → Prop} (hf : ∀ s, P s → P (fresh s)) (hs : ∀ m s, P s → P (deliver m s).1) (tag : Byte)
    (r : Request) (s : State) (h : P s) : P (request tag r s) := event_keeps hf hs _ _ (event_keeps hf hs _ _ h)

/-- The same for a start-up, with what the reset values give. -/
theorem startUp_keeps {P : State → Prop} (hf : ∀ s, P s → P (fresh s)) (hs : ∀ m s, P s → P (deliver m s).1)
    (hr : ∀ pins s, P s → P (blocksAtReset pins s)) (kind : ResetKind) (pins : Pins) (s : State) (h : P s) :
    P (startUp kind pins s) := events_keeps hf hs _ _ (hr _ _ h)

/-- Every command answers a next state, and keeps what deliveries, the event counter's advance and resets keep. -/
theorem exec_keeps {P : State → Prop} (hf : ∀ s, P s → P (fresh s)) (hs : ∀ m s, P s → P (deliver m s).1)
    (hr : ∀ pins s, P s → P (blocksAtReset pins s)) (c : Instr) (s : State) (h : P s) :
    ∃ t, exec c s = .next t ∧ P t := by
  have E := fun m s h => event_keeps hf hs m s h
  have R := fun tag r s h => request_keeps hf hs tag r s h
  have U := fun k p s h => startUp_keeps hf hs hr k p s h
  cases c
  case restartReset pins =>
    refine ⟨if restartDue s then startUp .restart pins s else s, rfl, ?_⟩
    split
    · exact U _ _ _ h
    · exact h
  all_goals
    refine ⟨_, rfl, ?_⟩
    with_reducible
      first
      | exact E _ _ h
      | exact R _ _ _ h
      | exact U _ _ _ h
      | exact E _ _ (E _ _ h)
      | exact E _ _ (events_keeps hf hs _ _ h)

/-- A step keeps what deliveries, the event counter's advance, resets and the queue's advance keep. -/
theorem step_keeps {P : State → Prop} (hf : ∀ s, P s → P (fresh s)) (hs : ∀ m s, P s → P (deliver m s).1)
    (hr : ∀ pins s, P s → P (blocksAtReset pins s)) (hq : ∀ s q, P s → P { s with pending := q }) (s t : State) (h : P s)
    (ht : step s = .next t) : P t := by
  unfold step at ht
  split at ht
  · cases ht; exact h
  · next c rest _ =>
    obtain ⟨u, hu, hP⟩ := exec_keeps hf hs hr c _ (hq s rest h)
    rw [hu] at ht
    cases ht
    exact hP

/-- A command that runs an event whose block hands `ms` on. -/
theorem exec_settle {c : Instr} {m : Msg} {s u : State} {ms : List Msg} (he : exec c s = .next (event m s))
    (h : deliver m (fresh s) = (u, ms)) : exec c s = .next (settle ms u) := by
  rw [he, event_eq h]

/-- A command that runs an event whose block hands nothing on. -/
theorem exec_quiet {c : Instr} {m : Msg} {s u : State} (he : exec c s = .next (event m s))
    (h : deliver m (fresh s) = (u, [])) : exec c s = .next u := by
  rw [exec_settle he h, settle_nil]

end Sys2Proof.Machine
end

