-- ==== Sys2Proof/Laws/Grade.lean ====
section
/-! SUPPORT. The classes of messages: which events bring which others about. -/

namespace Sys2Proof.Machine

/-! ### The classes

0: calm, brought about by other events and touching no setting, no rest-clock state and no schedule. 1: also the schedule's
firings and the rest record at SCH. 2: also the second and the defaults. 3: events that only a command brings, and replies. -/

def ChgEv.grade : ChgEv → Nat
  | .review | .wake | .stir => 0 | .second | .defaults => 2 | _ => 3
def DmdEv.grade : DmdEv → Nat
  | .update _ _ | .figures _ _ | .battery _ | .floor _ | .ign _ | .rest _ => 0 | .second => 2 | _ => 3
def HtrEv.grade : HtrEv → Nat
  | .measured _ | .frostStart | .grant _ _ | .quiet => 0 | .act _ _ => 1 | .second | .defaults => 2 | _ => 3
def ClrEv.grade : ClrEv → Nat
  | .measured _ _ | .grant _ _ | .quiet _ | .restClosed => 0 | .act _ _ => 1 | .second | .defaults => 2 | _ => 3
def LgtEv.grade : LgtEv → Nat
  | .grant _ _ _ | .quiet | .flashStart _ _ _ _ | .flashCancel _ => 0 | .act _ _ => 1 | .second | .defaults => 2 | _ => 3
def RclEv.grade : RclEv → Nat
  | .act _ => 1 | .defaults => 2 | _ => 3
def SchEv.grade : SchEv → Nat
  | .outside _ => 0 | .sweep | .answer _ | .restOpened _ _ | .restWake _ | .restClosed | .clockSet _ => 1 | .second => 2
  | _ => 3
def AlrEv.grade : AlrEv → Nat
  | .condition _ _ | .raise _ | .quiet _ | .buttonAck | .flashAccepted | .flashEnded _ => 0 | .act _ => 1
  | .second | .defaults => 2 | _ => 3
def RpqEv.grade : RpqEv → Nat
  | .post _ _ | .reportEnd | .linkFree | .clearMarks _ => 0 | .defaults => 2 | _ => 3
def LnkEv.grade : LnkEv → Nat
  | .sendReport _ => 0 | _ => 3
def StoEv.grade : StoEv → Nat
  | .heater _ | .writeState => 0 | .second => 2 | _ => 3

/-- The class of a message. -/
def Msg.grade : Msg → Nat
  | .chg e => e.grade | .dmd e => e.grade | .htr e => e.grade | .clr e => e.grade | .lgt e => e.grade | .rcl e => e.grade
  | .sch e => e.grade | .alr e => e.grade | .rpq e => e.grade | .lnk e => e.grade | .sto e => e.grade

/-- A list of messages of grade at most `g`. -/
def graded (g : Nat) (ms : List Msg) : Bool := ms.all fun m => decide (m.grade ≤ g)

@[simp] theorem graded_nil (g : Nat) : graded g [] = true := rfl
@[simp] theorem graded_cons (g : Nat) (m : Msg) (ms : List Msg) :
    graded g (m :: ms) = (decide (m.grade ≤ g) && graded g ms) := rfl
@[simp] theorem graded_append (g : Nat) (a b : List Msg) : graded g (a ++ b) = (graded g a && graded g b) := by
  simp [graded]
@[simp] theorem graded_msgsIf (g : Nat) (c : Bool) (ms : List Msg) : graded g (msgsIf c ms) = (!c || graded g ms) := by
  cases c <;> simp [msgsIf]
@[simp] theorem graded_ite {α : Type} (g : Nat) (c : Prop) [Decidable c] (a b : α × List Msg) :
    graded g (if c then a else b).2 = if c then graded g a.2 else graded g b.2 := by split <;> rfl
theorem graded_mono {g h : Nat} (hgh : g ≤ h) {ms : List Msg} (hm : graded g ms = true) : graded h ms = true := by
  simp only [graded, List.all_eq_true, decide_eq_true_eq] at *
  exact fun m hx => le_trans (hm m hx) hgh

@[simp] theorem grade_post (c : Nat) (d : List Byte) : (post c d).grade = 0 := rfl
@[simp] theorem grade_answer (st : Status) (b : List Byte) : (answer st b).grade = 3 := rfl

/-! The class of each event the blocks hand on. -/

@[simp] theorem grade_chg_review : Msg.grade (.chg .review) = 0 := rfl
@[simp] theorem grade_chg_wake : Msg.grade (.chg .wake) = 0 := rfl
@[simp] theorem grade_chg_stir : Msg.grade (.chg .stir) = 0 := rfl
@[simp] theorem grade_chg_second : Msg.grade (.chg .second) = 2 := rfl
@[simp] theorem grade_chg_defaults : Msg.grade (.chg .defaults) = 2 := rfl
@[simp] theorem grade_dmd_update a b : Msg.grade (.dmd (.update a b)) = 0 := rfl
@[simp] theorem grade_dmd_figures a b : Msg.grade (.dmd (.figures a b)) = 0 := rfl
@[simp] theorem grade_dmd_battery a : Msg.grade (.dmd (.battery a)) = 0 := rfl
@[simp] theorem grade_dmd_floor a : Msg.grade (.dmd (.floor a)) = 0 := rfl
@[simp] theorem grade_dmd_ign a : Msg.grade (.dmd (.ign a)) = 0 := rfl
@[simp] theorem grade_dmd_rest a : Msg.grade (.dmd (.rest a)) = 0 := rfl
@[simp] theorem grade_dmd_second : Msg.grade (.dmd .second) = 2 := rfl
@[simp] theorem grade_htr_measured a : Msg.grade (.htr (.measured a)) = 0 := rfl
@[simp] theorem grade_htr_frostStart : Msg.grade (.htr .frostStart) = 0 := rfl
@[simp] theorem grade_htr_grant a b : Msg.grade (.htr (.grant a b)) = 0 := rfl
@[simp] theorem grade_htr_quiet : Msg.grade (.htr .quiet) = 0 := rfl
@[simp] theorem grade_htr_act a b : Msg.grade (.htr (.act a b)) = 1 := rfl
@[simp] theorem grade_htr_second : Msg.grade (.htr .second) = 2 := rfl
@[simp] theorem grade_htr_defaults : Msg.grade (.htr .defaults) = 2 := rfl
@[simp] theorem grade_clr_measured a b : Msg.grade (.clr (.measured a b)) = 0 := rfl
@[simp] theorem grade_clr_grant a b : Msg.grade (.clr (.grant a b)) = 0 := rfl
@[simp] theorem grade_clr_quiet a : Msg.grade (.clr (.quiet a)) = 0 := rfl
@[simp] theorem grade_clr_restClosed : Msg.grade (.clr .restClosed) = 0 := rfl
@[simp] theorem grade_clr_act a b : Msg.grade (.clr (.act a b)) = 1 := rfl
@[simp] theorem grade_clr_second : Msg.grade (.clr .second) = 2 := rfl
@[simp] theorem grade_clr_defaults : Msg.grade (.clr .defaults) = 2 := rfl
@[simp] theorem grade_lgt_grant a b c : Msg.grade (.lgt (.grant a b c)) = 0 := rfl
@[simp] theorem grade_lgt_quiet : Msg.grade (.lgt .quiet) = 0 := rfl
@[simp] theorem grade_lgt_flashStart a b c d : Msg.grade (.lgt (.flashStart a b c d)) = 0 := rfl
@[simp] theorem grade_lgt_flashCancel a : Msg.grade (.lgt (.flashCancel a)) = 0 := rfl
@[simp] theorem grade_lgt_act a b : Msg.grade (.lgt (.act a b)) = 1 := rfl
@[simp] theorem grade_lgt_second : Msg.grade (.lgt .second) = 2 := rfl
@[simp] theorem grade_lgt_defaults : Msg.grade (.lgt .defaults) = 2 := rfl
@[simp] theorem grade_rcl_act a : Msg.grade (.rcl (.act a)) = 1 := rfl
@[simp] theorem grade_rcl_defaults : Msg.grade (.rcl .defaults) = 2 := rfl
@[simp] theorem grade_sch_outside a : Msg.grade (.sch (.outside a)) = 0 := rfl
@[simp] theorem grade_sch_sweep : Msg.grade (.sch .sweep) = 1 := rfl
@[simp] theorem grade_sch_answer a : Msg.grade (.sch (.answer a)) = 1 := rfl
@[simp] theorem grade_sch_restOpened a b : Msg.grade (.sch (.restOpened a b)) = 1 := rfl
@[simp] theorem grade_sch_restWake a : Msg.grade (.sch (.restWake a)) = 1 := rfl
@[simp] theorem grade_sch_restClosed : Msg.grade (.sch .restClosed) = 1 := rfl
@[simp] theorem grade_sch_clockSet a : Msg.grade (.sch (.clockSet a)) = 1 := rfl
@[simp] theorem grade_sch_second : Msg.grade (.sch .second) = 2 := rfl
@[simp] theorem grade_alr_condition a b : Msg.grade (.alr (.condition a b)) = 0 := rfl
@[simp] theorem grade_alr_raise a : Msg.grade (.alr (.raise a)) = 0 := rfl
@[simp] theorem grade_alr_quiet a : Msg.grade (.alr (.quiet a)) = 0 := rfl
@[simp] theorem grade_alr_buttonAck : Msg.grade (.alr .buttonAck) = 0 := rfl
@[simp] theorem grade_alr_flashAccepted : Msg.grade (.alr .flashAccepted) = 0 := rfl
@[simp] theorem grade_alr_flashEnded a : Msg.grade (.alr (.flashEnded a)) = 0 := rfl
@[simp] theorem grade_alr_act a : Msg.grade (.alr (.act a)) = 1 := rfl
@[simp] theorem grade_alr_second : Msg.grade (.alr .second) = 2 := rfl
@[simp] theorem grade_alr_defaults : Msg.grade (.alr .defaults) = 2 := rfl
@[simp] theorem grade_rpq_reportEnd : Msg.grade (.rpq .reportEnd) = 0 := rfl
@[simp] theorem grade_rpq_linkFree : Msg.grade (.rpq .linkFree) = 0 := rfl
@[simp] theorem grade_rpq_clearMarks a : Msg.grade (.rpq (.clearMarks a)) = 0 := rfl
@[simp] theorem grade_rpq_defaults : Msg.grade (.rpq .defaults) = 2 := rfl
@[simp] theorem grade_lnk_sendReport a : Msg.grade (.lnk (.sendReport a)) = 0 := rfl
@[simp] theorem grade_sto_heater a : Msg.grade (.sto (.heater a)) = 0 := rfl
@[simp] theorem grade_sto_writeState : Msg.grade (.sto .writeState) = 0 := rfl
@[simp] theorem grade_sto_second : Msg.grade (.sto .second) = 2 := rfl

end Sys2Proof.Machine
end

