-- ==== Sys2Proof/Laws/CalmChgDmdHtr.lean ====
section
/-! SUPPORT. What CHG, DMD and HTR hand on is calm, but for replies and the schedule's answers. -/

namespace Sys2Proof.Machine

/-! ### CHG -/

theorem completeRun_calm (n : Nat) (t : TempInput) : graded 0 (completeRun n t).2 = true := by
  simp [completeRun]

theorem sampleInput_calm (free n : Nat) (x : Option Int) (t : TempInput) : graded 0 (sampleInput free n x t).2 = true := by
  unfold sampleInput; split <;> simp [completeRun_calm]

theorem sampleInputs_calm (free n : Nat) (xs : List (Option Int)) (ts : List TempInput) :
    graded 0 (sampleInputs free n xs ts).2 = true := by
  induction xs generalizing n ts with
  | nil => simp [sampleInputs]
  | cons x xs ih => cases ts <;> simp [sampleInputs, sampleInput_calm, ih]

theorem fullSync_calm (c : Chg) : graded 0 (fullSync c).2 = true := by
  simp [fullSync]

theorem syncStep_calm (c : Chg) (v : Nat) (i : Int) : graded 0 (syncStep c v i).2 = true := by
  simp [syncStep, fullSync_calm]

theorem reviewMode_calm (c : Chg) (s : State) : graded 0 (reviewMode c s).2 = true := by
  unfold reviewMode; split <;> simp

theorem enterFloor_calm (c : Chg) (f : Floor) (s : State) : graded 0 (enterFloor c f s).2 = true := by
  simp [enterFloor, floorMsgs]

theorem floorEvent_calm (c : Chg) (f : Floor) (s : State) : graded 0 (floorEvent c f s).2 = true := by
  simp [floorEvent, enterFloor_calm, reviewMode_calm]

theorem measure_calm (m : Samples) (s : State) : graded 0 (measure m s).2 = true := by
  simp [measure, measureCharge, sampleInputs_calm, syncStep_calm, enterFloor_calm, reviewMode_calm]

theorem handFigures_calm (c : Chg) : graded 0 (handFigures c).2 = true := by
  unfold handFigures; split <;> simp

theorem ignEvent_calm (on : Bool) (s : State) : graded 0 (ignEvent on s).2 = true := by
  simp [ignEvent, enterFloor_calm, reviewMode_calm]

theorem dozeExpiry_calm (s : State) : graded 0 (dozeExpiry s).2 = true := by
  simp [dozeExpiry]

/-- What CHG hands on is calm, but for replies. -/
theorem chgHandle_calm (e : ChgEv) (s : State)
    (h : match e with | .batterySet _ | .chargeSet _ | .ocvSet _ | .sensorTrim _ _ => False | _ => True) :
    graded 0 (chgHandle e s).2 = true := by
  cases e <;>
    simp_all [chgHandle, measure_calm, fullSync_calm, floorEvent_calm, dozeExpiry_calm, ignEvent_calm, reviewMode_calm,
      stirMode, chgDefaults, handFigures_calm, sensorValidEvent]
  split <;> simp [completeRun_calm]

/-! ### DMD -/

@[simp] theorem deliverGrant_grade (n level : Nat) (b : Budget) : (deliverGrant n level b).grade = 0 := by
  unfold deliverGrant; split <;> rfl

theorem graded_map {α : Type} (g : Nat) (f : α → Msg) (l : List α) (h : ∀ x, (f x).grade ≤ g) :
    graded g (l.map f) = true := by
  simp [graded, h]

theorem budgetPass_calm (t : Trigger) (d : Dmd) (s : State) : graded 0 (budgetPass t d s).2 = true := by
  unfold budgetPass
  split
  · simp
  · simp only [fixedDeliveries, budgetReports, hostReports, graded_append, graded_msgsIf, Bool.and_eq_true]
    refine ⟨⟨graded_map _ _ _ fun x => by simp, by simp⟩, graded_map _ _ _ fun x => by simp⟩

theorem demandUpdate_calm (n : Nat) (u : Demand) (d : Dmd) (s : State) : graded 0 (demandUpdate n u d s).2 = true := by
  unfold demandUpdate; split <;> simp [budgetPass_calm]

/-- What DMD hands on is calm, but for replies. -/
theorem dmdHandle_calm (e : DmdEv) (s : State)
    (h : match e with | .declare _ | .release _ | .read => False | _ => True) : graded 0 (dmdHandle e s).2 = true := by
  cases e <;> simp_all [dmdHandle, budgetPass_calm, demandUpdate_calm]

/-! ### HTR -/

@[simp] theorem heaterDemand_grade (h : Htr) : (heaterDemand h).grade = 0 := rfl

theorem enter_calm (new : HeaterState) (r : HeaterReason) (k : Retained) (h : Htr) :
    graded 0 (enter new r k h).2 = true := by
  simp [enter, entryMsgs, handItems]

theorem goTo_calm (new : HeaterState) (r : HeaterReason) (k : Retained) (h : Htr) : graded 0 (goTo new r k h).2 = true := by
  simp [goTo, enter_calm, frostAtOff]

theorem purgeTo_calm (d : PurgeDest) (k : PurgeKind) (u : Bool) (r : HeaterReason) (i : Retained) (h : Htr) :
    graded 0 (purgeTo d k u r i h).2 = true := goTo_calm _ _ _ _

theorem setKeep_calm (k : Retained) (h : Htr) : graded 0 (setKeep k h).2 = true := by
  simp [setKeep, handItems]

theorem precheckTest_calm (h : Htr) : graded 0 (precheckTest h).2 = true := by
  unfold precheckTest; split <;> simp [goTo_calm]

theorem beginStart_calm (r : HeaterReason) (h : Htr) : graded 0 (beginStart r h).2 = true := by
  simp [beginStart, enter_calm, precheckTest_calm]

theorem requestStart_calm (r : HeaterReason) (h : Htr) (s : State) : graded 0 (requestStart r h s).2.1 = true := by
  unfold requestStart
  split
  · split
    · simp
    · split <;> simp [beginStart_calm]
  all_goals simp

theorem frostStart_calm (h : Htr) (s : State) : graded 0 (frostStart h s).2 = true := by
  unfold frostStart
  split
  · dsimp only
    split <;> simp [enter_calm]
  · split
    · simp [stayReport]
    · simp [enter_calm]

theorem frostEvent_calm (h : Htr) (s : State) : graded 0 (frostEvent h s).2 = true := by
  simp [frostEvent, frostStart_calm]

theorem setFrostFlag_calm (b : Bool) (h : Htr) : graded 0 (setFrostFlag b h).2 = true := by
  simp [setFrostFlag]

theorem frostTest_calm (h : Htr) : graded 0 (frostTest h).2 = true := by
  unfold frostTest; split <;> simp [setFrostFlag_calm, frostAtOff]

theorem failStart_calm (f : HeaterFault) (h : Htr) : graded 0 (failStart f h).2 = true := purgeTo_calm _ _ _ _ _ _

theorem flameOut_calm (h : Htr) : graded 0 (flameOut h).2 = true := by
  simp [flameOut, failStart_calm, purgeTo_calm]

theorem burningFault_calm {v : Nat} {h : Htr} {r : Htr × List Msg} (hr : burningFault v h = some r) :
    graded 0 r.2 = true := by
  unfold burningFault at hr
  split at hr
  · cases hr; exact purgeTo_calm _ _ _ _ _ _
  · cases hr; exact purgeTo_calm _ _ _ _ _ _
  · split at hr
    · cases hr; simp [purgeTo_calm]
    · split at hr
      · cases hr; exact purgeTo_calm _ _ _ _ _ _
      · cases hr

theorem idleStop_calm (h : Htr) : graded 0 (idleStop h).2 = true := by
  simp [idleStop, purgeTo_calm]

theorem flameWatch_calm (dt : Nat) (h : Htr) (next : Htr → Htr × List Msg) (hn : ∀ h, graded 0 (next h).2 = true) :
    graded 0 (flameWatch dt h next).2 = true := by
  simp [flameWatch, flameOut_calm, hn]

theorem measuredIgnite_calm (v : Nat) (h : Htr) : graded 0 (measuredIgnite v h).2 = true := by
  unfold measuredIgnite
  split
  · next r hr => exact burningFault_calm hr
  · split <;> simp [goTo_calm]

theorem measuredRamp_calm (v dt : Nat) (h : Htr) : graded 0 (measuredRamp v dt h).2 = true := by
  unfold measuredRamp
  split
  · next r hr => exact burningFault_calm hr
  · exact flameWatch_calm _ _ _ fun _ => rfl

theorem measuredRun_calm (v dt : Nat) (q : Bool) (h : Htr) : graded 0 (measuredRun v dt q h).2 = true := by
  unfold measuredRun
  dsimp only
  split
  · next r hr => exact burningFault_calm hr
  · exact flameWatch_calm _ _ _ fun _ => idleStop_calm _

theorem measuredPurge_calm (r : HeaterReadings) (h : Htr) : graded 0 (measuredPurge r h).2 = true := by
  simp [measuredPurge, endPurge, goTo_calm, handItems]

theorem purgeTimeout_calm (h : Htr) : graded 0 (purgeTimeout h).2 = true := by
  simp [purgeTimeout, goTo_calm]

theorem measuredWait_calm (h : Htr) (s : State) : graded 0 (measuredWait h s).2 = true := by
  simp [measuredWait, beginStart_calm, goTo_calm]

theorem measuredPreheat_calm (h : Htr) : graded 0 (measuredPreheat h).2 = true := by
  simp [measuredPreheat, goTo_calm]

theorem startUpCheck_calm (r : HeaterReadings) (h : Htr) : graded 0 (startUpCheck r h).2 = true := by
  unfold startUpCheck
  split
  · simp
  · split
    · simp [purgeTo_calm]
    · exact purgeTo_calm _ _ _ _ _ _

theorem measuredState_calm (r : HeaterReadings) (b : Bool) (h : Htr) (s : State) :
    graded 0 (measuredState r b h s).2 = true := by
  unfold measuredState
  split <;>
    simp [frostAtOff, measuredWait_calm, precheckTest_calm, measuredPreheat_calm, measuredIgnite_calm, measuredRamp_calm,
      measuredRun_calm, measuredPurge_calm]

theorem heaterMeasured_calm (r : HeaterReadings) (s : State) : graded 0 (heaterMeasured r s).2 = true := by
  simp [heaterMeasured, startUpCheck_calm, frostTest_calm, measuredState_calm]

theorem startExpiry_calm (a b : HeaterState) (h : Htr) : graded 0 (startExpiry a b h).2 = true := by
  simp [startExpiry, goTo_calm]

theorem igniteExpiry_calm (h : Htr) : graded 0 (igniteExpiry h).2 = true := by
  simp [igniteExpiry, failStart_calm, purgeTo_calm]

theorem rampExpiry_calm (q : Bool) (h : Htr) : graded 0 (rampExpiry q h).2 = true := by
  simp [rampExpiry, goTo_calm]

theorem heaterGrant_calm (level : Nat) (q : Bool) (h : Htr) : graded 0 (heaterGrant level q h).2 = true := by
  unfold heaterGrant
  dsimp only
  split
  · split <;> simp [goTo_calm, purgeTo_calm]
  · simp

theorem stopHeater_calm (r : HeaterReason) (h : Htr) : graded 0 (stopHeater r h).2 = true := by
  unfold stopHeater
  dsimp only
  split <;> simp [goTo_calm, purgeTo_calm, setKeep_calm, demandIfMaxChanged]

theorem applyProfile_calm (p : HeatProfile) (q : Bool) (h : Htr) : graded 0 (applyProfile p q h).2 = true := by
  simp [applyProfile, setFrostFlag_calm, demandIfMaxChanged]

theorem writeTable_calm (t : List LevelRow) (h : Htr) : graded 0 (writeTable t h).2 = true := by
  unfold writeTable; split <;> simp

/-- What HTR hands on is calm, but for replies and the schedule's answers. -/
theorem htrHandle_calm (e : HtrEv) (s : State)
    (h : match e with
      | .start | .stop | .set _ | .tableRead | .tableWrite _ | .clearLockout | .act _ _ => False
      | _ => True) : graded 0 (htrHandle e s).2 = true := by
  cases e <;>
    simp_all [htrHandle, heaterMeasured_calm, startExpiry_calm, igniteExpiry_calm, rampExpiry_calm, idleStop_calm,
      flameOutEvent, flameOut_calm, purgeMinimum, endPurge, goTo_calm, purgeTimeout_calm, fixedPurge, frostRetry,
      frostEvent_calm, heaterGrant_calm, heaterDefaults, applyProfile_calm, writeTable_calm]

theorem heaterAction_inner (a : Action) (p : Option Int) (s : State) : graded 1 (heaterAction a p s).2 = true := by
  unfold heaterAction
  split
  · simp [graded_mono (Nat.zero_le 1) (requestStart_calm _ _ _)]
  · simp [graded_mono (Nat.zero_le 1) (stopHeater_calm _ _)]

end Sys2Proof.Machine
end

