-- ==== Sys2Proof/Laws/Calm.lean ====
section
/-! SUPPORT. What the other blocks hand on, and the closure of the classes under delivery. -/

namespace Sys2Proof.Machine

/-! ### CLR -/

theorem warmMsgs_calm (b : Bool) (t : Option Int) : graded 0 (warmMsgs b t) = true := by
  simp [warmMsgs, warmAlert, warmReport]

theorem stateReports_calm (o n : Clr) (r : CoolerReason) : graded 0 (stateReports o n r) = true := by
  simp [stateReports, coolerStateReport]

theorem blindReports_calm (o m n : Clr) (r : CoolerReason) : graded 0 (blindReports o m n r) = true := by
  unfold blindReports; split <;> simp [stateReports_calm, coolerStateReport]

theorem handCooler_calm (s : State) (o n : Clr) (ms : List Msg) : graded 0 (handCooler s o n ms).2 = graded 0 ms := by
  simp [handCooler, warmAlert, warmReport]

theorem handChange_calm (s : State) (o n : Clr) (r : CoolerReason) : graded 0 (handChange s o n r).2 = true := by
  simp [handChange, handCooler_calm, stateReports_calm]

theorem stallAtStart_calm (s : State) (o : Clr) (f : Clr × List Msg) (h : graded 0 f.2 = true) :
    graded 0 (stallAtStart s o f).2 = true := by
  simp [stallAtStart, handChange_calm, h]

theorem conclude_calm (s : State) (o n : Clr) (r : CoolerReason) : graded 0 (conclude s o n r).2 = true :=
  stallAtStart_calm _ _ _ (handChange_calm _ _ _ _)

theorem concludeBlind_calm (s : State) (o m : Clr) : graded 0 (concludeBlind s o m).2 = true :=
  stallAtStart_calm _ _ _ (by simp [handCooler_calm, blindReports_calm])

theorem raiseWarm_calm (c : Clr) (t : Option Int) : graded 0 (raiseWarm c t).2 = true := by
  simp [raiseWarm, warmMsgs_calm]

theorem warmWatch_calm (c : Clr) (dt : Nat) (t : Option Int) : graded 0 (warmWatch c dt t).2 = true := by
  unfold warmWatch; split <;> simp [raiseWarm_calm, warmMsgs_calm]

theorem coolerMeasured_calm (dt : Nat) (t : Option Int) (s : State) : graded 0 (coolerMeasured dt t s).2 = true := by
  simp [coolerMeasured, callRise, conclude_calm, concludeBlind_calm, warmWatch_calm]

theorem minuteEvent_calm (s : State) : graded 0 (minuteEvent s).2 = true := by
  simp [minuteEvent, conclude_calm]

theorem compFaultEvent_calm (b : Bool) (s : State) : graded 0 (compFaultEvent b s).2 = true := by
  simp [compFaultEvent, handChange_calm]

theorem coolerGrant_calm (n : Nat) (b : Budget) (s : State) : graded 0 (coolerGrant n b s).2 = true := by
  unfold coolerGrant; dsimp only; split <;> simp [conclude_calm, handChange_calm]

theorem coolerQuiet_calm (b : Bool) (s : State) : graded 0 (coolerQuiet b s).2 = true := by
  simp [coolerQuiet, conclude_calm]

theorem applyCool_calm (p : CoolSettings) (r : CoolerReason) (s : State) : graded 0 (applyCool p r s).2 = true :=
  conclude_calm _ _ _ _

theorem coolerExpiry_calm (b : Bool) (f : Clr → Clr) (r : CoolerReason) (s : State) :
    graded 0 (coolerExpiry b f r s).2 = true := by
  simp [coolerExpiry, conclude_calm]

/-- What CLR hands on is calm, but for replies and the schedule's answers. -/
theorem clrHandle_calm (e : ClrEv) (s : State) (h : match e with | .set _ | .act _ _ => False | _ => True) :
    graded 0 (clrHandle e s).2 = true := by
  cases e <;>
    simp_all [clrHandle, coolerMeasured_calm, coolerExpiry_calm, compFaultEvent_calm, minuteEvent_calm, raiseWarm_calm,
      coolerGrant_calm, coolerQuiet_calm, applyCool_calm]

theorem coolerAction_inner (a : Action) (p : Option Int) (s : State) : graded 1 (coolerAction a p s).2 = true := by
  unfold coolerAction; dsimp only
  split <;> simp [graded_mono (Nat.zero_le 1) (applyCool_calm _ _ _)]

/-! ### LGT -/

theorem concludeLights_calm (s : State) (b l : Lgt) : graded 0 (concludeLights s b l).2 = true := by
  simp [concludeLights]

theorem withoutAnswer_calm (s : State) (l : Lgt) (ms : List Msg) :
    graded 0 (withoutAnswer s l ms).2 = graded 0 ms := by
  simp [withoutAnswer, concludeLights_calm]

theorem pushFrame_calm (o : FrameOwner) (l : Lgt) : graded 0 (pushFrame o l).2 = true := by
  simp [pushFrame]

theorem startFlash_calm (k a b c : Nat) (l : Lgt) : graded 0 (startFlash k a b c l).2 = true := by
  simp only [startFlash, graded_append, graded_cons, grade_alr_flashAccepted]
  split <;> simp [pushFrame_calm]

theorem cancelFlash_calm (k : Nat) (l : Lgt) : graded 0 (cancelFlash k l).2 = true := by
  simp [cancelFlash]

theorem longPressed_calm (b : Button) (l : Lgt) (s : State) : graded 0 (longPressed b l s).2 = true := by
  unfold longPressed; dsimp only
  split
  · simp
  · split <;> simp

/-- What LGT hands on is calm, but for replies and the schedule's answers. -/
theorem lgtHandle_calm (e : LgtEv) (s : State)
    (h : match e with
      | .set _ | .recall _ | .save | .restore | .groupSet _ _ | .channelSet _ _ | .sceneStore _ _ | .act _ _ => False
      | _ => True) : graded 0 (lgtHandle e s).2 = true := by
  cases e <;>
    simp_all [lgtHandle, withoutAnswer_calm, startFlash_calm, cancelFlash_calm, longPressed_calm]

theorem withDone_inner (s : State) (l : Lgt) : graded 1 (withDone s l).2 = true := by
  simp [withDone, graded_mono (Nat.zero_le 1) (concludeLights_calm _ _ _)]

theorem lightAction_inner (a : Action) (p : Option Int) (s : State) : graded 1 (lgtHandle (.act a p) s).2 = true := by
  cases a <;> simp [lgtHandle, sceneAction, wakeLight, withDone_inner]

/-! ### RCL -/

theorem warningMsgs_calm (k c : Nat) (b : Bool) (a : Nat) : graded 0 (warningMsgs k c b a) = true := by
  simp [warningMsgs]

theorem testDue_calm (r : Rcl) : graded 0 (testDue r).2 = true := by
  simp [testDue, warningMsgs_calm]

theorem testOverdue_calm (r : Rcl) : graded 0 (testOverdue r).2 = true := by
  simp [testOverdue, warningMsgs_calm]

theorem testWarnings_calm (r : Rcl) : graded 0 (testWarnings r).2 = true := by
  simp [testWarnings, testDue_calm, testOverdue_calm]

theorem clearAccumulator_calm (r : Rcl) : graded 0 (clearAccumulator r).2 = true := by
  simp [clearAccumulator, warningMsgs_calm]

theorem qualify_calm (b : BreakRun) (m : Marker) (r : Rcl) : graded 0 (qualify b m r).2 = true := clearAccumulator_calm _

theorem testFull_calm (r : Rcl) : graded 0 (testFull r).2 = true := by
  unfold testFull; split <;> simp [qualify_calm]

theorem testSplit_calm (r : Rcl) : graded 0 (testSplit r).2 = true := by
  unfold testSplit; split <;> simp [qualify_calm]

theorem setQuiet_calm (b : Bool) (r : Rcl) : graded 0 (setQuiet b r).2 = true := by
  simp [setQuiet, quietMsgs]

theorem setQuiet_inner (b : Bool) (r : Rcl) : graded 1 (setQuiet b r).2 = true :=
  graded_mono (Nat.zero_le 1) (setQuiet_calm b r)

theorem closeRecord_inner (x : RestRecord) (n : Nat) (r : Rcl) : graded 1 (closeRecord x n r).2 = true := by
  simp [closeRecord, setQuiet_inner]

theorem endRun_inner (b : BreakRun) (r : Rcl) : graded 1 (endRun b r).2 = true := by
  unfold endRun; dsimp only; split <;> simp [closeRecord_inner]

theorem changeActivity_inner (a : Activity) (r : Rcl) : graded 1 (changeActivity a r).2 = true := by
  unfold changeActivity; dsimp only
  split
  · split
    · simp
    · split <;> simp [endRun_inner]
  · simp

theorem restActivity_inner (r : Rcl) : graded 1 (restActivity r).2 = true := by
  simp [restActivity, changeActivity_inner]

theorem takeActivity_inner (a : Activity) (r : Rcl) : graded 1 (takeActivity a r).2 = true := by
  simp [takeActivity, openRecord, openMsgs, changeActivity_inner]

theorem secondEvent_handed (r : Rcl) : graded 2 (secondEvent r).2 = true := by
  have h := Nat.zero_le 2
  simp [secondEvent, secondMsgs, graded_mono h (testFull_calm _), graded_mono h (testSplit_calm _),
    graded_mono h (testWarnings_calm _)]

theorem restAction_inner (a : Action) (r : Rcl) : graded 1 (restAction a r).2 = true := by
  unfold restAction; split <;> simp [setQuiet_inner]

/-! ### SCH -/

theorem deliverAction_grade (a : Action) (p : Option Int) : (deliverAction a p).grade = 1 := by
  cases a <;> rfl

theorem fireHead_inner (b : Bool) (n : Nat) (c : Sch) : graded 1 (fireHead b n c).2 = true := by
  unfold fireHead; split <;> simp [deliverAction_grade]

theorem finishFiring_inner (r : Option Refuse) (n : Nat) (c : Sch) : graded 1 (finishFiring r n c).2 = true := by
  unfold finishFiring; split
  · simp
  · cases r <;> simp [firingReport]

theorem derivation_inner (d : Nat) (c : Sch) : graded 1 (derivation d c).2 = true := by
  unfold derivation; split <;> simp

theorem clockAtSch_inner (x : Option Nat) (d : Nat) (c : Sch) : graded 1 (clockAtSch x d c).2 = true := by
  unfold clockAtSch; split <;> simp [derivation_inner]

/-- What SCH hands on is inner, but for replies. -/
theorem schHandle_inner (e : SchEv) (s : State) (h : match e with | .add _ | .remove _ | .list _ => False | _ => True) :
    graded 1 (schHandle e s).2 = true := by
  cases e <;>
    simp_all [schHandle, fireHead_inner, finishFiring_inner, derivation_inner, clockAtSch_inner]

/-! ### ALR -/

theorem becomeOwner_calm (k : Nat) (a : Alr) : graded 0 (becomeOwner k a).2 = true := by
  simp [becomeOwner, startFlashMsg]

theorem dropOwner_calm (a : Alr) : graded 0 (dropOwner a).2 = true := by
  simp [dropOwner]

theorem settleOwner_calm (a : Alr) : graded 0 (settleOwner a).2 = true := by
  unfold settleOwner
  split
  · exact becomeOwner_calm _ _
  · simp
  · split
    · split <;> simp [becomeOwner_calm]
    · split <;> simp [becomeOwner_calm, dropOwner_calm]

theorem burstBoundary_calm (a : Alr) : graded 0 (burstBoundary a).2 = true := by
  unfold burstBoundary
  split
  · split <;> simp [becomeOwner_calm, dropOwner_calm]
  · simp

theorem beepPhase_calm (a : Alr) : graded 0 (beepPhase a).2 = true := by
  unfold beepPhase; split <;> simp [burstBoundary_calm]

theorem settleAlerts_calm (b a : Alr) : graded 0 (settleAlerts b a).2 = true := by
  simp [settleAlerts, alertHands, settleOwner_calm]

theorem changeRecord_calm (k : Nat) (f : AlertRecord → AlertRecord) (a : Alr) : graded 0 (changeRecord k f a).2 = true :=
  settleAlerts_calm _ _

theorem acknowledge_calm (k n : Nat) (a : Alr) : graded 0 (acknowledge k n a).2 = true := by
  simp [acknowledge, changeRecord_calm]

theorem setAlertChannel_calm (n : Nat) (a : Alr) : graded 0 (setAlertChannel n a).2 = true := by
  simp [setAlertChannel, startFlashMsg]

/-- What ALR hands on is calm, but for replies and the schedule's answers. -/
theorem alrHandle_calm (e : AlrEv) (s : State) (h : match e with | .ack _ | .channel _ | .act _ => False | _ => True) :
    graded 0 (alrHandle e s).2 = true := by
  cases e <;>
    simp_all [alrHandle, changeRecord_calm, changeRecords, settleAlerts_calm, soundingEnd, resoundEnd, burstBoundary_calm,
      beepPhase_calm, setAlertChannel_calm]
  split <;> simp [acknowledge_calm]

theorem alertAction_inner (x : Action) (s : State) : graded 1 (alertAction x s).2 = true := by
  unfold alertAction; split <;> simp [graded_mono (Nat.zero_le 1) (changeRecord_calm _ _ _)]

/-! ### RPQ -/

theorem takeReport_calm (s : State) (q : Rpq) : graded 0 (takeReport s q).2 = true := by
  unfold takeReport; split <;> simp

theorem concludeReports_graded (g : Nat) (s : State) (q : Rpq) (ms : List Msg) (h : graded g ms = true) :
    graded g (concludeReports s q ms).2 = true := by
  simp [concludeReports, h, graded_mono (Nat.zero_le g) (takeReport_calm _ _)]

theorem takePost_calm (c : Nat) (d : List Byte) (s : State) (q : Rpq) : graded 0 (takePost c d s q).2 = true := by
  unfold takePost; split <;> simp [capture]

/-- What RPQ hands on is calm, but for replies. -/
theorem rpqHandle_calm (e : RpqEv) (s : State) (h : e.grade ≤ 2) : graded 0 (rpqHandle e s).2 = true := by
  refine concludeReports_graded 0 s _ _ ?_
  cases e <;> simp_all [RpqEv.grade, rpqEffect, takePost_calm]

/-! ### LNK and STO -/

theorem lnkHandle_sendReport (f : List Byte) (s : State) :
    lnkHandle (.sendReport f) s = ({ s.lnk with tx := .report, txFrame := f }, []) := rfl

/-- What STO hands on is nothing, but for requests. -/
theorem stoHandle_quiet (e : StoEv) (s : State) (h : match e with | .save | .defaults | .restart => False | _ => True) :
    (stoHandle e s).2 = [] := by
  cases e <;> simp_all [stoHandle]
  split <;> rfl

/-! ### Closure -/

/-- What a calm message brings about is calm. -/
theorem deliver_calm (m : Msg) (s : State) (h : m.grade = 0) : graded 0 (deliver m s).2 = true := by
  cases m with
  | chg e => cases e <;> first | exact chgHandle_calm _ _ trivial | exact absurd h (by simp [Msg.grade, ChgEv.grade])
  | dmd e => cases e <;> first | exact dmdHandle_calm _ _ trivial | exact absurd h (by simp [Msg.grade, DmdEv.grade])
  | htr e => cases e <;> first | exact htrHandle_calm _ _ trivial | exact absurd h (by simp [Msg.grade, HtrEv.grade])
  | clr e => cases e <;> first | exact clrHandle_calm _ _ trivial | exact absurd h (by simp [Msg.grade, ClrEv.grade])
  | lgt e => cases e <;> first | exact lgtHandle_calm _ _ trivial | exact absurd h (by simp [Msg.grade, LgtEv.grade])
  | rcl e => cases e <;> exact absurd h (by simp [Msg.grade, RclEv.grade])
  | sch e => cases e <;> first | rfl | exact absurd h (by simp [Msg.grade, SchEv.grade])
  | alr e => cases e <;> first | exact alrHandle_calm _ _ trivial | exact absurd h (by simp [Msg.grade, AlrEv.grade])
  | rpq e => exact rpqHandle_calm _ _ (by simp only [Msg.grade] at h; omega)
  | lnk e => cases e <;> first | rfl | exact absurd h (by simp [Msg.grade, LnkEv.grade])
  | sto e => cases e <;> first | rfl | exact absurd h (by simp [Msg.grade, StoEv.grade])

/-- What a message of class 1 brings about is of class 1. -/
theorem deliver_inner (m : Msg) (s : State) (h : m.grade ≤ 1) : graded 1 (deliver m s).2 = true := by
  by_cases h0 : m.grade = 0
  · exact graded_mono (Nat.zero_le 1) (deliver_calm m s h0)
  · cases m with
    | chg e => cases e <;> simp [Msg.grade, ChgEv.grade] at h h0
    | dmd e => cases e <;> simp [Msg.grade, DmdEv.grade] at h h0
    | htr e => cases e <;> simp [Msg.grade, HtrEv.grade] at h h0; exact heaterAction_inner _ _ _
    | clr e => cases e <;> simp [Msg.grade, ClrEv.grade] at h h0; exact coolerAction_inner _ _ _
    | lgt e => cases e <;> simp [Msg.grade, LgtEv.grade] at h h0; exact lightAction_inner _ _ _
    | rcl e => cases e <;> simp [Msg.grade, RclEv.grade] at h h0; exact restAction_inner _ _
    | sch e => cases e <;> first | exact schHandle_inner _ _ trivial | exact absurd h (by simp [Msg.grade, SchEv.grade])
    | alr e => cases e <;> simp [Msg.grade, AlrEv.grade] at h h0; exact alertAction_inner _ _
    | rpq e => cases e <;> simp [Msg.grade, RpqEv.grade] at h h0
    | lnk e => cases e <;> simp [Msg.grade, LnkEv.grade] at h h0
    | sto e => cases e <;> simp [Msg.grade, StoEv.grade] at h h0

/-- What a message of class 2 brings about is of class 2. -/
theorem deliver_handed (m : Msg) (s : State) (h : m.grade ≤ 2) : graded 2 (deliver m s).2 = true := by
  by_cases h1 : m.grade ≤ 1
  · exact graded_mono (by omega) (deliver_inner m s h1)
  · have h2 : graded 0 (deliver m s).2 = true := by
      cases m with
      | chg e => cases e <;> first | exact chgHandle_calm _ _ trivial | (exfalso; simp [Msg.grade, ChgEv.grade] at h h1)
      | dmd e => cases e <;> first | exact dmdHandle_calm _ _ trivial | (exfalso; simp [Msg.grade, DmdEv.grade] at h h1)
      | htr e =>
        cases e <;> first | exact htrHandle_calm _ _ trivial | (exfalso; simp [Msg.grade, HtrEv.grade] at h h1)
      | clr e =>
        cases e <;> first | exact clrHandle_calm _ _ trivial | (exfalso; simp [Msg.grade, ClrEv.grade] at h h1)
      | lgt e =>
        cases e <;> first | exact lgtHandle_calm _ _ trivial | (exfalso; simp [Msg.grade, LgtEv.grade] at h h1)
      | rcl e =>
        cases e <;> first | exact testWarnings_calm _ | (exfalso; simp [Msg.grade, RclEv.grade] at h h1)
      | sch e =>
        cases e <;> first | rfl | (exfalso; simp [Msg.grade, SchEv.grade] at h h1)
      | alr e =>
        cases e <;> first | exact alrHandle_calm _ _ trivial | (exfalso; simp [Msg.grade, AlrEv.grade] at h h1)
      | rpq e => exact rpqHandle_calm _ _ (by simpa [Msg.grade] using h)
      | lnk e => cases e <;> first | rfl | (exfalso; simp [Msg.grade, LnkEv.grade] at h h1)
      | sto e => cases e <;> first | rfl | (exfalso; simp [Msg.grade, StoEv.grade] at h h1)
    exact graded_mono (Nat.zero_le 2) h2

end Sys2Proof.Machine
end

