-- ==== Sys2Proof/Laws/Kept.lean ====
section
/-! SUPPORT. What stays as it was while the messages of a class are taken. -/

namespace Sys2Proof.Machine

/-! ### The parts that stay -/

/-- CHG without the part mode and the doze timer. -/
def Chg.core (c : Chg) : Chg := { c with mode := .active, doze := none }
/-- LNK without the transmitter. -/
def Lnk.core (l : Lnk) : Lnk := { l with tx := .idle, txFrame := [] }
/-- RCL without the quiet flag. -/
def Rcl.core (r : Rcl) : Rcl := { r with quiet := false }
/-- LGT's settings, its door and its buttons. -/
def Lgt.core (l : Lgt) : List Byte × List (List SceneItem) × List Int × Nat × Bool × Option Nat × ButtonState × ButtonState :=
  (l.groups, l.scenes, l.fullCurrents, l.quietLight, l.doorOpen, l.doorTimer, l.btn1, l.btn2)
/-- RPQ's settings and its gate. -/
def Rpq.core (q : Rpq) : List Nat × Nat × Nat × Bool := (q.levels, q.mask, q.threshold, q.gate)
/-- STO without the State writes. -/
def Sto.core (t : Sto) : Option (Area Settings) × Option Settings × Nat × RestartStage :=
  (t.settingsArea, t.saving, t.hourly, t.restarting)

theorem Chg.eq_of_core {a b : Chg} (h : a.core = b.core) : a = { b with mode := a.mode, doze := a.doze } := by
  cases a; cases b; simp only [Chg.core, Chg.mk.injEq] at h; simp [h]

theorem Lnk.eq_of_core {a b : Lnk} (h : a.core = b.core) : a = { b with tx := a.tx, txFrame := a.txFrame } := by
  cases a; cases b; simp only [Lnk.core, Lnk.mk.injEq] at h; simp [h]

theorem Rcl.eq_of_core {a b : Rcl} (h : a.core = b.core) : a = { b with quiet := a.quiet } := by
  cases a; cases b; simp only [Rcl.core, Rcl.mk.injEq] at h; simp [h]

theorem reviewMode_core (c : Chg) (s : State) : (reviewMode c s).1.core = c.core := by
  unfold reviewMode
  split
  · split <;> rfl
  · split <;> rfl
  · split
    · rfl
    · split
      · rfl
      · unfold runDozeTimer endDoze; split <;> rfl

theorem endDoze_core (c : Chg) : (endDoze c).core = c.core := by
  unfold endDoze; split <;> rfl

/-- A message of class 1 leaves CHG as it was, but for its mode. -/
theorem deliver_chg_core (m : Msg) (s : State) (h : m.grade ≤ 1) : (deliver m s).1.chg.core = s.chg.core := by
  cases m with
  | chg e =>
    cases e <;> simp [Msg.grade, ChgEv.grade] at h
    · exact reviewMode_core _ _
    · exact (reviewMode_core _ _).trans (endDoze_core _)
    · exact (reviewMode_core _ _).trans (endDoze_core _)
  | _ => rfl

/-- A message of class 2 leaves LNK as it was, but for the transmitter. -/
theorem deliver_lnk_core (m : Msg) (s : State) (h : m.grade ≤ 2) : (deliver m s).1.lnk.core = s.lnk.core := by
  cases m with
  | lnk e => cases e <;> simp [Msg.grade, LnkEv.grade] at h; rfl
  | _ => rfl

theorem setQuiet_core (b : Bool) (r : Rcl) : (setQuiet b r).1.core = r.core := rfl

/-- A message of class 1 leaves RCL as it was, but for the quiet flag. -/
theorem deliver_rcl_core (m : Msg) (s : State) (h : m.grade ≤ 1) : (deliver m s).1.rcl.core = s.rcl.core := by
  cases m with
  | rcl e =>
    cases e <;> simp [Msg.grade, RclEv.grade] at h
    simp only [deliver_rcl, rclHandle, restAction]
    split
    · split <;> rfl
    · rfl
  | _ => rfl

/-- A calm message leaves RCL as it was. -/
theorem deliver_rcl_calm (m : Msg) (s : State) (h : m.grade = 0) : (deliver m s).1.rcl = s.rcl := by
  cases m with
  | rcl e => cases e <;> simp [Msg.grade, RclEv.grade] at h
  | _ => rfl

@[simp] theorem modifyFrame_core (f : Frame → Frame) (k : Nat) (l : Lgt) : (modifyFrame f k l).core = l.core := rfl

@[simp] theorem writeTarget_core (k t d : Nat) (l : Lgt) : (writeTarget k t d l).core = l.core := by
  unfold writeTarget; split <;> rfl

@[simp] theorem driveLights_core (l : Lgt) (q : Bool) : (driveLights l q).core = l.core := rfl

@[simp] theorem concludeLights_core (s : State) (b l : Lgt) : (concludeLights s b l).1.core = l.core := rfl

@[simp] theorem applyItems_core (is : List SceneItem) (l : Lgt) : (applyItems is l).1.core = l.core := by
  induction is generalizing l with
  | nil => rfl
  | cons i is ih => unfold applyItems; split <;> simp [ih]

theorem startFlash_core (k a b c : Nat) (l : Lgt) : (startFlash k a b c l).1.core = l.core := by
  unfold startFlash pushFrame
  dsimp only
  split
  · rfl
  · split <;> rfl

theorem cancelFlash_core (k : Nat) (l : Lgt) : (cancelFlash k l).1.core = l.core := by
  unfold cancelFlash
  split
  · rfl
  · exact writeTarget_core _ _ _ _

/-- A message of class 1 leaves LGT's settings, its door and its buttons as they were. -/
theorem deliver_lgt_core (m : Msg) (s : State) (h : m.grade ≤ 1) : (deliver m s).1.lgt.core = s.lgt.core := by
  cases m with
  | lgt e =>
    cases e <;> simp [Msg.grade, LgtEv.grade] at h
    · simp only [deliver_lgt, lgtHandle, withoutAnswer, concludeLights_core, lightGrant]; split <;> rfl
    · rfl
    · next k a b c => exact startFlash_core k a b c s.lgt
    · next k => exact cancelFlash_core k s.lgt
    · next a p =>
      cases a <;>
        · simp only [deliver_lgt, lgtHandle, sceneAction, wakeLight, withDone]
          repeat' (first | rfl | split)
          all_goals simp
  | _ => rfl

theorem takePost_core (c : Nat) (d : List Byte) (s : State) (q : Rpq) : (takePost c d s q).1.core = q.core := by
  unfold takePost
  split
  · rfl
  · split
    · rfl
    · unfold enterQueue overflow countLost
      dsimp only
      repeat' (first | rfl | split)

theorem takeReport_core (s : State) (q : Rpq) : (takeReport s q).1.core = q.core := by
  unfold takeReport
  split
  · split <;> rfl
  · rfl

@[simp] theorem concludeReports_core (s : State) (q : Rpq) (ms : List Msg) : (concludeReports s q ms).1.core = q.core :=
  takeReport_core _ _

/-- A message of class 1 leaves RPQ's settings and its gate as they were. -/
theorem deliver_rpq_core (m : Msg) (s : State) (h : m.grade ≤ 1) : (deliver m s).1.rpq.core = s.rpq.core := by
  cases m with
  | rpq e =>
    cases e <;> simp [Msg.grade, RpqEv.grade] at h <;> simp only [deliver_rpq, rpqHandle, concludeReports_core, rpqEffect]
    · exact takePost_core _ _ _ _
    all_goals rfl
  | _ => rfl

/-- A message of class 1 leaves STO as it was, but for the State writes. -/
theorem deliver_sto_core (m : Msg) (s : State) (h : m.grade ≤ 1) : (deliver m s).1.sto.core = s.sto.core := by
  cases m with
  | sto e =>
    cases e <;> simp [Msg.grade, StoEv.grade] at h <;>
      (simp only [deliver_sto, stoHandle, requestWrite]; split <;> rfl)
  | _ => rfl

/-- A calm message leaves SCH as it was, but for its copy of OUTSIDE. -/
theorem deliver_sch_calm (m : Msg) (s : State) (h : m.grade = 0) :
    { (deliver m s).1.sch with outside := none } = { s.sch with outside := none } := by
  cases m with
  | sch e => cases e <;> simp [Msg.grade, SchEv.grade] at h; rfl
  | _ => rfl

/-! ### ALR's channel -/

@[simp] theorem settleAlerts_channel (b a : Alr) : (settleAlerts b a).1.channel = a.channel := by
  unfold settleAlerts settleOwner becomeOwner dropOwner
  dsimp only
  repeat' (first | rfl | split)

/-- A message of class 1 leaves the alert channel as it was. -/
theorem deliver_alr_channel (m : Msg) (s : State) (h : m.grade ≤ 1) : (deliver m s).1.alr.channel = s.alr.channel := by
  cases m with
  | alr e =>
    cases e <;> simp [Msg.grade, AlrEv.grade] at h <;>
      simp [alrHandle, changeRecord, changeRecords, acknowledge, alertAction, setRecord] <;>
      (repeat' (first | rfl | split)) <;> simp
  | _ => rfl

/-! ### Kept to the end -/

/-- A part of the state that no message of class `g` changes is kept while such messages are taken. -/
theorem run_part {β : Type} (f : State → β) {g : Nat} (hc : ∀ m s, m.grade ≤ g → graded g (deliver m s).2 = true)
    (hk : ∀ m s, m.grade ≤ g → f (deliver m s).1 = f s) (n : Nat) (ms : List Msg) (s : State) (h : graded g ms = true) :
    f (run n ms s) = f s :=
  run_keeps (p := fun m => decide (m.grade ≤ g)) (P := fun t => f t = f s)
    (fun m t hm ht =>
      ⟨(hk m t (of_decide_eq_true hm)).trans ht, hc m t (of_decide_eq_true hm)⟩) n ms s h rfl

theorem run_chg {n : Nat} {ms : List Msg} {s : State} (h : graded 1 ms = true) : (run n ms s).chg.core = s.chg.core :=
  run_part (fun t => t.chg.core) deliver_inner deliver_chg_core n ms s h

theorem run_lnk {n : Nat} {ms : List Msg} {s : State} (h : graded 2 ms = true) : (run n ms s).lnk.core = s.lnk.core :=
  run_part (fun t => t.lnk.core) deliver_handed deliver_lnk_core n ms s h

theorem run_rcl {n : Nat} {ms : List Msg} {s : State} (h : graded 1 ms = true) : (run n ms s).rcl.core = s.rcl.core :=
  run_part (fun t => t.rcl.core) deliver_inner deliver_rcl_core n ms s h

theorem run_rcl_calm {n : Nat} {ms : List Msg} {s : State} (h : graded 0 ms = true) : (run n ms s).rcl = s.rcl :=
  run_part (fun t => t.rcl) (fun m s h => deliver_calm m s (by omega)) (fun m s h => deliver_rcl_calm m s (by omega)) n ms s h

theorem run_lgt {n : Nat} {ms : List Msg} {s : State} (h : graded 1 ms = true) : (run n ms s).lgt.core = s.lgt.core :=
  run_part (fun t => t.lgt.core) deliver_inner deliver_lgt_core n ms s h

theorem run_rpq {n : Nat} {ms : List Msg} {s : State} (h : graded 1 ms = true) : (run n ms s).rpq.core = s.rpq.core :=
  run_part (fun t => t.rpq.core) deliver_inner deliver_rpq_core n ms s h

theorem run_sto {n : Nat} {ms : List Msg} {s : State} (h : graded 1 ms = true) : (run n ms s).sto.core = s.sto.core :=
  run_part (fun t => t.sto.core) deliver_inner deliver_sto_core n ms s h

theorem run_alr_channel {n : Nat} {ms : List Msg} {s : State} (h : graded 1 ms = true) :
    (run n ms s).alr.channel = s.alr.channel :=
  run_part (fun t => t.alr.channel) deliver_inner deliver_alr_channel n ms s h

theorem run_sch_calm {n : Nat} {ms : List Msg} {s : State} (h : graded 0 ms = true) :
    { (run n ms s).sch with outside := none } = { s.sch with outside := none } :=
  run_part (fun t => { t.sch with outside := none }) (fun m s h => deliver_calm m s (by omega))
    (fun m s h => deliver_sch_calm m s (by omega)) n ms s h

end Sys2Proof.Machine
end

