-- ==== Sys2Proof/Laws/Requests.lean ====
section
/-! SUPPORT. A request from its dispatch to its reply in the slot. -/

namespace Sys2Proof.Machine

/-- The reply put into the reserved slot. -/
def withAnswered (st : Status) (b : List Byte) (u : State) : State := { u with lnk := takeAnswer st b u.lnk }

theorem deliver_answer (st : Status) (b : List Byte) (u : State) :
    deliver (answer st b) u = (withAnswered st b u, []) := rfl

@[simp] theorem event_commit (u : State) : event (.lnk .commit) u = closed u := rfl

/-- A request command runs the request it spells. -/
theorem exec_requestOf {c : Instr} {tag : Byte} {r : Request} (h : requestOf c = some (tag, r)) (s : State) :
    exec c s = .next (request tag r s) := by
  cases c <;> simp [requestOf] at h <;> (obtain ⟨rfl, rfl⟩ := h; rfl)

/-- The Service tier is the codes from 0x30 on. -/
theorem serviceTier_iff (r : Request) : serviceTier r.code = true ↔ 0x30 ≤ r.code := by
  cases r <;> simp [Request.code, serviceTier, natIn]

/-- What a request does at LNK is closed at the end. -/
theorem request_eq {tag : Byte} {r : Request} {s s' : State} {ms : List Msg}
    (h : deliver (.lnk (.request tag r)) (fresh s) = (s', ms)) : request tag r s = closed (settle ms s') := by
  rw [request, event_commit, event_eq h]

/-- A Basic or Extended request, and a Service request with SERVICE high, is taken (R192). -/
theorem request_taken {tag : Byte} {r : Request} {s : State} {m : Msg} (hs : s.lnk.slots.length < 2)
    (ht : serviceTier r.code = true → s.lnk.service = true) (ho : r.owner = some m) :
    request tag r s = closed (settle [m] (dispatched (BitVec.ofNat 8 (r.code + 128)) tag s)) := by
  have h1 : ¬ 2 ≤ s.lnk.slots.length := by omega
  have h2 : (serviceTier r.code && !s.lnk.service) = false := by
    cases hr : serviceTier r.code with
    | false => rfl
    | true => simp [ht hr]
  have h3 : ∀ l : Lnk, routeRequest r l (fresh s) = (l, [m]) := by
    intro l
    cases r <;> simp_all [routeRequest, Request.owner]
  have h4 : deliver (.lnk (.request tag r)) (fresh s) = (dispatched (BitVec.ofNat 8 (r.code + 128)) tag s, [m]) := by
    simp [lnkHandle, dispatchRequest, h1, h2, h3, dispatched]
  simp only [request, event, h4]
  rfl

/-- With a slot reserved, the owner's answer is that slot's reply. -/
theorem withAnswered_eq {k tag : Byte} {st : Status} {b : List Byte} {u : State} (h : u.lnk.reserved = some (k, tag)) :
    withAnswered st b u = answered k tag st.code b u := by
  simp [withAnswered, answered, takeAnswer, h]

/-- The owner answers first: what follows is taken with the reply already at LNK. -/
theorem settle_answered {m : Msg} {s1 s2 : State} {st : Status} {b : List Byte} {ms : List Msg} (hm : m.rank = 0)
    (hd : deliver m s1 = (s2, answer st b :: ms)) : settle [m] s1 = run 9998 ms (withAnswered st b s2) := by
  show run (9998 + 1 + 1) [m] s1 = _
  rw [run_cons _ _ hm, hd]
  show run (9998 + 1) ([] ++ answer st b :: ms) s2 = _
  rw [List.nil_append, run_cons _ _ rfl, deliver_answer]
  simp

/-- A request whose owner answers `st` with `b` and hands `ms` on. -/
theorem request_answered {tag : Byte} {r : Request} {s s2 : State} {m : Msg} {st : Status} {b : List Byte} {ms : List Msg}
    (hs : s.lnk.slots.length < 2) (ht : serviceTier r.code = true → s.lnk.service = true) (ho : r.owner = some m)
    (hm : m.rank = 0) (hd : deliver m (dispatched (BitVec.ofNat 8 (r.code + 128)) tag s) = (s2, answer st b :: ms)) :
    request tag r s = closed (run 9998 ms (withAnswered st b s2)) := by
  rw [request_taken hs ht ho, settle_answered hm hd]

/-- A request whose owner answers: the form the statements give it. -/
theorem request_finish {k tag : Byte} {r : Request} {s s2 : State} {m : Msg} {st : Status} {b : List Byte} {ms : List Msg}
    (hk : BitVec.ofNat 8 (r.code + 128) = k) (hs : HasSlot s) (ht : serviceTier r.code = true → s.lnk.service = true)
    (ho : r.owner = some m) (hm : m.rank = 0) (hd : deliver m (dispatched k tag s) = (s2, answer st b :: ms))
    (hr : s2.lnk.reserved = some (k, tag)) : request tag r s = finish ms (answered k tag st.code b s2) := by
  subst hk
  rw [request_answered hs ht ho hm hd, withAnswered_eq hr]
  rfl

theorem startReply_slots (l : Lnk) : (startReply l).slots = l.slots := by
  unfold startReply; split <;> rfl

theorem startReply_service (l : Lnk) : (startReply l).service = l.service := by
  unfold startReply; split <;> rfl

/-- The slots at the end of a request. -/
theorem closed_run_slots {n : Nat} {ms : List Msg} {s : State} {st : Status} {b : List Byte} {k tag : Byte}
    (hr : s.lnk.reserved = some (k, tag)) (hg : graded 2 ms = true) :
    (closed (run n ms (withAnswered st b s))).lnk.slots = s.lnk.slots ++ [⟨k, tag, st.code, b⟩] := by
  have h := run_lnk (n := n) (s := withAnswered st b s) hg
  have ha : (run n ms (withAnswered st b s)).lnk.answer = some ⟨k, tag, st.code, b⟩ :=
    (congrArg Lnk.answer h).trans (by simp [Lnk.core, withAnswered, takeAnswer, hr])
  have hs : (run n ms (withAnswered st b s)).lnk.slots = s.lnk.slots :=
    (congrArg Lnk.slots h).trans (by simp [Lnk.core, withAnswered, takeAnswer, hr])
  simp [closed, commitReply, ha, startReply_slots, hs]

/-- The reply of a request whose owner answers `st` with `b`. -/
theorem request_reply {tag : Byte} {r : Request} {s s2 : State} {m : Msg} {st : Status} {b : List Byte} {ms : List Msg}
    (hs : s.lnk.slots.length < 2) (ht : serviceTier r.code = true → s.lnk.service = true) (ho : r.owner = some m)
    (hm : m.rank = 0) (hd : deliver m (dispatched (BitVec.ofNat 8 (r.code + 128)) tag s) = (s2, answer st b :: ms))
    (hl : s2.lnk = (dispatched (BitVec.ofNat 8 (r.code + 128)) tag s).lnk) (hg : graded 2 ms = true) :
    (request tag r s).lnk.slots = s.lnk.slots ++ [⟨BitVec.ofNat 8 (r.code + 128), tag, st.code, b⟩] := by
  rw [request_answered hs ht ho hm hd, closed_run_slots (k := BitVec.ofNat 8 (r.code + 128)) (tag := tag) (by rw [hl]; rfl) hg,
    hl]
  rfl

/-- A request that its owner answers without handing anything else on: the whole next state. -/
theorem request_quiet {tag : Byte} {r : Request} {s s2 : State} {m : Msg} {st : Status} {b : List Byte}
    (hs : s.lnk.slots.length < 2) (ht : serviceTier r.code = true → s.lnk.service = true) (ho : r.owner = some m)
    (hm : m.rank = 0) (hd : deliver m (dispatched (BitVec.ofNat 8 (r.code + 128)) tag s) = (s2, [answer st b])) :
    request tag r s = closed (withAnswered st b s2) := by
  rw [request_answered hs ht ho hm hd, run_nil]

end Sys2Proof.Machine
end

