-- ==== Sys2Proof/Laws/Answers.lean ====
section
/-! SUPPORT. Every owner answers first, once, and what it hands on besides is of class 2. -/

namespace Sys2Proof.Machine

/-- What is handed on begins with the one answer. -/
def Answers (ms : List Msg) : Prop := ∃ st b rest, ms = answer st b :: rest ∧ graded 2 rest = true

theorem answers_cons {st : Status} {b : List Byte} {rest : List Msg} (h : graded 2 rest = true) :
    Answers (answer st b :: rest) := ⟨st, b, rest, rfl, h⟩

theorem answers_one (st : Status) (b : List Byte) : Answers [answer st b] := answers_cons rfl

theorem answers_calm {st : Status} {b : List Byte} {rest : List Msg} (h : graded 0 rest = true) :
    Answers (answer st b :: rest) := answers_cons (graded_mono (by omega) h)

theorem answers_inner {st : Status} {b : List Byte} {rest : List Msg} (h : graded 1 rest = true) :
    Answers (answer st b :: rest) := answers_cons (graded_mono (by omega) h)

theorem chgRequest_answers (ok : Bool) (f : Chg → Chg) (c : Chg) : Answers (chgRequest ok f c).2 := by
  unfold chgRequest
  split
  · exact answers_calm (handFigures_calm _)
  · exact answers_one _ _

theorem declareEntry_answers (x : DeclareArgs) (d : Dmd) (s : State) : Answers (declareEntry x d s).2 := by
  unfold declareEntry
  split
  · exact answers_one _ _
  · split
    · exact answers_one _ _
    · split
      · exact answers_calm (budgetPass_calm _ _ _)
      · split
        · exact answers_one _ _
        · exact answers_calm (budgetPass_calm _ _ _)

theorem releaseEntry_answers (n : Nat) (d : Dmd) (s : State) : Answers (releaseEntry n d s).2 := by
  unfold releaseEntry
  split
  · exact answers_one _ _
  · split
    · exact answers_one _ _
    · exact answers_calm (budgetPass_calm _ _ _)

theorem clearLockout_answers (h : Htr) : Answers (clearLockout h).2 := by
  unfold clearLockout
  split
  · exact answers_calm (goTo_calm _ _ _ _)
  · split
    · exact answers_one _ _
    · exact answers_calm (setKeep_calm _ _)
  · exact answers_calm (setKeep_calm _ _)

theorem withAnswer_answers (s : State) (l : Lgt) (ms : List Msg) (st : Status) (b : List Byte) (h : graded 0 ms = true) :
    Answers (withAnswer s l ms (answer st b)).2 :=
  answers_calm (by simp [h, concludeLights_calm])

/-- The owner of a request answers it first. -/
theorem owner_answers {r : Request} {m : Msg} (h : r.owner = some m) (s : State) : Answers (deliver m s).2 := by
  cases r <;> simp only [Request.owner, Option.some.injEq, reduceCtorEq] at h <;> subst h
  case heatStart => exact answers_calm (requestStart_calm _ _ _)
  case heatStop => exact answers_calm (stopHeater_calm _ _)
  case heatSet x =>
    simp only [deliver_htr, htrHandle, heatSet]
    split
    · dsimp only; split <;> exact answers_calm (applyProfile_calm _ _ _)
    · exact answers_one _ _
  case coolSet x =>
    simp only [deliver_clr, clrHandle, coolSet]
    split
    · dsimp only; split <;> exact answers_calm (applyCool_calm _ _ _)
    · exact answers_one _ _
  case lightSet x =>
    simp only [deliver_lgt, lgtHandle]
    split
    · exact withAnswer_answers _ _ _ _ _ rfl
    · exact answers_one _ _
  case sceneRecall n =>
    simp only [deliver_lgt, lgtHandle, sceneRecall]
    split
    · exact answers_one _ _
    · split
      · exact answers_one _ _
      · exact withAnswer_answers _ _ _ _ _ rfl
  case lightSave => exact withAnswer_answers _ _ _ _ _ (pushFrame_calm _ _)
  case lightRestore =>
    simp only [deliver_lgt, lgtHandle, lightRestore]
    split
    · exact answers_one _ _
    · exact withAnswer_answers _ _ _ _ _ rfl
  case activity a =>
    simp only [deliver_rcl, rclHandle, activityRequest]
    split
    · exact answers_one _ _
    · exact answers_inner (takeActivity_inner _ _)
  case restPlan w =>
    simp only [deliver_rcl, rclHandle, restPlanRequest]
    split
    · exact answers_one _ _
    · split
      · exact answers_one _ _
      · split
        · exact answers_inner (by simp [openRecord, openMsgs, restActivity_inner])
        · exact answers_inner (by simp [restActivity_inner])
  case alertAck k =>
    simp only [deliver_alr, alrHandle, ackRequest]
    split
    · exact answers_one _ _
    · split
      · exact answers_one _ _
      · split
        · exact answers_calm (acknowledge_calm _ _ _)
        · exact answers_one _ _
  case alertChannel n =>
    simp only [deliver_alr, alrHandle, channelRequest]
    split
    · exact answers_one _ _
    · exact answers_calm (setAlertChannel_calm _ _)
  case clockSet t => exact answers_inner (by simp)
  case restSettings x =>
    simp only [deliver_rcl, rclHandle, restSettingsRequest]
    split
    · exact answers_calm (testWarnings_calm _)
    · exact answers_one _ _
  case schedAdd x =>
    simp only [deliver_sch, schHandle, schedAddRequest]
    split
    · exact answers_one _ _
    · split
      · exact answers_one _ _
      · split
        · exact answers_one _ _
        · exact answers_inner (by simp)
  case schedRemove n =>
    simp only [deliver_sch, schHandle, schedRemoveRequest]
    split
    · exact answers_one _ _
    · split <;> exact answers_one _ _
  case schedList n => exact answers_one _ _
  case logWindow f l =>
    simp only [deliver_rcl, rclHandle, logWindowRequest]
    split <;> exact answers_one _ _
  case logRead =>
    simp only [deliver_rcl, rclHandle, logReadRequest]
    split <;> exact answers_one _ _
  case sceneStore n is => simp only [deliver_lgt, lgtHandle]; split <;> exact answers_one _ _
  case groupSet g b => simp only [deliver_lgt, lgtHandle]; split <;> exact answers_one _ _
  case channelSet c q =>
    simp only [deliver_lgt, lgtHandle]
    split
    · exact withAnswer_answers _ _ _ _ _ rfl
    · exact answers_one _ _
  case reportGate g c =>
    simp only [deliver_rpq, rpqHandle, rpqEffect, gateRequest, concludeReports]
    split <;> exact answers_calm (by simp [takeReport_calm])
  case causeLevel c v =>
    simp only [deliver_rpq, rpqHandle, rpqEffect, levelRequest, concludeReports]
    split <;> exact answers_calm (by simp [takeReport_calm])
  case levelMask a b =>
    simp only [deliver_rpq, rpqHandle, rpqEffect, maskRequest, concludeReports]
    split <;> exact answers_calm (by simp [takeReport_calm])
  case captureArm x =>
    simp only [deliver_rpq, rpqHandle, rpqEffect, armRequest, concludeReports]
    repeat' split
    all_goals exact answers_calm (by simp [takeReport_calm])
  case captureRead d i =>
    simp only [deliver_rpq, rpqHandle, rpqEffect, captureReadAnswer, concludeReports]
    repeat' split
    all_goals exact answers_calm (by simp [takeReport_calm])
  case captureFree d =>
    simp only [deliver_rpq, rpqHandle, rpqEffect, freeRequest, concludeReports]
    split <;> exact answers_calm (by simp [takeReport_calm])
  case tableRead => exact answers_one _ _
  case tableWrite t =>
    simp only [deliver_htr, htrHandle, tableWrite]
    split
    · exact answers_calm (writeTable_calm _ _)
    · exact answers_one _ _
  case demandDeclare x => exact declareEntry_answers _ _ _
  case demandRelease n => exact releaseEntry_answers _ _ _
  case budgetRead => exact answers_one _ _
  case settingsSave => simp only [deliver_sto, stoHandle, saveRequest]; split <;> exact answers_one _ _
  case clearLockout => exact clearLockout_answers _
  case batterySet p => exact chgRequest_answers _ _ _
  case chargeSet q => exact chgRequest_answers _ _ _
  case ocvSet v => exact chgRequest_answers _ _ _
  case sensorTrim n d => simp only [deliver_chg, chgHandle, setTrim]; split <;> exact answers_one _ _
  case defaults =>
    simp only [deliver_sto, stoHandle, defaultsRequest]
    split
    · exact answers_one _ _
    · exact answers_cons (by simp [defaultMsgs])
  case restart => simp only [deliver_sto, stoHandle, restartRequest]; split <;> exact answers_one _ _

/-- No owner is LNK, so LNK is as it was when the owner has taken its event. -/
theorem owner_lnk {r : Request} {m : Msg} (h : r.owner = some m) (s : State) : (deliver m s).1.lnk = s.lnk := by
  cases r <;> simp only [Request.owner, Option.some.injEq, reduceCtorEq] at h <;> subst h <;> rfl

/-- An owner's event is taken in its turn. -/
theorem owner_rank {r : Request} {m : Msg} (h : r.owner = some m) : m.rank = 0 := by
  cases r <;> simp only [Request.owner, Option.some.injEq, reduceCtorEq] at h <;> subst h <;> rfl

end Sys2Proof.Machine
end

