-- ==== Sys2Proof/Laws/Charge.lean ====
section
/-! SUPPORT. A measurement at CHG: the next state's fields. -/

namespace Sys2Proof.Machine

/-- What follows a measurement moves at CHG only the part mode and the doze timer. -/
theorem measurement_next (m : Samples) (s : State) : ∃ t, exec (.measurement m) s = .next t ∧
    t.chg.core = (measure m (fresh s)).1.core := by
  refine ⟨_, rfl, ?_⟩
  exact run_chg (n := eventFuel) (graded_mono (Nat.zero_le 1) (measure_calm m (fresh s)))

/-- A floor change at CHG, but for the part mode. -/
theorem enterFloor_core (c : Chg) (f : Floor) (s : State) : (enterFloor c f s).1.core = if f = c.floor then c.core else (dropCounts { c with floor := f }).core := by
  unfold enterFloor; split <;> simp [endDoze_core]

/-- A measurement at CHG, but for the part mode: the charge steps, then the floor counters and the floor state. -/
theorem measure_core (m : Samples) (s : State) : (measure m s).1.core =
  (let c7 := floorCounts (measureCharge s.free m s.chg).1 (sampledVolts m.vbat) (sampledCurrent m.shunt)
   if nextFloor c7 = c7.floor then { c7 with interval := s.chg.mode.seconds }.core else (dropCounts { c7 with interval := s.chg.mode.seconds, floor := nextFloor c7 }).core) := by
  unfold measure
  dsimp only
  rw [reviewMode_core, enterFloor_core]
/-- A field of CHG that neither the floor nor the next interval touches is as the charge steps leave it. -/
theorem measurement_field {α} (f : Chg → α) (hf : ∀ c : Chg, f c.core = f c) {m : Samples} {s t : State} (h : t.chg.core = (measure m (fresh s)).1.core)
  (hd : ∀ c : Chg, ∀ g i, f (dropCounts { c with floor := g, interval := i }) = f c) (hi : ∀ c : Chg, ∀ i, f {c with interval := i} = f c) (hfc : ∀ c v i, f (floorCounts c v i) = f c) :
  f t.chg = f (measureCharge (s.free+1) m s.chg).1 := by
  rw [← hf t.chg, h, measure_core]
  dsimp only
  split <;> simp [hf, hd, hi, hfc, fresh]

/-- The charge steps in their order (R3). -/
theorem measureCharge_steps (free : Nat) (m : Samples) (c : Chg) : (measureCharge free m c).1 =
  (let v := sampledVolts m.vbat
   let i := sampledCurrent m.shunt
   let n := countCharge { c with temps := (sampleInputs free 0 (trimmedSamples m c.trims) c.temps).1, v := some v, i := some i } i c.interval
   let c4 := restStep (syncStep n v i).1 v i c.interval
   refigure { c4 with tb := batteryTemp c4 }) := rfl

/-- The sync step, field by field (R9). -/
theorem syncStep_eq (c : Chg) (v i) : (syncStep c v i).1 =
  (let tail := c.battery.vFull ≤ v ∧ 0 ≤ i ∧ i ≤ c.battery.iTail
   let count := if tail then min 60 (c.syncCount + 1) else 0
   let sync := tail ∧ 60 ≤ count ∧ c.syncDone = false
   { c with syncCount := count, syncDone := if sync then true else if tail then c.syncDone else false,
            synced := if sync then true else c.synced, q := if sync then c.battery.cNom else c.q, r := if sync then 0 else c.r }) := by
  unfold syncStep fullSync satAdd
  by_cases h : c.battery.vFull ≤ v ∧ 0 ≤ i ∧ i ≤ c.battery.iTail
  · by_cases h2 : 60 ≤ min 60 (c.syncCount + 1) ∧ c.syncDone = false
    · simp [h, h2]
    · simp [h]; split <;> simp_all; 
  · simp [h]; 

/-- The rest step, field by field (R10, R12). -/
theorem restStep_eq (c : Chg) (v i dt) : restStep c v i dt =
  (let quiet := if i.natAbs ≤ 50 then c.restTime + dt else 0
   { c with restTime := if 1800 ≤ quiet then 0 else quiet, q := if 1800 ≤ quiet then correctedCharge c.battery.cNom c.ocv c.q v else c.q }) := by
  unfold restStep restCorrection
  dsimp only
  by_cases h: i.natAbs ≤ 50
  · by_cases h2 : 1800 ≤ c.restTime + dt <;> simp [h, h2]
  · simp [h]

/-- The charge steps, field by field. -/
theorem measureCharge_eq (free : Nat) (m : Samples) (c : Chg) : ∃ tm tb fg, (measureCharge free m c).1 =
  (let v := sampledVolts m.vbat
   let i := sampledCurrent m.shunt
    let counted := moveCharge c.battery.cNom c.q (c.r + contribution i c.interval c.battery.e)
   let tail := c.battery.vFull ≤ v ∧ 0 ≤ i ∧ i ≤ c.battery.iTail
   let count := if tail then min 60 (c.syncCount + 1) else 0
   let sync := tail ∧ 60 ≤ count ∧ c.syncDone = false
   let quiet := if i.natAbs ≤ 50 then c.restTime + c.interval else 0
   let q := if sync then c.battery.cNom else counted.1
   { c with v := some v, i := some i, temps := tm, tb := tb, figures := fg, syncCount := count, syncDone := if sync then true else if tail then c.syncDone else false,
            synced := if sync then true else c.synced, r := if sync then 0 else counted.2, restTime := if 1800 ≤ quiet then 0 else quiet,
            q := if 1800 ≤ quiet then correctedCharge c.battery.cNom c.ocv q v else q }) := by
  rw [measureCharge_steps]
  simp only [restStep_eq, syncStep_eq, countCharge, refigure]
  exact ⟨_, _, _, rfl⟩

end Sys2Proof.Machine
end

