-- ==== Sys2Proof/Laws/Cooler.lean ====
section
/-! SUPPORT. The cooler controller in the words of the statements: the close of an event, and what it hands on. -/

namespace Sys2Proof.Machine

theorem coolerCode_eq (x : CoolerState) : x.code = coolerNumber x := by cases x <;> rfl

theorem wishedSpeed_eq (c : Clr) (q : Bool) : wishedSpeed c q = coolerWish c q := by
  simp [wishedSpeed, coolerWish]

theorem coolDemand_eq (c : Clr) (q : Bool) : coolDemand c q = coolerWants c q := by
  simp [coolDemand, coolRequest, coolerWants, wishedSpeed_eq]

theorem activeCall_eq (c : Clr) : activeCall c = coolerCalls c := rfl

theorem driveSpeed_eq (c : Clr) (q : Bool) : driveSpeed c q = coolerDriven c q := by
  simp [driveSpeed, coolerDriven, coolSpeed, wishedSpeed_eq]

/-- Where a cooler at rest settles (R88). -/
theorem settleCooler_eq (c : Clr) (q : Bool) : settleCooler c q = coolerSettled c q := by
  have sp := wishedSpeed_eq c q
  unfold settleCooler settledState coolerSettled grantZero
  rw [activeCall_eq]
  by_cases h1 : c.settings.enable = false
  · simp [h1]
  by_cases h2 : (c.grant.any fun g => g.1 == 0) = true
  · simp [h1, h2]
  by_cases h3 : coolerCalls c = false
  · simp [h1, h2, h3]
  cases h4 : c.minOff <;> cases h5 : c.grant <;> simp [h1, h3, h5, startCompressor, coolSpeed, sp] <;> simp_all

theorem stopAndSettle_eq (c : Clr) (q : Bool) :
    stopAndSettle c q = coolerSettled { coolerStopped c with state := .idle } q := settleCooler_eq _ _

/-- A stall (R92, R93). -/
theorem stallCooler_eq (c : Clr) : stallCooler c = coolerStalled c := by
  unfold stallCooler clearStalls coolerStalled satAdd
  by_cases h : c.state = .running ∧ 300 ≤ c.runTime <;> simp [h, stopCompressor, coolerStopped]

theorem quietRunDue_iff (c : Clr) (q : Bool) (hs : c.state = .running) :
    quietRunDue c q = true ↔ q = true ∧ c.settings.enable = true ∧ c.settings.qRun ≤ c.runTime := by
  simp [quietRunDue, hs, and_assoc]

theorem stopCondition_iff (c : Clr) (h : ¬((c.grant.any fun g => g.1 == 0) = true ∧ c.minOn = none)) :
    (stopCondition c = true ∧ c.minOn.isNone = true) ↔
      (c.settings.enable = false ∨ coolerCalls c = false) ∧ c.minOn = none := by
  cases hm : c.minOn with
  | some _ => simp
  | none =>
    have g : grantZero c = false := by simpa [grantZero, hm] using h
    simp [stopCondition, activeCall_eq, g]

/-- The close of an event in RUNNING. -/
theorem closeEvent_running (c : Clr) (q : Bool) (r : CoolerReason) (hs : c.state = .running) :
    ((closeEvent c q r).1, (closeEvent c q r).2.code) = coolerClosed c q r.code := by
  have run : clearStalls c = { c with stalls := if 300 ≤ c.runTime then 0 else c.stalls } := by
    cases c; simp only at hs; subst hs
    unfold clearStalls
    split <;> rename_i h <;> simp_all
  unfold closeEvent coolerClosed
  rw [hs]
  dsimp only
  rw [run]
  generalize hx : ({ c with stalls := if 300 ≤ c.runTime then 0 else c.stalls } : Clr) = x
  have hg : x.grant = c.grant := by rw [← hx]
  have hm : x.minOn = c.minOn := by rw [← hx]
  have hq : quietRunDue x q = quietRunDue c q := by rw [← hx]; rfl
  have hp : stopCondition x = stopCondition c := by rw [← hx]; rfl
  have zero : (grantZero x = true ∧ x.minOn.isNone = true) ↔ ((c.grant.any fun g => g.1 == 0) = true ∧ c.minOn = none) := by
    simp [grantZero, hg, hm]
  by_cases h1 : (c.grant.any fun g => g.1 == 0) = true ∧ c.minOn = none
  · rw [if_pos (zero.mpr h1), if_pos h1, stopAndSettle_eq, ← hx]
    rfl
  · rw [if_neg (fun h => h1 (zero.mp h)), if_neg h1, hq]
    by_cases h2 : q = true ∧ c.settings.enable = true ∧ c.settings.qRun ≤ c.runTime
    · rw [if_pos ((quietRunDue_iff c q hs).mpr h2), if_pos h2, ← hx]
      rfl
    · rw [if_neg (fun h => h2 ((quietRunDue_iff c q hs).mp h)), if_neg h2, hp, hm]
      by_cases h3 : (c.settings.enable = false ∨ coolerCalls c = false) ∧ c.minOn = none
      · rw [if_pos ((stopCondition_iff c h1).mpr h3), if_pos h3, stopAndSettle_eq, ← hx]
        rfl
      · rw [if_neg (fun h => h3 ((stopCondition_iff c h1).mp h)), if_neg h3, ← hx, hs]

/-- The close of an event (R88, R89, R91, R93). -/
theorem closeEvent_eq (c : Clr) (q : Bool) (r : CoolerReason) :
    ((closeEvent c q r).1, (closeEvent c q r).2.code) = coolerClosed c q r.code := by
  cases hs : c.state with
  | running => exact closeEvent_running c q r hs
  | _ => unfold closeEvent coolerClosed; rw [hs]; try simp only [settleCooler_eq]

theorem coolerStateReport_eq (o n : Clr) (r : CoolerReason) : coolerStateReport o n r = coolerReport o n r.code := by
  simp [coolerStateReport, coolerReport, coolerCode_eq]

theorem stateReports_eq (o n : Clr) (r : CoolerReason) :
    stateReports o n r = if o.state = n.state then [] else [coolerReport o n r.code] := by
  unfold stateReports msgsIf
  rw [coolerStateReport_eq]
  by_cases h : o.state = n.state <;> simp [h]

/-- What an event at CLR hands on (R100). -/
theorem handCooler_eq (s : State) (o n : Clr) (reports : List Msg) :
    handCooler s o n reports = (coolerKept o n s.rcl.quiet, coolerHands s o n reports) := by
  have he : entersDisabled o n = decide (n.state = .disabled ∧ o.state ≠ .disabled) := by
    unfold entersDisabled; cases n.state <;> cases o.state <;> rfl
  have hr : ((o.state == .running) != (n.state == .running)) = !decide (o.state = .running ↔ n.state = .running) := by
    cases n.state <;> cases o.state <;> rfl
  refine Prod.ext ?_ ?_
  · simp only [handCooler, dropWarm, he, coolDemand_eq, coolerKept]
    by_cases h : n.state = .disabled ∧ o.state ≠ .disabled
    · rw [if_pos (by simpa using h), if_pos h, if_pos h]
    · rw [if_neg (by simpa using h), if_neg h, if_neg h]
  · have warm : (n.state = .disabled ∧ o.state ≠ .disabled ∧ n.warm = true) ↔
        (entersDisabled o n && n.warm) = true := by
      rw [he]; simp [and_assoc]
    simp only [handCooler, coolDemand_eq, coolerHands, warm, hr, msgsIf, warmAlert, warmReport]
    by_cases a : o.state = .running ↔ n.state = .running <;> by_cases b : coolerWants n s.rcl.quiet = n.posted <;>
      by_cases d : o.state ≠ .faulted ∧ n.state = .faulted <;> simp [a, b, d] <;> rfl

theorem handChange_eq (s : State) (o n : Clr) (r : CoolerReason) :
    handChange s o n r = (coolerKept o n s.rcl.quiet, coolerFollows s o n r.code) := by
  rw [handChange, handCooler_eq, stateReports_eq]; rfl

/-- The end of an event with the stall that a start may find (R92). -/
theorem stallAtStart_eq (s : State) (o n : Clr) (reports : List Msg) :
    stallAtStart s o (handCooler s o n reports) = coolerDone s o n reports := by
  rw [handCooler_eq]
  unfold stallAtStart coolerDone
  simp only [handChange_eq, stallCooler_eq]
  rfl

/-- The end of an event at CLR: the close and everything handed on (R88, R89, R91 to R93, R95, R96, R100). -/
theorem conclude_eq (s : State) (o n : Clr) (r : CoolerReason) :
    conclude s o n r =
      coolerChanged s o (coolerClosed n s.rcl.quiet r.code).1 (coolerClosed n s.rcl.quiet r.code).2 := by
  rw [← closeEvent_eq]
  unfold conclude coolerChanged
  dsimp only
  rw [handChange, stallAtStart_eq, stateReports_eq]

theorem actEnable_eq (p : CoolSettings) (c : Clr) :
    actEnable { c with settings := p } = (match c.state with
    | .disabled => { c with settings := p, state := if p.enable then .idle else .disabled }
    | .faulted => { c with settings := p, state := .idle, stalls := 0 }
    | .pause | .backoff =>
      if p.enable then { c with settings := p } else { c with settings := p, state := .idle, pause := none, backoff := none }
    | _ => { c with settings := p }) := by
  unfold actEnable
  cases hs : c.state <;> cases hp : p.enable <;> simp_all

/-- New settings at CLR (R98, R99). -/
theorem applyCool_eq (p : CoolSettings) (r : CoolerReason) (s : State) : applyCool p r s = coolerSet s p r.code := by
  unfold applyCool coolerSet
  dsimp only
  rw [conclude_eq, driveSpeed_eq, actEnable_eq]
  all_goals cases s.clr.state <;> rfl

end Sys2Proof.Machine
end

