-- ==== Sys2Proof/Laws/Heater.lean ====
section
/-! SUPPORT. The heater sequencer's changes of state in the words of the statements. -/

namespace Sys2Proof.Machine

theorem code_eq_number (x : HeaterState) : x.code = heaterNumber x := by cases x <;> rfl

theorem heaterDemand_eq (h : Htr) : heaterDemand h = heaterPosts h := by
  unfold heaterDemand heaterPosts heaterRequest heaterStartCharge heaterClass effectiveMax
  cases h.seq <;> simp

theorem recordFault_eq (f : HeaterFault) (k : Retained) : recordFault f k = withFault f k := by
  cases k with | mk l a b c => cases l <;> rfl

theorem levelCap_eq (h : Htr) (quiet : Bool) : levelCap h quiet = capOf h quiet := rfl

theorem recap_eq (h : Htr) (quiet : Bool) : recap h quiet = heaterCapped (capOf h quiet) h := by
  unfold recap heaterCapped
  rw [levelCap_eq]
  by_cases hc : h.seq = .run ∧ 1 ≤ capOf h quiet
  · simp only [hc, and_self, if_true]
    cases h.cabin <;> simp [driveHeater, outputsOf, tableRow]
  · simp only [hc, if_false]

/-- The messages of a change of state, without the frost start of an entry to OFF. -/
theorem entryMsgs_eq (h h' : Htr) (r : HeaterReason) : entryMsgs h h' r = heaterChanges h h' r.code := by
  have e : (handItems h.keep h'.keep) = if h.keep = h'.keep then [] else [.sto (.heater h'.keep)] := by
    unfold handItems msgsIf
    by_cases hk : h.keep = h'.keep <;> simp [hk]
  unfold entryMsgs heaterChanges
  rw [e, heaterDemand_eq, code_eq_number, code_eq_number]
  simp only [msgsIf, Bool.and_eq_true, beq_iff_eq, bne_iff_ne]

/-- The frost start of an entry to OFF (R79). -/
theorem frostAtOff_eq (h : Htr) :
    frostAtOff h = if h.seq = .off ∧ h.frostFlag = true ∧ h.startUpDue = false then [.htr .frostStart] else [] := by
  unfold frostAtOff msgsIf
  cases h.seq <;> cases h.frostFlag <;> cases h.startUpDue <;> rfl

/-- The messages of a change of state. -/
theorem entryFollows_eq (h h' : Htr) (r : HeaterReason) :
    entryMsgs h h' r ++ frostAtOff h' = heaterFollows h h' r.code := by
  rw [entryMsgs_eq, frostAtOff_eq]; rfl

theorem goTo_msgs (new : HeaterState) (r : HeaterReason) (k : Retained) (h : Htr) :
    (goTo new r k h).2 = heaterFollows h (goTo new r k h).1 r.code := entryFollows_eq _ _ _

theorem goTo_off (r : HeaterReason) (k : Retained) (h : Htr) :
    goTo .off r k h = (heaterOff k h, heaterFollows h (heaterOff k h) r.code) := by
  have e : (goTo .off r k h).1 = heaterOff k h := by
    cases hp : h.pendingTable <;>
      simp [goTo, enter, enteredState, entrySettings, entryLevel, stateSeconds, adoptTable, driveHeater, outputsOf, heaterOff, hp]
  exact Prod.ext e (by rw [goTo_msgs, e])

/-- An entry to another state than OFF and WAIT: no table is adopted. -/
theorem goTo_eq {new : HeaterState} {r : HeaterReason} {k : Retained} {h h' : Htr}
    (e : enteredState new { h with keep := k } = h') : goTo new r k h = (h', heaterFollows h h' r.code) := by
  have e1 : (goTo new r k h).1 = h' := e
  exact Prod.ext e1 (by rw [goTo_msgs, e1])

theorem purgeTo_eq (d : PurgeDest) (kind : PurgeKind) (r : HeaterReason) (k : Retained) (h : Htr) :
    purgeTo d kind false r k h = (heaterPurging d kind k h, heaterFollows h (heaterPurging d kind k h) r.code) := by
  have e : (purgeTo d kind false r k h).1 = heaterPurging d kind k h := by
    simp [purgeTo, goTo, enter, enteredState, entrySettings, entryLevel, stateSeconds, driveHeater, outputsOf, heaterPurging]
  exact Prod.ext e (by rw [← e]; exact goTo_msgs _ _ _ _)

theorem endPurge_eq (h : Htr) : endPurge h = (heaterEnds h, heaterFollows h (heaterEnds h) 6) := by
  unfold endPurge heaterEnds
  cases h.purge.dest
  case off => exact goTo_off _ _ _
  all_goals
    refine goTo_eq ?_
    cases h.pendingTable <;>
      simp [PurgeDest.state, enteredState, entrySettings, entryLevel, stateSeconds, adoptTable, driveHeater, outputsOf]

theorem precheckFault_eq (h : Htr) : precheckFault h = startFault h := by
  unfold precheckFault startFault
  cases h.flame with
  | none => rfl
  | some f =>
    cases h.overheat <;> simp

/-- An admitted start: PRECHECK, and OFF again when a check fails at once. -/
theorem beginStart_eq (r : HeaterReason) (h : Htr) :
    beginStart r h =
      match startFault (heaterStarted h) with
      | none => (heaterStarted h, heaterFollows h (heaterStarted h) r.code)
      | some f =>
        (heaterOff (withFault f (heaterStarted h).keep) (heaterStarted h),
          heaterFollows h (heaterStarted h) r.code ++
            heaterFollows (heaterStarted h) (heaterOff (withFault f (heaterStarted h).keep) (heaterStarted h)) 4) := by
  have e : enteredState .precheck { startSettings h with keep := startKeep h.keep } = heaterStarted h := by
    cases hk : h.keep with
    | mk l a b c =>
      cases l <;>
        simp [enteredState, entrySettings, entryLevel, stateSeconds, driveHeater, outputsOf, startSettings, startKeep,
          heaterStarted, hk]
  have m : (enter .precheck r (startKeep h.keep) (startSettings h)).2 = heaterFollows h (heaterStarted h) r.code := by
    have := entryFollows_eq h (heaterStarted h) r
    have hz : frostAtOff (heaterStarted h) = [] := rfl
    rw [hz, List.append_nil] at this
    rw [← this, ← e]
    rfl
  have s : (enter .precheck r (startKeep h.keep) (startSettings h)).1 = heaterStarted h := e
  unfold beginStart precheckTest
  dsimp only
  rw [m, s, precheckFault_eq]
  cases startFault (heaterStarted h) with
  | none => simp
  | some f => simp [goTo_off, recordFault_eq, HeaterReason.code]

/-- The readings of a measurement and the frost test (R25, R78). -/
theorem frostTest_eq (r : HeaterReadings) (h : Htr) : frostTest (takeReadings r h) = heaterReads r h := by
  unfold frostTest heaterReads takeReadings setFrostFlag
  simp only [frostAtOff_eq, heaterDemand_eq]
  cases hg : h.profile.frostGuard <;> cases hf : h.frostFlag <;> cases hc : r.cabin <;> simp_all <;> rfl

/-- A flame-out (R65, R74). -/
theorem flameOut_eq (h : Htr) : flameOut h = flamedOut h := by
  unfold flameOut flamedOut failStart
  simp only [purgeTo_eq, recordFault_eq, code_eq_number]
  cases h.restartUsed <;> rfl

/-- SC and the bias after a net count (R63). -/
theorem stepCount_eq (sc : Nat) (bias : Bias) (net : Int) :
    let n := if bias = .raise then net else -net
    let flip := n < 0 ∧ sc < n.natAbs
    stepCount sc bias net =
      (if 0 ≤ n then sc + n.natAbs else if flip then n.natAbs - sc else sc - n.natAbs,
        if flip then (if bias = .raise then .lower else .raise) else bias) := by
  unfold stepCount
  dsimp only
  generalize (if bias = Bias.raise then net else -net) = n
  by_cases h0 : 0 ≤ n
  · have : ¬n < 0 := by omega
    have e : n.toNat = n.natAbs := by omega
    simp [h0, this, e]
  · have neg : n < 0 := by omega
    by_cases h1 : n.natAbs ≤ sc
    · have : ¬sc < n.natAbs := by omega
      simp [h0, h1, this]
    · have : sc < n.natAbs := by omega
      simp [h0, h1, neg, this]

/-- The end of a control period (R62, R63). -/
theorem controlPeriod_eq (h : Htr) (quiet : Bool) (hs : h.seq = .run) (hn : 10 ≤ h.samples) :
    controlPeriod h quiet = periodClosed h quiet := by
  unfold controlPeriod periodClosed stepCounter
  rw [if_pos ⟨hs, hn⟩]
  simp only [stepCount_eq, driveHeater, outputsOf, hs]
  rfl

end Sys2Proof.Machine
end

