-- ==== Sys2Proof/Laws/Mode.lean ====
section
/-! SUPPORT. The part mode and a change of floor state in the words of the statements. -/

namespace Sys2Proof.Machine

theorem endDoze_eq (c : Chg) : endDoze c = awake c := rfl

theorem anySounding_eq (a : Alr) : anySounding a = false ↔ ∀ r ∈ a.records, r.state ≠ .sounding := by
  simp [anySounding]

theorem dozeConditions_iff (c : Chg) (s : State) : dozeConditions c s = true ↔ DozeHolds c s := by
  have resting : s.htr.seq.resting = true ↔ s.htr.seq = .off ∨ s.htr.seq = .wait ∨ s.htr.seq = .lockout := by
    cases s.htr.seq <;> simp [HeaterState.resting]
  have dark : lightsDark s.lgt = true ↔ ∀ x ∈ s.lgt.channels, x.fine = 0 ∧ x.steps = 0 ∧ x.flash = none := by
    simp [lightsDark, Channel.dark, and_assoc]
  simp only [dozeConditions, Bool.and_eq_true, Bool.not_eq_true', bne_iff_ne, List.isEmpty_iff, resting, dark, anySounding_eq,
    DozeHolds, and_assoc]

theorem hibernateConditions_iff (c : Chg) (s : State) : hibernateConditions c s = true ↔ HibernateHolds c s := by
  simp [hibernateConditions, HibernateHolds, and_assoc]

/-- A review of the part mode (R19 to R21). -/
theorem reviewMode_eq (c : Chg) (s : State) : reviewMode c s = modeReviewed c s := by
  unfold reviewMode modeReviewed runDozeTimer endDoze
  simp only [dozeConditions_iff, hibernateConditions_iff]
  cases hm : c.mode with
  | active => rfl
  | doze =>
    dsimp only
    by_cases h : HibernateHolds c s
    · rw [if_pos h, if_pos h]
    · rw [if_neg h, if_neg h]
      by_cases g : DozeHolds c s
      · rw [if_pos g, if_pos g]
      · have g' : ¬DozeHolds { c with mode := .active, doze := none } s := g
        rw [if_neg g, if_neg g, if_pos rfl, if_neg g']
  | hibernate =>
    by_cases h : c.floor = .cutoff ∧ s.lnk.service = false
    · have g : ¬(c.floor ≠ .cutoff ∨ s.lnk.service = true) := by simp [h]
      dsimp only
      rw [if_pos h, if_neg g]
    · have g : c.floor ≠ .cutoff ∨ s.lnk.service = true := by
        rcases Decidable.not_and_iff_or_not.mp h with h | h
        · exact .inl h
        · exact .inr (by simpa using h)
      dsimp only
      rw [if_neg h, if_pos g]

/-- What a change of floor state hands on (R17). -/
theorem floorMsgs_eq (free : Nat) (c : Chg) (f : Floor) : floorMsgs free c f = floorFollows free c f := by
  cases f <;> rfl

end Sys2Proof.Machine
end

