-- ==== Sys2Proof/Laws/PerInstr.lean ====
section
/-! SUPPORT. For each command, as syntax: a well-formed request carries a payload of the length the catalogue gives it (10.4), and
its code is one the catalogue names. -/

namespace Sys2Proof.Laws.Fields

-- Elaborated one after another: many small proofs at once take one thread each.
set_option Elab.async false

open Sys2Proof Sys2Proof.Machine

set_option linter.unusedSimpArgs false

/-! ### Lengths of fields (R191) -/

@[simp] theorem beBytes_length (n : Nat) (x : Int) : (beBytes n x).length = n := by
  induction n with
  | zero => rfl
  | succ n ih => simp [beBytes, ih]

@[simp] theorem u8_length (x : Nat) : (u8 x).length = 1 := beBytes_length _ _
@[simp] theorem u16_length (x : Nat) : (u16 x).length = 2 := beBytes_length _ _
@[simp] theorem u32_length (x : Nat) : (u32 x).length = 4 := beBytes_length _ _
@[simp] theorem s16_length (x : Int) : (s16 x).length = 2 := beBytes_length _ _

theorem flatMap_length {α : Type} (f : α → List Byte) (k : Nat) (h : ∀ a, (f a).length = k) (l : List α) :
    (l.flatMap f).length = k * l.length := by
  induction l with
  | nil => rfl
  | cons a l ih => simp only [List.flatMap_cons, List.length_append, h, ih, List.length_cons]; ring

theorem row_length (r : LevelRow) : (u16 r.pump ++ u16 r.burner ++ u16 r.air ++ s16 r.current).length = 8 := by simp

theorem item_length (i : SceneItem) : (u8 i.channel ++ u16 i.level ++ u16 i.fade).length = 5 := by simp

@[simp] theorem optField_length {α : Type} (f : α → List Byte) (k : Nat) (h : ∀ a, (f a).length = k) (o : Option α) :
    (optField f o).length = 1 + if o.isSome then k else 0 := by
  cases o <;> simp [optField, h, Nat.add_comm]

/-! ### The catalogue (10.4) -/

/-- The payload column of the catalogue: the length in bytes, from the items where the list varies. -/
def catalogueLength : Request → Nat
  | .heatSet _ => 19
  | .coolSet _ => 22
  | .lightSet _ => 7
  | .alertAck _ | .alertChannel _ | .reportGate _ _ | .captureRead _ _ => 2
  | .sceneRecall _ | .activity _ | .schedRemove _ | .schedList _ | .captureFree _ | .tableRead | .demandRelease _
  | .linkStats _ => 1
  | .restPlan _ | .chargeSet _ => 4
  | .clockSet _ => 5
  | .restSettings _ => 37
  | .schedAdd x => 7 + (if x.param.isSome then 2 else 0) + if x.period.isSome then 4 else 0
  | .logWindow _ _ => 8
  | .sceneStore _ items => 2 + 5 * items.length
  | .groupSet _ _ | .causeLevel _ _ | .levelMask _ _ | .sensorTrim _ _ => 3
  | .channelSet _ _ => 19
  | .captureArm x => 5 + x.quantities.length
  | .tableWrite _ => 33
  | .demandDeclare x => 6 + 2 * x.currents.length
  | .batterySet _ => 22
  | .ocvSet _ => 12
  | _ => 0

/-- What holds of every command as syntax. -/
def Statement (c : Instr) : Prop :=
  ∀ tag r, requestOf c = some (tag, r) → c.wf = true →
    (payloadOf r).length = catalogueLength r ∧ catalogued r.code = true

/-- A command that is no request. -/
theorem of_none {c : Instr} (h : requestOf c = none) : Statement c := fun _ _ hr => by simp [h] at hr

/-- A request whose payload has its length. -/
theorem of_some {c : Instr} {tag : Byte} {r : Request} (h : requestOf c = some (tag, r))
    (hl : c.wf = true → (payloadOf r).length = catalogueLength r) (hc : catalogued r.code = true) : Statement c := by
  intro t q hq hw
  rw [h] at hq
  cases hq
  exact ⟨hl hw, hc⟩

/-! ### One lemma per command -/

theorem powerOn (pins : Pins) :
    Statement (.powerOn pins) := of_none rfl
theorem brownOut (pins : Pins) :
    Statement (.brownOut pins) := of_none rfl
theorem restartReset (pins : Pins) :
    Statement (.restartReset pins) := of_none rfl
theorem measurement (m : Samples) :
    Statement (.measurement m) := of_none rfl
theorem sensorValid (input : Nat) :
    Statement (.sensorValid input) := of_none rfl
theorem fullSync : Statement .fullSync := of_none rfl
theorem restVoltageCorrection : Statement .restVoltageCorrection := of_none rfl
theorem lowCountLimit : Statement .lowCountLimit := of_none rfl
theorem hardCountLimit : Statement .hardCountLimit := of_none rfl
theorem clearCountLimit : Statement .clearCountLimit := of_none rfl
theorem chargeCountLimit : Statement .chargeCountLimit := of_none rfl
theorem dozeTimerExpiry : Statement .dozeTimerExpiry := of_none rfl
theorem ignChange (on : Bool) :
    Statement (.ignChange on) := of_none rfl
theorem budgetTimerExpiry : Statement .budgetTimerExpiry := of_none rfl
theorem precheckExpiry : Statement .precheckExpiry := of_none rfl
theorem preheatExpiry : Statement .preheatExpiry := of_none rfl
theorem igniteExpiry : Statement .igniteExpiry := of_none rfl
theorem rampExpiry : Statement .rampExpiry := of_none rfl
theorem controlPeriodEnd : Statement .controlPeriodEnd := of_none rfl
theorem idleStop : Statement .idleStop := of_none rfl
theorem flameOut : Statement .flameOut := of_none rfl
theorem purgeMinimumExpiry : Statement .purgeMinimumExpiry := of_none rfl
theorem purgeTimeout : Statement .purgeTimeout := of_none rfl
theorem fixedPurgeEnd : Statement .fixedPurgeEnd := of_none rfl
theorem frostRetryExpiry : Statement .frostRetryExpiry := of_none rfl
theorem minOnExpiry : Statement .minOnExpiry := of_none rfl
theorem minOffExpiry : Statement .minOffExpiry := of_none rfl
theorem quietRunEnd : Statement .quietRunEnd := of_none rfl
theorem stallCountClear : Statement .stallCountClear := of_none rfl
theorem blindRunEnd : Statement .blindRunEnd := of_none rfl
theorem pauseExpiry : Statement .pauseExpiry := of_none rfl
theorem compFault (asserted : Bool) :
    Statement (.compFault asserted) := of_none rfl
theorem backoffExpiry : Statement .backoffExpiry := of_none rfl
theorem blindOffExpiry : Statement .blindOffExpiry := of_none rfl
theorem minuteTimerExpiry : Statement .minuteTimerExpiry := of_none rfl
theorem warmConditionRaised : Statement .warmConditionRaised := of_none rfl
theorem fadeStep : Statement .fadeStep := of_none rfl
theorem flashStep : Statement .flashStep := of_none rfl
theorem doorChange (isOpen : Bool) :
    Statement (.doorChange isOpen) := of_none rfl
theorem doorTimerExpiry : Statement .doorTimerExpiry := of_none rfl
theorem buttonChange (button : Button) (pressed : Bool) :
    Statement (.buttonChange button pressed) := of_none rfl
theorem longPress (button : Button) :
    Statement (.longPress button) := of_none rfl
theorem secondTimer : Statement .secondTimer := of_none rfl
theorem fullQualification : Statement .fullQualification := of_none rfl
theorem splitQualification : Statement .splitQualification := of_none rfl
theorem breakDue : Statement .breakDue := of_none rfl
theorem breakOverdue : Statement .breakOverdue := of_none rfl
theorem scheduleFiring : Statement .scheduleFiring := of_none rfl
theorem refreshTimerExpiry : Statement .refreshTimerExpiry := of_none rfl
theorem soundingTimeExpiry (kind : Nat) :
    Statement (.soundingTimeExpiry kind) := of_none rfl
theorem reSoundExpiry (kind : Nat) :
    Statement (.reSoundExpiry kind) := of_none rfl
theorem burstStart : Statement .burstStart := of_none rfl
theorem burstBoundary : Statement .burstBoundary := of_none rfl
theorem receiveByte (byte : Byte) :
    Statement (.receiveByte byte) := of_none rfl
theorem gapTimerExpiry : Statement .gapTimerExpiry := of_none rfl
theorem frameSent : Statement .frameSent := of_none rfl
theorem serviceChange (high : Bool) :
    Statement (.serviceChange high) := of_none rfl
theorem settingsSaveComplete : Statement .settingsSaveComplete := of_none rfl
theorem stateWriteComplete : Statement .stateWriteComplete := of_none rfl
theorem hourlyStateTimer : Statement .hourlyStateTimer := of_none rfl
theorem unknownRequest (tag code : Byte) :
    Statement (.unknownRequest tag code) := of_none rfl
theorem status (tag : Byte) :
    Statement (.status tag) :=
  of_some rfl (fun _ => by simp [payloadOf, catalogueLength]) rfl
theorem readings (tag : Byte) :
    Statement (.readings tag) :=
  of_some rfl (fun _ => by simp [payloadOf, catalogueLength]) rfl
theorem heatStart (tag : Byte) :
    Statement (.heatStart tag) :=
  of_some rfl (fun _ => by simp [payloadOf, catalogueLength]) rfl
theorem heatStop (tag : Byte) :
    Statement (.heatStop tag) :=
  of_some rfl (fun _ => by simp [payloadOf, catalogueLength]) rfl
theorem heatSet (tag : Byte) (args : HeatArgs) :
    Statement (.heatSet tag args) :=
  of_some rfl (fun _ => by simp [payloadOf, catalogueLength]) rfl
theorem coolSet (tag : Byte) (args : CoolArgs) :
    Statement (.coolSet tag args) :=
  of_some rfl
    (fun h => by
      simp only [Instr.wf, CoolArgs.wf, Bool.and_eq_true, beq_iff_eq] at h
      simp only [payloadOf, catalogueLength, List.length_append, u8_length, u16_length, u32_length, s16_length,
        flatMap_length _ 2 s16_length]
      omega) rfl
theorem lightSet (tag : Byte) (args : LightArgs) :
    Statement (.lightSet tag args) :=
  of_some rfl (fun _ => by simp [payloadOf, catalogueLength]) rfl
theorem sceneRecall (tag : Byte) (scene : Nat) :
    Statement (.sceneRecall tag scene) :=
  of_some rfl (fun _ => by simp [payloadOf, catalogueLength]) rfl
theorem lightSave (tag : Byte) :
    Statement (.lightSave tag) :=
  of_some rfl (fun _ => by simp [payloadOf, catalogueLength]) rfl
theorem lightRestore (tag : Byte) :
    Statement (.lightRestore tag) :=
  of_some rfl (fun _ => by simp [payloadOf, catalogueLength]) rfl
theorem activity (tag : Byte) (code : Nat) :
    Statement (.activity tag code) :=
  of_some rfl (fun _ => by simp [payloadOf, catalogueLength]) rfl
theorem restPlan (tag : Byte) (wake : Nat) :
    Statement (.restPlan tag wake) :=
  of_some rfl (fun _ => by simp [payloadOf, catalogueLength]) rfl
theorem alertAck (tag : Byte) (kind : Nat) :
    Statement (.alertAck tag kind) :=
  of_some rfl (fun _ => by simp [payloadOf, catalogueLength]) rfl
theorem alertAckSettings (tag : Byte) (channel : Nat) :
    Statement (.alertAckSettings tag channel) :=
  of_some rfl (fun _ => by simp [payloadOf, catalogueLength]) rfl
theorem reportGate (tag : Byte) (gate clear : Nat) :
    Statement (.reportGate tag gate clear) :=
  of_some rfl (fun _ => by simp [payloadOf, catalogueLength]) rfl
theorem clockSet (tag : Byte) (time : Nat) :
    Statement (.clockSet tag time) :=
  of_some rfl (fun _ => by simp [payloadOf, catalogueLength]) rfl
theorem clockSetSettings (tag : Byte) (settings : RestSettings) :
    Statement (.clockSetSettings tag settings) :=
  of_some rfl (fun _ => by simp [payloadOf, catalogueLength]) rfl
theorem schedAdd (tag : Byte) (args : SchedArgs) :
    Statement (.schedAdd tag args) :=
  of_some rfl
    (fun _ => by
      simp only [payloadOf, catalogueLength, List.length_append, u32_length, u8_length, optField_length _ 2 s16_length,
        optField_length _ 4 u32_length]
      omega) rfl
theorem schedRemove (tag : Byte) (slot : Nat) :
    Statement (.schedRemove tag slot) :=
  of_some rfl (fun _ => by simp [payloadOf, catalogueLength]) rfl
theorem schedList (tag : Byte) (start : Nat) :
    Statement (.schedList tag start) :=
  of_some rfl (fun _ => by simp [payloadOf, catalogueLength]) rfl
theorem logWindow (tag : Byte) (first last : Nat) :
    Statement (.logWindow tag first last) :=
  of_some rfl (fun _ => by simp [payloadOf, catalogueLength]) rfl
theorem logRead (tag : Byte) :
    Statement (.logRead tag) :=
  of_some rfl (fun _ => by simp [payloadOf, catalogueLength]) rfl
theorem sceneStore (tag : Byte) (scene : Nat) (items : List SceneItem) :
    Statement (.sceneStore tag scene items) :=
  of_some rfl
    (fun _ => by
      simp only [payloadOf, catalogueLength, List.length_append, u8_length, flatMap_length _ 5 item_length]) rfl
theorem groupSetGroup (tag : Byte) (group : Nat) (members : Byte) :
    Statement (.groupSetGroup tag group members) :=
  of_some rfl (fun _ => by simp [payloadOf, catalogueLength]) rfl
theorem groupSetChannel (tag : Byte) (currents : List Int) (quietCap : Nat) :
    Statement (.groupSetChannel tag currents quietCap) :=
  of_some rfl
    (fun h => by
      simp only [Instr.wf, Bool.and_eq_true, beq_iff_eq] at h
      simp only [payloadOf, catalogueLength, List.length_append, u8_length, u16_length, u32_length, s16_length,
        flatMap_length _ 2 s16_length]
      omega) rfl
theorem causeLevel (tag : Byte) (cause level : Nat) :
    Statement (.causeLevel tag cause level) :=
  of_some rfl (fun _ => by simp [payloadOf, catalogueLength]) rfl
theorem causeLevelSettings (tag : Byte) (mask threshold : Nat) :
    Statement (.causeLevelSettings tag mask threshold) :=
  of_some rfl (fun _ => by simp [payloadOf, catalogueLength]) rfl
theorem captureArm (tag : Byte) (args : ArmArgs) :
    Statement (.captureArm tag args) :=
  of_some rfl
    (fun _ => by
      simp only [payloadOf, catalogueLength, List.length_append, u8_length, u16_length, s16_length,
        flatMap_length _ 1 u8_length]
      omega) rfl
theorem captureRead (tag : Byte) (desc index : Nat) :
    Statement (.captureRead tag desc index) :=
  of_some rfl (fun _ => by simp [payloadOf, catalogueLength]) rfl
theorem captureFree (tag : Byte) (desc : Nat) :
    Statement (.captureFree tag desc) :=
  of_some rfl (fun _ => by simp [payloadOf, catalogueLength]) rfl
theorem heatTableRead (tag : Byte) :
    Statement (.heatTableRead tag) :=
  of_some rfl (fun _ => by simp [payloadOf, catalogueLength]) rfl
theorem heatTableWrite (tag : Byte) (rows : List LevelRow) :
    Statement (.heatTableWrite tag rows) :=
  of_some rfl
    (fun h => by
      simp only [Instr.wf, Bool.and_eq_true, beq_iff_eq] at h
      simp only [payloadOf, catalogueLength, List.length_append, u8_length, u16_length, u32_length, s16_length,
        flatMap_length _ 8 row_length]
      omega) rfl
theorem demandDeclare (tag : Byte) (args : DeclareArgs) :
    Statement (.demandDeclare tag args) :=
  of_some rfl
    (fun _ => by
      simp only [payloadOf, catalogueLength, List.length_append, u8_length, u16_length, s16_length,
        flatMap_length _ 2 s16_length]
      omega) rfl
theorem demandRelease (tag : Byte) (entry : Nat) :
    Statement (.demandRelease tag entry) :=
  of_some rfl (fun _ => by simp [payloadOf, catalogueLength]) rfl
theorem budgetRead (tag : Byte) :
    Statement (.budgetRead tag) :=
  of_some rfl (fun _ => by simp [payloadOf, catalogueLength]) rfl
theorem linkStats (tag : Byte) (clear : Nat) :
    Statement (.linkStats tag clear) :=
  of_some rfl (fun _ => by simp [payloadOf, catalogueLength]) rfl
theorem settingsSave (tag : Byte) :
    Statement (.settingsSave tag) :=
  of_some rfl (fun _ => by simp [payloadOf, catalogueLength]) rfl
theorem heatClearLockout (tag : Byte) :
    Statement (.heatClearLockout tag) :=
  of_some rfl (fun _ => by simp [payloadOf, catalogueLength]) rfl
theorem batterySet (tag : Byte) (params : BatteryParams) :
    Statement (.batterySet tag params) :=
  of_some rfl (fun _ => by simp [payloadOf, catalogueLength]) rfl
theorem chargeSet (tag : Byte) (charge : Nat) :
    Statement (.chargeSet tag charge) :=
  of_some rfl (fun _ => by simp [payloadOf, catalogueLength]) rfl
theorem ocvSet (tag : Byte) (voltages : List Nat) :
    Statement (.ocvSet tag voltages) :=
  of_some rfl
    (fun h => by
      simp only [Instr.wf, Bool.and_eq_true, beq_iff_eq] at h
      simp only [payloadOf, catalogueLength, List.length_append, u8_length, u16_length, u32_length, s16_length,
        flatMap_length _ 2 u16_length]
      omega) rfl
theorem sensorTrim (tag : Byte) (input : Nat) (offset : Int) :
    Statement (.sensorTrim tag input offset) :=
  of_some rfl (fun _ => by simp [payloadOf, catalogueLength]) rfl
theorem defaults (tag : Byte) :
    Statement (.defaults tag) :=
  of_some rfl (fun _ => by simp [payloadOf, catalogueLength]) rfl
theorem restart (tag : Byte) :
    Statement (.restart tag) :=
  of_some rfl (fun _ => by simp [payloadOf, catalogueLength]) rfl
theorem beepPhase : Statement .beepPhase := of_none rfl

end Sys2Proof.Laws.Fields
end

