-- ==== Sys2Proof/Laws/Resets.lean ====
section
/-! SUPPORT. What the messages of a start-up leave as the reset values put it. -/

namespace Sys2Proof.Machine

/-- The messages that a start-up brings about: posts, reviews of the part mode, and what HTR hands to STO. -/
def Msg.isStartUp : Msg → Bool
  | .rpq (.post _ _) => true
  | .chg .review => true
  | .chg .stir => true
  | .sto (.heater _) => true
  | _ => false

/-- A state whose gate is closed, in ACTIVE with the floor state CLEAR: no message of a start-up leaves it. -/
def StartsUp (s : State) : Prop := s.rpq.gate = false ∧ s.chg.mode = .active ∧ s.chg.floor = .clear

theorem reviewMode_startsUp (c : Chg) (s : State) (hm : c.mode = .active) (hf : c.floor = .clear) :
    reviewMode c s = (runDozeTimer c s, []) := by
  simp [reviewMode, hm, hibernateConditions, hf]

theorem takeReport_closed {s : State} {q : Rpq} (h : q.gate = false) : takeReport s q = (q, []) := by
  unfold takeReport; split <;> simp [h]

/-- A message of a start-up changes CHG's doze timer, RPQ and STO only, and brings about messages of a start-up only. -/
theorem deliver_startUp {m : Msg} {s : State} (h : m.isStartUp = true) (hs : StartsUp s) :
    StartsUp (deliver m s).1 ∧ (deliver m s).2.all Msg.isStartUp = true ∧ (deliver m s).1.chg.core = s.chg.core ∧
      (deliver m s).1 =
        { s with chg := (deliver m s).1.chg, rpq := (deliver m s).1.rpq, sto := (deliver m s).1.sto } := by
  obtain ⟨hg, hm, hf⟩ := hs
  unfold Msg.isStartUp at h
  split at h
  · next c d =>
    have hc := takePost_core c d s s.rpq
    have hgate : (takePost c d s s.rpq).1.gate = false := (congrArg (fun x => x.2.2.2) hc).trans hg
    have hq : ∀ q : Rpq, q.gate = false → takeReport s { q with attn := attention q } = ({ q with attn := attention q }, []) :=
      fun q hq => takeReport_closed hq
    refine ⟨⟨?_, hm, hf⟩, ?_, rfl, rfl⟩
    · simp only [deliver_rpq, rpqHandle, concludeReports, rpqEffect, hq _ hgate]; exact hgate
    · simp only [deliver_rpq, rpqHandle, concludeReports, rpqEffect, hq _ hgate]
      have : (takePost c d s s.rpq).2.all Msg.isStartUp = true := by
        unfold takePost capture
        split
        · simp only [msgsIf]; split <;> rfl
        · split <;> rfl
      simp only [List.all_append, List.all_cons, this, msgsIf]
      split <;> simp [Msg.isStartUp]
  · simp only [deliver_chg, chgHandle, reviewMode_startsUp _ s hm hf]
    exact ⟨⟨hg, hm, hf⟩, rfl, rfl, trivial⟩
  · have h1 : ({ endDoze s.chg with doze := none } : Chg).mode = .active := by simp [endDoze, hm]
    have h2 : ({ endDoze s.chg with doze := none } : Chg).floor = .clear := by simp [endDoze, hm, hf]
    simp only [deliver_chg, chgHandle, stirMode, reviewMode_startsUp _ s h1 h2]
    refine ⟨⟨hg, h1, h2⟩, rfl, ?_, trivial⟩
    simp [runDozeTimer, endDoze, hm, Chg.core]
  · refine ⟨⟨hg, hm, hf⟩, rfl, rfl, rfl⟩
  · simp at h

/-- What a start-up leaves: every block but CHG's doze timer, RPQ and STO as the reset put it. -/
theorem run_startUp {n : Nat} {ms : List Msg} {s : State} (h : ms.all Msg.isStartUp = true) (hs : StartsUp s) :
    StartsUp (run n ms s) ∧ (run n ms s).chg.core = s.chg.core ∧
      run n ms s = { s with chg := (run n ms s).chg, rpq := (run n ms s).rpq, sto := (run n ms s).sto } := by
  refine run_keeps (p := Msg.isStartUp)
    (P := fun t => StartsUp t ∧ t.chg.core = s.chg.core ∧ t = { s with chg := t.chg, rpq := t.rpq, sto := t.sto })
    (fun m t hm ht => ?_) n ms s h ⟨hs, rfl, rfl⟩
  obtain ⟨h1, h2, h3⟩ := ht
  have hd := deliver_startUp hm h1
  refine ⟨⟨hd.1, hd.2.2.1.trans h2, ?_⟩, hd.2.1⟩
  rw [hd.2.2.2, h3]

/-- The start-up's own messages are of that class. -/
theorem startUpMsgs_class (k : ResetKind) (s : State) : (startUpMsgs k s).all Msg.isStartUp = true := by
  unfold startUpMsgs
  simp only [List.all_append, List.all_cons, msgsIf]
  split <;> split <;> rfl

/-- What a reset leaves. -/
theorem startUp_parts (k : ResetKind) (pins : Pins) (s : State) :
    StartsUp (startUp k pins s) ∧ (startUp k pins s).chg.core = (blocksAtReset pins s).chg.core ∧
      startUp k pins s =
        { fresh (blocksAtReset pins s) with
          chg := (startUp k pins s).chg
          rpq := (startUp k pins s).rpq
          sto := (startUp k pins s).sto } :=
  run_startUp (startUpMsgs_class k _) ⟨rfl, rfl, rfl⟩

end Sys2Proof.Machine
end

