-- ==== Sys2Proof/Laws/Schedule.lean ====
section
/-! SUPPORT. A derivation at the schedule in the words of the statements. -/

namespace Sys2Proof.Machine.Laws

open Sys2Proof Sys2Proof.Machine

/-- R157: whether a kind is inserted, by what its slot holds. -/
def insertsKind (i due : Nat) (suppress : Bool) (c : Sch) : Bool :=
  !c.done.getD i false && !suppress && ((c.slots[10 + i]?).join).all fun e => decide (e.due ≠ due)

/-- R157: what a kind's slot holds after its derivation. -/
def kindDerived (i : Nat) (action : Action) (due : Nat) (suppress : Bool) (c : Sch) : Option SchedEntry :=
  if insertsKind i due suppress c then
    some { ((c.slots[10 + i]?).join).getD ⟨0, action, none, none, 0, false⟩ with due := due, insertion := c.counter }
  else if !c.done.getD i false && suppress then none
  else (c.slots[10 + i]?).join

/-- One kind of a derivation: its slot and the counter, and nothing else. -/
theorem deriveKind_eq (i : Nat) (action : Action) (due : Nat) (suppress : Bool) (c : Sch) :
    deriveKind i action due suppress c =
      { c with
        slots := c.slots.set (10 + i) (kindDerived i action due suppress c)
        counter := c.counter + if insertsKind i due suppress c then 1 else 0 } := by
  have stands : ∀ x, (c.slots[10 + i]?).join = x → c.slots.set (10 + i) x = c.slots := by
    intro x hx
    apply List.ext_getElem?
    intro m
    by_cases hm : 10 + i = m
    · subst hm
      rcases hg : c.slots[10 + i]? with _ | y
      · simp [List.getElem?_eq_none_iff.mp hg]
      · rw [hg] at hx
        have hl := (List.getElem?_eq_some_iff.mp hg).1
        rw [List.getElem?_set_self hl, ← hx]; rfl
    · rw [List.getElem?_set_ne hm]
  unfold deriveKind kindDerived insertsKind
  cases hd : c.done.getD i false <;> cases suppress <;> rcases hs : (c.slots[10 + i]?).join with _ | e
  · simp [placeEntry]
  · by_cases h : e.due = due <;> simp [h, placeEntry, stands _ hs]
  all_goals simp [stands _ hs]

/-- The kinds before `n` derived one after another: each reads only its own slot, and the insertion numbers go up by one for each
kind inserted (R146). -/
theorem foldl_deriveKind (action : Nat → Action) (due : Nat → Nat) (suppress : Nat → Bool) (c : Sch) (n : Nat) :
    let number (i : Nat) : Nat :=
      c.counter + ((List.range i).filter fun j => insertsKind j (due j) (suppress j) c).length
    (List.range n).foldl (fun c i => deriveKind i (action i) (due i) (suppress i) c) c =
      { c with
        slots := c.slots.zipIdx.map fun p =>
          if 10 ≤ p.2 ∧ p.2 < 10 + n then
            let i := p.2 - 10
            kindDerived i (action i) (due i) (suppress i) { c with counter := number i }
          else p.1
        counter := number n } := by
  intro number
  induction n with
  | zero =>
    have h : (c.slots.zipIdx.map fun p => if 10 ≤ p.2 ∧ p.2 < 10 + 0 then
        kindDerived (p.2 - 10) (action (p.2 - 10)) (due (p.2 - 10)) (suppress (p.2 - 10))
          { c with counter := number (p.2 - 10) } else p.1) = c.slots := by
      apply List.ext_getElem?
      intro m
      have : ¬(10 ≤ m ∧ m < 10) := by omega
      rcases hg : c.slots[m]? with _ | x <;> simp [List.getElem?_zipIdx, hg, this]
    simp only [h]
    simp [number]
  | succ n ih =>
    rw [List.range_succ, List.foldl_append, ih, List.foldl_cons, List.foldl_nil, deriveKind_eq]
    have hx : ∀ f : Option SchedEntry × Nat → Option SchedEntry,
        ((c.slots.zipIdx.map fun p => if 10 ≤ p.2 ∧ p.2 < 10 + n then f p else p.1)[10 + n]?).join = (c.slots[10 + n]?).join := by
      intro f
      simp only [List.getElem?_map, List.getElem?_zipIdx]
      rcases c.slots[10 + n]? with _ | x <;> simp
    simp only [insertsKind, kindDerived, hx]
    congr 1
    · apply List.ext_getElem?
      intro m
      by_cases hm : 10 + n = m
      · subst hm
        rcases hg : c.slots[10 + n]? with _ | x
        · have hl := List.getElem?_eq_none_iff.mp hg
          rw [List.getElem?_eq_none (by simpa using hl), List.getElem?_eq_none (by simpa using hl)]
        · have hl := (List.getElem?_eq_some_iff.mp hg).1
          rw [List.getElem?_set_self (by simpa using hl)]
          simp [hg, List.getElem?_zipIdx]
      · rw [List.getElem?_set_ne hm]
        have : (10 ≤ m ∧ m < 10 + n) ↔ (10 ≤ m ∧ m < 10 + (n + 1)) := by omega
        rcases hg : c.slots[m]? with _ | x
        · simp only [List.getElem?_map, List.getElem?_zipIdx, hg, Option.map_none]
        · simp only [List.getElem?_map, List.getElem?_zipIdx, hg, Option.map_some, Nat.zero_add, this]
    · simp only [number, List.range_succ, List.filter_append, List.length_append, List.filter_cons, List.filter_nil, insertsKind]
      split <;> simp [Nat.add_assoc]

/-- R156: the preheat lead with an OUTSIDE temperature. -/
theorem preheatLead_some (t : Int) :
    preheatLead (some t) = min 5400 (max 600 (600 + 60 * (10 - t.tdiv 10).toNat)) := by
  simp only [preheatLead, clampNat, divT]
  generalize 600 + 60 * (10 - t.tdiv 10).toNat = x
  split
  · omega
  · split <;> omega

/-- The six kinds by their number. -/
theorem foldl_kinds (f : Nat → Action → Nat → Sch → Sch) (a b d e g h : Nat) (c : Sch) :
    ((derivedActions.zip [a, b, d, e, g, h]).zipIdx).foldl (fun c p => f p.2 p.1.1 p.1.2 c) c =
      (List.range 6).foldl (fun c i => f i (derivedActions.getD i .userAlarm) ([a, b, d, e, g, h].getD i 0) c) c := rfl

/-- R155 to R157: a derivation. -/
theorem deriveKinds_eq (start wake delay : Nat) (c : Sch) :
    deriveKinds start wake delay (preheatLead c.outside) c = restDerived start wake delay c := by
  rw [deriveKinds, derivedDues, foldl_kinds fun i action due => deriveKind i action due (suppressed start wake delay i)]
  rw [foldl_deriveKind (fun i => derivedActions.getD i .userAlarm) _ (suppressed start wake delay) c 6]
  have hs : ∀ i, suppressed start wake delay i = !(decide (2 ≤ i) || decide (start + delay < wake - 1200)) := by
    intro i
    simp only [suppressed, Bool.not_or, ← decide_not, Nat.not_le, Nat.not_lt]
  have hn : ∀ i, (decide (i < 2) && !decide (start + delay < wake - 1200)) =
      !(decide (2 ≤ i) || decide (start + delay < wake - 1200)) := by
    intro i
    simp only [Bool.not_or, ← decide_not, Nat.not_le]
  have lead : preheatLead none = 3600 := rfl
  rcases ho : c.outside with _ | t <;>
    simp only [restDerived, kindDerived, insertsKind, hs, hn, Bool.not_not, Bool.and_assoc, derivedActions, ho, lead,
      preheatLead_some, Nat.reduceAdd]

end Sys2Proof.Machine.Laws
end

