-- ==== Sys2Proof/Tests/Slice0.lean ====
section
/-! SUPPORT. Tests: the checks of well-formedness, the worked examples of the spec's figures, and for each statement a state and
operands that meet its hypotheses, clause by clause. -/

namespace Sys2Proof.Machine.Tests

-- Elaborated one after another: many small proofs at once take one thread each.
set_option Elab.async false

open Sys2Proof Sys2Proof.Machine

/-! ### Small states -/

/-- The next state of a command. -/
def after (c : Instr) (s : State) : State :=
  match exec c s with
  | .next t => t
  | _ => s

def s0 : State := State.reset

def onChg (f : Chg → Chg) : State := { s0 with chg := f s0.chg }
def onDmd (f : Dmd → Dmd) : State := { s0 with dmd := f s0.dmd }
def onHtr (f : Htr → Htr) : State := { s0 with htr := f s0.htr }
def onClr (f : Clr → Clr) : State := { s0 with clr := f s0.clr }
def onLgt (f : Lgt → Lgt) : State := { s0 with lgt := f s0.lgt }
def onRcl (f : Rcl → Rcl) : State := { s0 with rcl := f s0.rcl }
def onSch (f : Sch → Sch) : State := { s0 with sch := f s0.sch }
def onAlr (f : Alr → Alr) : State := { s0 with alr := f s0.alr }
def onRpq (f : Rpq → Rpq) : State := { s0 with rpq := f s0.rpq }
def onLnk (f : Lnk → Lnk) : State := { s0 with lnk := f s0.lnk }
def onSto (f : Sto → Sto) : State := { s0 with sto := f s0.sto }

/-- A measurement's inputs with V, I and six readings that are in range. -/
def inputs (v : Nat) (i : Int) : Samples := ⟨v, i, some 180, some 50, some 40, some 100, some 100, some (-250)⟩

/-- An alert record in a state. -/
def record (st : AlertState) : AlertRecord := ⟨st, st != .inactive, 0, none⟩

/-- ALR with the record of a kind in a state. -/
def alerting (kind : Nat) (r : AlertRecord) : State := onAlr fun a => { a with records := a.records.set kind r }

/-- A queue entry. -/
def queued (cause level : Nat) : QEntry := ⟨cause, level, 1, 0, 0, [], false, 0, 0⟩

/-! ### Well-formedness: each check refuses an ill-formed term -/

theorem test_wf_inputs : (Instr.sensorValid 6).wf = false ∧ (Instr.sensorValid 5).wf = true := by decide

theorem test_wf_alert_kinds :
    (Instr.soundingTimeExpiry 4).wf = false ∧ (Instr.soundingTimeExpiry 8).wf = false ∧ (Instr.reSoundExpiry 3).wf = false := by
  decide

theorem test_wf_unnamed_codes :
    (Instr.unknownRequest 0 0x0E).wf = false ∧ (Instr.unknownRequest 0 0x40).wf = false ∧
      (Instr.unknownRequest 0 0x0F).wf = true := by decide

theorem test_wf_numbers :
    (Instr.sceneRecall 0 256).wf = false ∧ (Instr.activity 0 256).wf = false ∧ (Instr.restPlan 0 4294967296).wf = false ∧
      (Instr.alertAck 0 256).wf = false ∧ (Instr.alertAckSettings 0 256).wf = false ∧ (Instr.reportGate 0 256 0).wf = false ∧
      (Instr.clockSet 0 4294967296).wf = false ∧ (Instr.schedRemove 0 256).wf = false ∧ (Instr.schedList 0 256).wf = false ∧
      (Instr.logWindow 0 1 4294967296).wf = false ∧ (Instr.groupSetGroup 0 256 0).wf = false ∧
      (Instr.causeLevel 0 1 256).wf = false ∧ (Instr.causeLevelSettings 0 256 1).wf = false ∧
      (Instr.captureRead 0 256 0).wf = false ∧ (Instr.captureFree 0 256).wf = false ∧ (Instr.demandRelease 0 256).wf = false ∧
      (Instr.linkStats 0 256).wf = false ∧ (Instr.chargeSet 0 4294967296).wf = false ∧
      (Instr.sensorTrim 0 0 32768).wf = false := by decide

theorem test_wf_lists :
    (Instr.heatTableWrite 0 []).wf = false ∧ (Instr.ocvSet 0 [1, 2, 3, 4, 5]).wf = false ∧
      (Instr.groupSetChannel 0 [] 0).wf = false ∧ (Instr.sceneStore 0 0 (List.replicate 11 ⟨0, 0, 0⟩)).wf = false ∧
      (Instr.captureArm 0 ⟨0, 1, List.replicate 52 0, 1, 0⟩).wf = false ∧
      (Instr.demandDeclare 0 ⟨4, 1, List.replicate 26 1, 1, 0⟩).wf = false := by decide

theorem test_wf_records :
    (Instr.heatSet 0 ⟨32768, 0, 0, 0, 0, 0, 0, 0, 0, 0, 0⟩).wf = false ∧
      (Instr.coolSet 0 ⟨0, 0, 0, 0, 0, 0, 0, [1, 2]⟩).wf = false ∧ (Instr.lightSet 0 ⟨0, 0, 65536, 0, 0⟩).wf = false ∧
      (Instr.schedAdd 0 ⟨0, 256, none, none⟩).wf = false ∧ (Instr.batterySet 0 ⟨4294967296, 0, 0, 0, 0, 0, 0, 0⟩).wf = false ∧
      (Instr.clockSetSettings 0 ⟨4294967296, 0, 0, 0, 0, 0, 0, 0, 0⟩).wf = false := by decide

/-! ### The spec's worked examples -/

/-- R201: a POWER_ON with no valid area and every switch low comes to the state after reset. -/
theorem test_power_on :
    (after (.powerOn lowPins) s0).chg = s0.chg ∧ (after (.powerOn lowPins) s0).dmd = s0.dmd ∧
      (after (.powerOn lowPins) s0).htr = s0.htr ∧ (after (.powerOn lowPins) s0).clr = s0.clr ∧
      (after (.powerOn lowPins) s0).rcl = s0.rcl ∧ (after (.powerOn lowPins) s0).alr = s0.alr ∧
      (after (.powerOn lowPins) s0).rpq = s0.rpq ∧ (after (.powerOn lowPins) s0).lnk = s0.lnk ∧
      (after (.powerOn lowPins) s0).sto.writing = s0.sto.writing := by
  refine ⟨?_, ?_, ?_, ?_, ?_, ?_, ?_, ?_, ?_⟩ <;> decide +kernel

/-- Figure 35, case b: a State area lost in mid-write (here with no Settings area either) brings the heater up in LOCKOUT with F9
and Q at half of C_nom. -/
theorem test_figure_35 :
    let t := after (.brownOut lowPins) (onHtr fun h => { h with seq := .run, keep := ⟨true, 3, 0, some .f4⟩ })
    t.htr.seq = .lockout ∧ t.htr.keep = ⟨true, 0, 0, some .f9⟩ ∧ t.chg.q = 112500 ∧
      t.rpq.queue.map QEntry.cause = [26, 27, 28] ∧ t.sto.writing = some ⟨⟨true, 0, 0, some .f9⟩, 112500⟩ := by decide +kernel

/-- Figure 2, measurement 1: Q falls by three and the residue is -70. -/
theorem test_figure_2 :
    let t := after (.measurement (inputs 25000 (-1250))) (onChg fun c => { c with q := 152000, r := 100 })
    (t.chg.q, t.chg.r) = (151997, -70) := by decide +kernel

/-- Figure 2, measurement 2: a charging second counts at the efficiency. -/
theorem test_figure_2_charge :
    let t := after (.measurement (inputs 25000 800)) (onChg fun c => { c with q := 151997, r := -70 })
    (t.chg.q, t.chg.r) = (151998, 330) := by decide +kernel

/-- Figure 4: the correction moves Q by a quarter of the gap in case a, and not at all in case b. -/
theorem test_figure_4 :
    (after .restVoltageCorrection (onChg fun c => { c with q := 150000, v := some 24650, restTime := 1800 })).chg.q = 140625 ∧
      (after .restVoltageCorrection (onChg fun c => { c with q := 69078, v := some 24123, restTime := 1800 })).chg.q = 69078 := by
  decide +kernel

/-- Figure 5, case a: A at -25.0 °C is 21,200 mAh. -/
theorem test_figure_5 :
    let s := onChg fun c => { c with q := 152000, synced := true, temps := List.replicate 6 ⟨.valid, 3, some (-250), none⟩ }
    (after (.measurement (inputs 25000 0)) s).chg.figures = some ⟨91200, 600, 3, 70000, 0, 21200⟩ := by decide +kernel

/-- The entries of Figure 8. -/
def nightEntries : List (Option Entry) :=
  [some ⟨.lgt, 0, [1], 0, 1000, none, some 0⟩, some ⟨.htr, 1, [90, 140, 200, 280], 3, 1000, none, some 3⟩,
   some ⟨.clr, 2, [150, 220, 300], 2, 400, none, some 2⟩, some ⟨.lgt, 3, [18, 36, 60], 3, 1000, none, some 3⟩,
   none, none, none, none]

/-- Figure 9: the pass grants the heater 3, the cooler 1 and the lights 0, with S at 20,800. -/
theorem test_figure_9 :
    let d := (after .budgetTimerExpiry
      (onDmd fun d => { d with entries := nightEntries, a := some 21200, timer := some 0, wake := some 28800 })).dmd
    (d.entries.take 4).map (fun e => e.bind Entry.granted) = [some 0, some 3, some 1, some 0] ∧ d.budget = .trimmed ∧
      d.lastPass.map (fun r => (r.b, r.br, r.sum, r.firstTrimmed)) = some (21200, 20140, 20800, some 2) := by decide +kernel

/-- Figure 9 as BUDGET_READ shows it: four counted items of requested level, granted level and Need (R41, R191), the Needs 0,
16,000, 4,800 and 0. -/
theorem test_figure_9_per_entry_bytes :
    let d := (after .budgetTimerExpiry
      (onDmd fun d => { d with entries := nightEntries, a := some 21200, timer := some 0, wake := some 28800 })).dmd
    d.lastPass.map (fun r => ((passBytes r).drop 34).map BitVec.toNat) =
      some [4, 0, 0, 0, 0, 0, 0, 3, 3, 0, 0, 0x3E, 0x80, 2, 1, 0, 0, 0x12, 0xC0, 3, 0, 0, 0, 0, 0, 1] := by decide +kernel

/-- HTR in RUN as in Figure 14. -/
def running (level sc : Nat) (bias : Bias) (cold warm : Nat) : State :=
  onHtr fun h => { h with
    seq := .run, level := level, sc := sc, bias := bias, samples := 10, cold := cold, warm := warm, grant := some 4
    keep := ⟨false, 0, 0, none⟩ }

/-- Figure 14: a step up in period 2, a flip in period 4, a step down in period 6. -/
theorem test_figure_14 :
    let f (t : State) := (t.htr.sc, t.htr.bias, t.htr.level)
    f (after .controlPeriodEnd (running 2 10 .raise 8 1)) = (4, .raise, 3) ∧
      f (after .controlPeriodEnd (running 3 1 .raise 0 5)) = (4, .lower, 3) ∧
      f (after .controlPeriodEnd (running 3 14 .lower 2 4)) = (4, .lower, 2) := by decide +kernel

/-- Figure 20: the duty at the fifteenth expiry is 466. -/
theorem test_figure_20 :
    (after .minuteTimerExpiry (onClr fun c => { c with ring := List.replicate 14 28, secondsOn := 28, minute := 0 })).clr.duty
      = 466 := by decide +kernel

/-- Figure 22: the first fade steps of LIGHT_SET with target 600 and fade 20. -/
theorem test_figure_22 :
    let t := after (.lightSet 1 ⟨0, 0, 600, 20, 0⟩) s0
    let u := after .fadeStep t
    ((t.lgt.channel 0).fine, (t.lgt.channel 0).steps, (u.lgt.channel 0).fine, (u.lgt.channel 0).steps) =
      (0, 100, 6000, 99) := by decide +kernel

/-- R103: a fade of 100 steps at its target already ends at its first step. -/
theorem test_fade_at_its_target :
    let u := after .fadeStep (after (.lightSet 1 ⟨0, 0, 0, 20, 0⟩) s0)
    ((u.lgt.channel 0).fine, (u.lgt.channel 0).steps) = (0, 0) := by decide +kernel

/-- Figure 23: the demand of READ_L at 700, BUNK_AMBIENT at 400 and ACCENT at 1000. -/
theorem test_figure_23 :
    let l := { s0.lgt with channels := s0.lgt.channels.zipIdx.map fun p =>
      { p.1 with target := if p.2 = 0 then 700 else if p.2 = 2 then 400 else if p.2 = 7 then 1000 else 0 } }
    cabDemand l = ⟨3, [17, 34, 58], 1000, none, none⟩ := by decide +kernel

/-- Figure 27: a read past the log's end returns three items that are not yet written and wraps the cursor. -/
theorem test_figure_27 :
    let t := after (.logRead 1) (onRcl fun r => { r with nextSerial := 110, window := some ⟨106, 112, 110⟩ })
    t.rcl.window = some ⟨106, 112, 106⟩ ∧ t.lnk.slots.map (fun r => r.body.take 6) = [[3, 0, 0, 0, 110, 255]] := by
  decide +kernel

/-- Figure 28: CLOCK_SET fires both entries late, and the repeating one is due next at 359,200. -/
theorem test_figure_28 :
    let alarm : SchedEntry := ⟨100000, .userAlarm, none, some 86400, 0, false⟩
    let stop : SchedEntry := ⟨150000, .heatStop, none, none, 1, false⟩
    let s := onSch fun c => { c with slots := (c.slots.set 0 (some alarm)).set 1 (some stop) }
    let t := after (.clockSet 1 280000) { s with rcl := { s.rcl with cabTime := 99000 } }
    (tableOrder t.sch).map (fun x => (x.1, x.2.due)) = [(0, 359200)] ∧
      t.rpq.queue.any (fun e => e.cause == 18 && e.count == 2) = true := by decide +kernel

/-- Figure 29: the derivation of a planned night, PRECHILL_BEGIN firing at once. -/
theorem test_figure_29 :
    let s := onSch fun c => { c with
      slots := c.slots.set 0 (some ⟨71000, .scene, some 0, none, 2, false⟩), counter := 3, rest := some (70600, 110000)
      outside := some (-184), refresh := some 0 }
    let t := after .refreshTimerExpiry { s with rcl := { s.rcl with cabTime := 70600 } }
    (tableOrder t.sch).map (fun x => (x.1, x.2.due, x.2.insertion)) =
      [(0, 71000, 2), (10, 71500, 3), (12, 107720, 5), (13, 108800, 6), (14, 108800, 7), (15, 110000, 8)] := by
  decide +kernel

/-- Figure 32: a second post of a cause folds into its entry, and BUDGET_TRIMMED goes first and asserts ATTN. -/
theorem test_figure_32 :
    let s := onRpq fun q => { q with queue := [queued 12 4, queued 18 5], attn := false }
    let t := (deliver (post 8 []) s).1
    t.rpq.queue.map QEntry.cause = [8, 12, 18] ∧ t.rpq.attn = true ∧
      (deliver (post 18 []) s).1.rpq.queue.map QEntry.count = [1, 2] := by decide +kernel

/-- Figure 32, the full queue: LIGHT_STACK_DROP at the level of the last entry is dropped, SENSOR_FAULT displaces it. -/
theorem test_figure_32_full :
    let full := onRpq fun q => { q with
      queue := (List.range 15).map (fun i => queued (i + 1) (if i < 3 then 1 else 3)) ++ [queued 25 6] }
    let t := (deliver (post 29 []) full).1.rpq
    let u := (deliver (post 20 []) full).1.rpq
    (t.queue.length, t.lost, t.queue.getLast?.map QEntry.cause) = (16, 1, some 25) ∧
      (u.queue.length, u.lost, u.queue.getLast?.map QEntry.cause) = (16, 1, some 15) := by decide +kernel

/-- Figure 33: descriptor 1 is refused a region that shares position 2, and the third record makes descriptor 0 DONE. -/
theorem test_figure_33 :
    let t := after (.captureArm 1 ⟨0, 7, [0, 1, 8, 10], 3, 0⟩) s0
    let u := after (.captureArm 2 ⟨1, 7, [0], 4, 2⟩) { t with lnk := { t.lnk with slots := [] } }
    let d := { t with rpq := { t.rpq with descs := t.rpq.descs.set 0 ⟨.armed, 7, [0, 1, 8, 10], 3, 0, 2⟩ } }
    t.lnk.slots.map Reply.status = [0] ∧ u.lnk.slots.map Reply.status = [3] ∧
      (deliver (post 7 []) d).1.rpq.descs.map Desc.state = [.done, .free, .free, .free] := by decide +kernel

/-- Figure 34: with both slots full READINGS is an overrun, and after the report the first reply is sent. -/
theorem test_figure_34 :
    let r : Reply := ⟨0x81#8, 1, 0, []⟩
    let s := onLnk fun l => { l with slots := [r, { r with tag := 2 }], tx := .report }
    (after (.readings 3) s).lnk.overruns = 1 ∧ (after (.readings 3) s).lnk.slots.length = 2 ∧
      (after .frameSent s).lnk.tx = .reply 0 := by decide +kernel

/-- The check bytes of the digits 1 to 9 under R187's CRC and R197's (the usual check input for a CRC). -/
theorem test_crc :
    crc8 [0x31, 0x32, 0x33, 0x34, 0x35, 0x36, 0x37, 0x38, 0x39] = 0x20#8 ∧
      crc16 [0x31, 0x32, 0x33, 0x34, 0x35, 0x36, 0x37, 0x38, 0x39] = 0x29B1#16 := by decide +kernel

/-- R187, R188: the six bytes of a STATUS request with TAG 1 leave its reply in a slot. -/
theorem test_status_frame :
    let t := (frameOf 0x01#8 0x01#8 []).foldl (fun s b => after (.receiveByte b) s) s0
    t.lnk.slots.map (fun r => (r.kind, r.tag, r.status, r.body.length)) = [(0x81#8, 0x01#8, 0, 28)] := by decide +kernel

/-! ### Statements about the queue, requests and resets: their hypotheses are met -/

theorem witness_StepRunsTheFrontCommand :
    ({ s0 with pending := [.fullSync] } : State).pending = [.fullSync] ∧ s0.pending = [] := by decide

theorem witness_EveryRequestIsAnsweredOnce :
    requestOf (.status 1) = some (1, .status) ∧ HasSlot s0 ∧ (0x30 ≤ Request.status.code → s0.lnk.service = true) ∧
      requestOf (.restart 1) = some (1, .restart) ∧ (onLnk fun l => { l with service := true }).lnk.service = true := by
  refine ⟨rfl, by decide, by decide, rfl, rfl⟩

/-- DENIED at both ends of the tier; an overrun with both slots full; the unnamed codes at the ends of their ranges. -/
theorem witness_RequestsAreTurnedAway :
    (requestOf (.heatClearLockout 1) = some (1, .clearLockout) ∧ 0x30 ≤ Request.clearLockout.code ∧
      requestOf (.restart 1) = some (1, .restart) ∧ 0x30 ≤ Request.restart.code ∧ HasSlot s0 ∧ s0.lnk.service = false) ∧
    (2 ≤ (onLnk fun l => { l with slots := [⟨0, 0, 0, []⟩, ⟨0, 0, 0, []⟩] }).lnk.slots.length ∧
      catalogued (0x0F#8).toNat = false ∧ catalogued (0x3F#8).toNat = false) ∧
    [0x0F#8, 0x22#8, 0x2F#8, 0x37#8, 0x3F#8].all (fun c => unnamedCode c.toNat) = true ∧
    [0x00#8, 0x01#8, 0x0E#8, 0x10#8, 0x21#8, 0x30#8, 0x36#8, 0x40#8].all (fun c => !unnamedCode c.toNat) = true := by
  refine ⟨⟨rfl, by decide, rfl, by decide, by decide, by decide⟩, ⟨by decide, by decide, by decide⟩, by decide, by decide⟩

theorem witness_PayloadsSpellTheirRequests :
    requestOf (.sensorTrim 1 5 (-100)) = some (1, .sensorTrim 5 (-100)) ∧ (Instr.sensorTrim 1 5 (-100)).wf = true ∧
      (Instr.sceneStore 1 0 (List.replicate 10 ⟨7, 65535, 65535⟩)).wf = true ∧
      (Instr.schedAdd 1 ⟨4294967295, 10, some (-32768), some 604800⟩).wf = true ∧
      parseRequest 0x34 [5#8, 0xFF#8, 0x9C#8] = some (.sensorTrim 5 (-100)) ∧ parseRequest 0x34 [5#8, 0xFF#8] = none := by
  refine ⟨rfl, by decide, by decide, by decide, by decide, by decide⟩

/-- A RESTART whose reset is due, with a State write of a later event in progress. -/
def restarting : State := onSto fun t => { t with restarting := .done }

theorem witness_ResetLeavesTheBlocks : restartDue restarting = true := by decide +kernel

theorem witness_ResetPostsAndStore :
    restartDue restarting = true ∧ readSettings s0.sto.settingsArea = none ∧ readSaved s0.sto.stateArea = none :=
  ⟨by decide +kernel, rfl, rfl⟩

theorem add_one_ne (x : Word16) : x + 1#16 ≠ x := by
  intro h
  have := congrArg BitVec.toNat h
  simp at this
  omega

/-- An area of any fields with its CRC, and one with another CRC. -/
theorem witness_AreasAndRestart_areas (f : Settings) (k : Saved) :
    (∃ a : Area Settings, a.fields = f ∧ a.crc = crc16 (settingsBytes a.fields)) ∧
    (∃ a : Area Settings, a.fields = f ∧ a.crc ≠ crc16 (settingsBytes a.fields)) ∧
    (∃ a : Area Saved, a.fields = k ∧ a.crc = crc16 (savedBytes a.fields)) ∧
    (∃ a : Area Saved, a.fields = k ∧ a.crc ≠ crc16 (savedBytes a.fields)) := by
  generalize hb : settingsBytes = enc
  generalize hk : savedBytes = enk
  exact ⟨⟨⟨f, crc16 (enc f)⟩, rfl, rfl⟩, ⟨⟨f, crc16 (enc f) + 1#16⟩, rfl, add_one_ne _⟩, ⟨⟨k, crc16 (enk k)⟩, rfl, rfl⟩,
    ⟨⟨k, crc16 (enk k) + 1#16⟩, rfl, add_one_ne _⟩⟩

theorem witness_AreasAndRestart :
    s0.sto.settingsArea = none ∧ s0.sto.stateArea = none ∧ s0.sto.restarting = .none ∧ restarting.sto.writing ≠ none ∧
      restarting.sto.restarting = .done ∧ restarting.sto.saving = none ∧ restarting.lnk.slots ++ restarting.lnk.answer.toList = [] ∧
      (let q : Reply := ⟨0xB6#8, 1, 0, []⟩;
        q.kind = 0xB6#8 ∧ q.status = 0) := by
  refine ⟨rfl, rfl, rfl, by decide, rfl, rfl, rfl, rfl, rfl⟩

/-! ### Statements about CHG and DMD -/

theorem witness_MeasurementCountsCharge :
    (defaultOcv.getD 0 0 < defaultOcv.getD 1 0 ∧ defaultOcv.getD 1 0 < defaultOcv.getD 2 0 ∧
      defaultOcv.getD 2 0 < defaultOcv.getD 3 0 ∧ defaultOcv.getD 3 0 < defaultOcv.getD 4 0 ∧
      defaultOcv.getD 4 0 < defaultOcv.getD 5 0) := by decide

/-- An input at the limits of its range, one above it, and a conversion that failed. -/
theorem witness_MeasurementUpdatesTheInputs :
    s0.chg.temps.length = 6 ∧ s0.chg.trims.length = 6 ∧ s0.chg.temps[5]? = some ⟨.starting, 0, none, none⟩ ∧
      s0.chg.trims[5]? = some 0 ∧ (-550 : Int) ≤ -550 + 0 ∧ (4000 : Int) + 0 ≤ 4000 ∧ (4000 : Int) < 4001 + 0 ∧
      ({ inputs 0 0 with cabin := none } : Samples).cabin = none := by decide

theorem witness_MeasurementMovesTheFloor :
    s0.chg.floor = .clear ∧ (onChg fun c => { c with floor := .critical }).chg.floor = .critical ∧
      (onChg fun c => { c with floor := .cutoff }).chg.floor = .cutoff ∧ s0.chg.temps.length = 6 ∧ s0.chg.trims.length = 6 := by
  decide

/-- R2, R6, R17, R25: the third in-range sample of a FAULTED input and the tenth low V in one measurement: SENSOR_RESTORED, the
four results and the floor state are handed on in their order, and the interval is the period of the part mode. -/
theorem test_measurement_hands_on :
    let s := onChg fun c => { c with mode := .hibernate, low := 9, temps := c.temps.set 5 ⟨.faulted, 2, none, some 1⟩ }
    let d := deliver (.chg (.measure (inputs 23000 (-100)))) s
    (d.2.map fun m => match m with
      | .rpq _ => 0 | .htr _ => 1 | .clr _ => 2 | .sch _ => 3 | .dmd _ => 4 | .alr _ => 5 | _ => 6) = [0, 1, 2, 3, 4, 4, 0, 5] ∧
      d.1.chg.interval = 60 ∧ d.1.chg.floor = .critical := by decide +kernel

theorem witness_ChargeMarksActOnTheirCondition :
    (onChg fun c => { c with temps := c.temps.set 0 ⟨.faulted, 3, none, some 5⟩ }).chg.temps[0]? =
        some ⟨.faulted, 3, none, some 5⟩ ∧
      s0.chg.temps[6]? = none ∧ 60 ≤ (onChg fun c => { c with syncCount := 60 }).chg.syncCount ∧ s0.chg.syncDone = false ∧
      s0.chg.syncCount < 60 ∧ (onChg fun c => { c with v := some 25000, restTime := 1800 }).chg.v = some 25000 ∧
      s0.chg.v = none := by decide

theorem witness_FloorCountsMoveTheFloor :
    (let c := (onChg fun c => { c with low := 10 }).chg;
      c.floor = .clear ∧ 10 ≤ c.low ∧ c.hard < 10) ∧
    (let c := (onChg fun c => { c with hard := 10 }).chg;
      c.floor ≠ .cutoff ∧ 10 ≤ c.hard) ∧
    (let c := (onChg fun c => { c with floor := .critical, clearCnt := 60 }).chg;
      c.floor = .critical ∧ 60 ≤ c.clearCnt ∧ c.hard < 10) ∧
    (let c := (onChg fun c => { c with floor := .cutoff, charge := 30 }).chg;
      c.floor = .cutoff ∧ 30 ≤ c.charge) := by decide

theorem witness_DozeIgnitionAndServiceChanges :
    (let s := onChg fun c => { c with doze := some 0 };
      s.chg.mode = .active ∧ s.chg.doze = some 0 ∧ ¬(s.chg.floor = .cutoff)) ∧
    (let s := onChg fun c => { c with doze := some 0, floor := .cutoff };
      s.chg.doze = some 0 ∧ s.chg.floor = .cutoff ∧ s.htr.seq = .lockout ∧ s.lnk.service = false) ∧
    s0.chg.doze ≠ some 0 ∧ s0.chg.ign = false ∧ true ≠ s0.chg.ign ∧ s0.chg.floor ≠ .cutoff ∧
    (onChg fun c => { c with floor := .cutoff }).chg.floor = .cutoff ∧ true ≠ s0.lnk.service ∧ false = s0.lnk.service := by decide

/-- The reset state with nothing queued: the conditions of DOZE hold. -/
def dozing (mode : PartMode) (floor : Floor) : State :=
  { onRpq (fun q => { q with queue := [] }) with chg := { s0.chg with mode := mode, floor := floor } }

theorem witness_PartModeIsReviewed :
    (let s := dozing .hibernate .critical;
      s.chg.mode = .hibernate ∧ s.chg.floor ≠ .cutoff ∧ DozeHolds s.chg s) ∧
    (let s := dozing .hibernate .cutoff;
      s.chg.mode = .hibernate ∧ s.chg.floor = .cutoff ∧ s.lnk.service = false) ∧
    (let s := dozing .doze .cutoff;
      s.chg.mode ≠ .hibernate ∧ HibernateHolds s.chg s) ∧
    (let s := dozing .doze .clear;
      s.chg.mode = .doze ∧ ¬HibernateHolds s.chg s ∧ DozeHolds s.chg s) ∧
    (let s := { dozing .doze .clear with clr := { s0.clr with state := .running } };
      s.chg.mode = .doze ∧ ¬HibernateHolds s.chg s ∧ ¬DozeHolds s.chg s) ∧
    (let s := dozing .active .clear;
      s.chg.mode = .active ∧ ¬HibernateHolds s.chg s) := by decide

/-- R19, R20: the timer starts at 30 s, a call of the cooler ends DOZE, and CUTOFF with IGN on is left at once, in ACTIVE. -/
theorem test_part_mode :
    (deliver (.chg .review) (dozing .active .clear)).1.chg.doze = some 30 ∧
      (deliver (.chg .wake) (dozing .doze .clear)).1.chg.mode = .active ∧
      (let t := after (.ignChange true) (dozing .doze .cutoff);
        t.chg.mode = .active ∧ t.chg.floor = .critical) := by decide +kernel

theorem witness_BudgetTimerRunsAPass :
    (let d := (onDmd fun d => { d with timer := some 0, a := some 21200, floor := .cutoff }).dmd;
      d.timer = some 0 ∧ d.a = some 21200 ∧ d.floor = .cutoff) ∧
    (let d := (onDmd fun d => { d with timer := some 0, a := some 0, floor := .critical, ign := true }).dmd;
      d.floor ≠ .cutoff ∧ d.floor = .critical ∧ d.ign = true) ∧
    s0.dmd.floor = .clear ∧ s0.dmd.entries[4]? = some none ∧
    (∃ e, s0.dmd.entries[0]? = some (some e) ∧ e.cls ≤ 3 ∧ e.cls = 0) ∧
    ∃ e, s0.dmd.entries[1]? = some (some e) ∧ e.cls ≤ 3 ∧ e.cls ≠ 0 := by
  refine ⟨by decide, by decide, by decide, by decide, ⟨_, rfl, by decide, by decide⟩, ⟨_, rfl, by decide, by decide⟩⟩

/-- An update that changes a field and one that does not, before and after the first A, and an empty position. -/
theorem witness_DemandUpdateRunsAPass :
    (∃ e, s0.dmd.entries[1]? = some (some e) ∧
      { e with requested := e.requested + 1 } ≠ e ∧ { e with requested := e.requested } = e) ∧
    s0.dmd.a = none ∧ (onDmd fun d => { d with a := some 0 }).dmd.a = some 0 ∧ (s0.dmd.entries[4]?).join = none ∧
    (s0.dmd.entries[8]?).join = none := by
  refine ⟨⟨_, rfl, by decide, rfl⟩, rfl, rfl, by decide, by decide⟩

/-- A pass with a walk, in CLEAR with IGN off, that ends in TRIMMED. -/
theorem witness_WalkGrantsTheHighestLevelThatFits :
    (95 : Nat) ≤ 100 ∧
      (let d := { s0.dmd with entries := nightEntries, a := some 21200, wake := some 28800 };
        d.floor = .clear ∧ d.ign = false ∧ (budgetPass .timer d s0).1.budget = .trimmed) := by decide +kernel

/-- A declaration in range with a slot, one that equals its entry, one out of range, and a full table; a release of each kind. -/
theorem witness_HostEntriesAreDeclaredAndReleased :
    declareInRange ⟨255, 3, [1, 3000], 2, 1000⟩ = true ∧ declareInRange ⟨3, 1, [1], 1, 0⟩ = false ∧
      declareInRange ⟨4, 1, [1], 2, 0⟩ = false ∧ HasSlot s0 ∧ emptySlot s0.dmd = some 4 ∧
      emptySlot { s0.dmd with entries := List.replicate 8 (some ⟨.host, 1, [1], 1, 0, none, none⟩) } = none ∧
      4 < s0.dmd.entries.length ∧ (s0.dmd.entries[4]?).join = none ∧ s0.dmd.a = none ∧
      (onDmd fun d => { d with a := some 5, entries := d.entries.set 7 (some ⟨.host, 1, [1], 1, 0, none, none⟩) }).dmd.a = some 5 ∧
      (((onDmd fun d => { d with entries := d.entries.set 7 (some ⟨.host, 1, [1], 1, 0, none, none⟩) }).dmd.entries[7]?).join)
        = some ⟨.host, 1, [1], 1, 0, none, none⟩ := by decide

theorem witness_ServiceSettingsOfTheCharge :
    HasSlot s0 ∧ (onLnk fun l => { l with service := true }).lnk.service = true ∧
      batteryInRange ⟨20000, 800, 24000, 0, 0, 0, 21000, 20800⟩ = true ∧
      batteryInRange ⟨400000, 1000, 30000, 2000, 200000, 50000, 26000, 25800⟩ = true ∧
      batteryInRange ⟨400000, 1000, 30000, 2000, 200000, 50000, 26000, 25801⟩ = false ∧
      (20000 : Nat) ≠ s0.chg.battery.cNom ∧ (225000 : Nat) = s0.chg.battery.cNom ∧ s0.chg.battery.cNom < 225001 ∧
      ocvInRange [1, 2, 3, 4, 5, 32767] = true ∧ ocvInRange [1, 2, 3, 4, 5, 32768] = false ∧
      ocvInRange [1, 2, 3, 4, 4, 5] = false := by decide

/-! ### Statements about HTR -/

/-- HTR in a state, with its timer, its grant and its items. -/
def heating (seq : HeaterState) (timer : Option Nat) (grant : Nat) : State :=
  onHtr fun h => { h with seq := seq, timer := timer, grant := some grant, startUpDue := false, keep := ⟨false, 0, 0, none⟩ }

theorem witness_HeaterStartTimersAdvanceTheStart :
    (let h := (heating .precheck (some 0) 0).htr;
      h.timer = some 0 ∧ h.seq = .precheck ∧ h.grant.getD 0 = 0) ∧
    (let h := (heating .preheat (some 0) 1).htr;
      h.timer = some 0 ∧ h.seq = .preheat ∧ h.grant.getD 0 ≠ 0) ∧
    (heating .ignite (some 0) 1).htr.seq = .ignite ∧ (heating .ramp (some 0) 1).htr.seq = .ramp ∧
    (heating .ramp (some 1) 1).htr.timer ≠ some 0 ∧ (heating .run none 1).htr.seq ≠ .precheck := by decide

/-- The readings of a measurement of 1 s with OVERHEAT and V in order. -/
def reading (flame cabin : Option Int) : HeaterReadings := ⟨1, flame, some 500, cabin, 25000, false, false, flame⟩

/-- Every check of R57 at its limit, a FLAME 40.0 K above the reference and one just below it. -/
theorem witness_StartMeasurementsTestTheStart :
    (let h := (heaterReads (reading (some 599) (some 200)) (heating .precheck none 1).htr).1;
      h.seq = .precheck ∧ startFault h = none) ∧
    startFault (heaterReads (reading (some 600) none) (heating .precheck none 1).htr).1 = some .f1 ∧
    (let h := (heaterReads (reading none none) (heating .preheat none 1).htr).1;
      h.seq = .preheat ∧ h.flame = none) ∧
    (let h := (heaterReads { reading (some 5) none with overheat := none } (heating .preheat none 1).htr).1;
      h.flame ≠ none ∧ h.overheat = none) ∧
    (let h := (heaterReads (reading (some 5) none) (heating .preheat none 1).htr).1;
      h.flame ≠ none ∧ h.overheat ≠ none) ∧
    (let h := (heaterReads (reading (some 500) none) { (heating .ignite none 1).htr with reference := some 100 }).1;
      h.seq = .ignite ∧ h.reference = some 100 ∧ (100 : Int) + 400 ≤ 500 ∧ (499 : Int) < 100 + 400) ∧
    (heaterReads (reading (some 500) none) (heating .ignite none 1).htr).1.reference = none := by decide

/-- A reading that burns well at the limits of OVERHEAT and V. -/
theorem burns_well (seq : HeaterState) :
    BurnsWell s0.chg.battery.vHard 500
      (heaterReads { reading (some 500) none with overheat := some 1200, volts := 22800 } (heating seq none 1).htr).1 :=
  ⟨rfl, ⟨1200, rfl, by decide⟩, ⟨22800, rfl, by decide⟩⟩

theorem witness_RunMeasurementsDriveTheLevel :
    (heating .ramp none 1).htr.startUpDue = false ∧ (heating .ramp none 1).htr.seq = .ramp ∧
      (heating .run none 1).htr.seq = .run ∧ (500 : Int) < (heating .run none 1).htr.profile.flamePresent ∧
      15 ≤ ({ (heating .run none 1).htr with flameLow := 14 } : Htr).flameLow + 1 ∧ (heating .run none 1).htr.flameLow + 1 < 15 ∧
      300 ≤ ({ (heating .run none 1).htr with idle := 299 } : Htr).idle + 1 ∧ (heating .run none 1).htr.idle + 1 < 300 := by
  decide

/-- R62: the tenth sample closes the control period. -/
theorem test_tenth_sample :
    let s := { running 2 10 .raise 8 1 with htr := { (running 2 10 .raise 8 1).htr with samples := 9, startUpDue := false } }
    (deliver (.htr (.measured (reading (some 1500) (some 194)))) s).1.htr.samples = 0 ∧
      (deliver (.htr (.measured (reading (some 1500) (some 194)))) s).1.htr.sc = 4 := by decide +kernel

theorem witness_HeaterRunMarksActOnTheirCount :
    (let h := (running 2 4 .raise 0 0).htr;
      h.seq = .run ∧ 10 ≤ h.samples) ∧
    (heating .ramp none 1).htr.seq ≠ .run ∧
    (let h := { (heating .run none 1).htr with idle := 300, flameLow := 15 };
      h.seq = .run ∧ 300 ≤ h.idle ∧ (h.seq = .ramp ∨ h.seq = .run) ∧ 15 ≤ h.flameLow) ∧
    (heating .run none 1).htr.idle < 300 ∧ (heating .run none 1).htr.flameLow < 15 := by decide

theorem witness_HeaterPurgeEnds :
    (let h := { (heating .purge none 1).htr with purge := ⟨.off, .normal, 120, false⟩, flame := some 599 };
      h.seq = .purge ∧ h.purge.time = 120 ∧ h.purge.kind = .normal ∧ h.flame = some 599 ∧ (599 : Int) < 600) ∧
    (let h := { (heating .purge none 1).htr with purge := ⟨.off, .normal, 300, false⟩ };
      h.seq = .purge ∧ h.purge.kind = .normal ∧ 300 ≤ h.purge.time) ∧
    (let h := { (heating .purge none 1).htr with purge := ⟨.lockout, .fixed, 300, false⟩ };
      h.seq = .purge ∧ h.purge.kind = .fixed ∧ 300 ≤ h.purge.time) ∧
    ({ s0.htr with frostRetry := some 0 } : Htr).frostRetry = some 0 ∧ s0.htr.seq ≠ .purge ∧ s0.htr.frostRetry ≠ some 0 := by decide

/-- A state in which a start is admitted: IGN is on (R45). -/
def admitting (seq : HeaterState) : State :=
  { heating seq none 4 with
    dmd := { s0.dmd with a := some 100000, ign := true }
    htr := { (heating seq none 4).htr with frostFlag := true, overheat := some 100, volts := some 25000, flame := some 100 } }

/-- A purge that ends at a measurement, one that goes on, one of the start-up check with both readings STARTING, and a blind one. -/
theorem witness_PurgeMeasurementsEndThePurge :
    (let h := { (heating .purge none 1).htr with purge := ⟨.wait, .normal, 120, false⟩ };
      h.startUpDue = false ∧ h.seq = .purge ∧ (heaterReads (reading (some 599) none) h).1.flame = some 599) ∧
    (heaterReads (reading (some 600) none) (heating .purge none 1).htr).1.flame = some 600 ∧
    (let h := { (heating .purge none 1).htr with purge := ⟨.off, .normal, 1, true⟩ };
      h.purge.startUp = true ∧ (reading none none).flameStarting = false) ∧
    (heaterReads { reading none none with overheat := none } (heating .purge none 1).htr).1.overheat = none := by decide

/-- R71: FLAME lost in a purge bound for PREHEAT, at 120 s of it: F1, FIXED, bound for OFF. -/
theorem test_blind_purge :
    let h := { (heating .purge none 1).htr with purge := ⟨.preheat, .normal, 120, false⟩ }
    let t := (deliver (.htr (.measured (reading none none))) { s0 with htr := h }).1.htr
    t.seq = .purge ∧ t.purge = ⟨.off, .fixed, 120, false⟩ ∧ t.keep.fault = some .f1 := by decide +kernel

theorem witness_AdmissionFollowsTheTable :
    (∃ e, s0.dmd.entries[1]? = some (some e) ∧ e.cls = 1) ∧ s0.dmd.floor = .clear ∧ s0.dmd.ign = false ∧
      ({ s0.dmd with floor := .cutoff } : Dmd).floor = .cutoff ∧ ({ s0.dmd with floor := .critical } : Dmd).floor = .critical :=
  ⟨⟨_, rfl, rfl⟩, rfl, rfl, rfl, rfl⟩

/-- R46: a start whose charge is the whole budget is admitted, and one of a milliampere-hour more refused. -/
theorem test_admission :
    let s := onDmd fun d => { d with a := some 320, entries := d.entries.take 1 ++
      [some ⟨.htr, 1, [90, 140, 200, 280], 0, 1000, none, none⟩] ++ d.entries.drop 2 }
    admits { s.dmd with wake := some 800 } s 1000 120 = true ∧ admits { s.dmd with wake := some 800 } s 1000 121 = false := by
  decide +kernel

theorem witness_StartUpCheckPurgesAHotChamber :
    s0.htr.startUpDue = true ∧ (reading (some 899) none).flameSample = some 899 ∧ (899 : Int) < s0.htr.profile.flamePresent ∧
      s0.htr.profile.flamePresent ≤ (900 : Int) ∧ (reading none none).flameSample = none := by decide

/-- A start of a measurement in WAIT, admitted, failing its check, refused and not asked; OFF with a frost start put off. -/
theorem witness_RestMeasurementsMakeTheStarts :
    (let s := { admitting .wait with htr := { (admitting .wait).htr with frostFlag := false } };
      let h := (heaterReads (reading (some 5) (some 184)) s.htr).1;
      s.htr.startUpDue = false ∧ h.seq = .wait ∧ h.frostFlag = false ∧ (h.cabin.all fun c => decide (c < 185)) = true ∧
        admits s.dmd s 1000 h.profile.startCharge = true ∧ startFault (heaterStarted h) = none ∧
        startFault (heaterStarted { h with flame := some 600 }) = some .f1 ∧
        admits { s.dmd with floor := .cutoff } s 1000 h.profile.startCharge = false) ∧
    (heaterReads (reading none (some 185)) (heating .wait none 1).htr).1.cabin = some 185 ∧
    (heaterReads (reading none (some 49)) (heating .wait none 1).htr).1.frostFlag = true ∧
    (heaterReads (reading none none) (heating .off none 1).htr).1.seq = .off ∧
    (heaterReads (reading none none) (heating .lockout none 1).htr).1.seq = .lockout := by decide +kernel

theorem witness_FrostStartIsAdmittedOrRetried :
    (let s := admitting .off;
      s.htr.frostFlag = true ∧ s.htr.startUpDue = false ∧ s.htr.seq = .off ∧
        admits s.dmd s 1000 s.htr.profile.startCharge = true ∧ startFault (heaterStarted s.htr) = none ∧
        startFault { heaterStarted s.htr with flame := some 600 } = some .f1) ∧
    (let s := { admitting .wait with dmd := { s0.dmd with a := some 0, floor := .cutoff } };
      s.htr.seq = .wait ∧ admits s.dmd s 1000 s.htr.profile.startCharge = false) ∧
    (heating .run none 1).htr.seq ≠ .off := by decide +kernel

theorem witness_HeatStartAndStopFollowTheState :
    HasSlot (admitting .off) ∧ (admitting .off).htr.seq = .off ∧
      admits (admitting .off).dmd (dispatched 0x83#8 1 (admitting .off)) 1000 120 = true ∧
      startFault (heaterStarted { (admitting .off).htr with overheat := none }) = some .f2 ∧
      admits { s0.dmd with a := some 0, floor := .cutoff } s0 1000 120 = false ∧ s0.htr.seq = .lockout ∧
      [HeaterState.precheck, .preheat, .ignite, .ramp, .run, .wait].map (fun q => (heating q none 1).htr.seq) =
        [.precheck, .preheat, .ignite, .ramp, .run, .wait] ∧
      (let h := { (heating .purge none 1).htr with purge := ⟨.wait, .normal, 0, false⟩ };
        h.seq = .purge ∧ h.purge.dest = .wait) ∧
      (let h := { (heating .purge none 1).htr with purge := ⟨.lockout, .normal, 0, false⟩ };
        h.seq = .purge ∧ h.purge.dest = .lockout) := by decide +kernel

theorem witness_HeaterSettingsTableAndLockout :
    HasSlot s0 ∧ heatInRange ⟨50, 2, 1, 1, 1, 20, 700, 22000, 0, 0, 1⟩ = true ∧
      heatInRange ⟨300, 20, 4, 4, 0, 100, 2000, 28000, 2000, 254, 255⟩ = true ∧
      heatInRange ⟨300, 20, 4, 4, 0, 100, 2000, 28000, 2000, 16, 16⟩ = false ∧
      heatExact ⟨49, 2, 1, 1, 1, 20, 700, 22000, 0, 0, 1⟩ = false ∧ heatExact ⟨50, 2, 1, 1, 1, 20, 700, 22000, 0, 0, 1⟩ = true ∧
      (admitting .off).htr.frostFlag = true ∧ tableInRange defaultTable = true ∧ tableInRange [] = false ∧
      s0.htr.seq = .lockout ∧ (heating .run none 1).htr.seq = .run ∧ (heating .purge none 1).htr.purge.dest ≠ .lockout ∧
      (onLnk fun l => { l with service := true }).lnk.service = true := by decide +kernel

/-- R70, R75: outside LOCKOUT the clearing request keeps the state and clears the counts and the fault code. -/
theorem test_clear_outside_lockout :
    let h := { (heating .run none 1).htr with keep := ⟨false, 2, 1, some .f3⟩ }
    let r := deliver (.htr .clearLockout) { s0 with htr := h }
    (r.1.htr.seq, r.1.htr.keep) = (.run, ⟨false, 0, 0, none⟩) ∧
      r.2 = [answer .ok [], .sto (.heater ⟨false, 0, 0, none⟩)] := by decide +kernel

theorem witness_BurningFaultsAndGrantsStopTheHeater :
    (heating .ignite none 1).htr.startUpDue = false ∧ (heating .ignite none 1).htr.profile.frostGuard = true ∧
    (heating .ignite none 1).htr.seq = .ignite ∧
    (let r : HeaterReadings := ⟨1, some 500, some 1201, none, 22799, false, false, none⟩;
      r.flame ≠ none ∧ r.overheat = some 1201 ∧ (1200 : Int) < 1201 ∧ r.volts < s0.chg.battery.vHard) ∧
    (heating .precheck none 1).htr.seq = .precheck ∧ s0.htr.seq = .lockout := by decide

/-- A grant of 0 and of 1 in each group of states, and the quiet flag in RUN and outside it. -/
theorem witness_HeaterObeysItsGrant :
    (0 = 0 ∧ (heating .preheat none 1).htr.seq = .preheat) ∧ (heating .run none 1).htr.seq = .run ∧
      (heating .purge none 1).htr.seq = .purge ∧ (1 : Nat) ≤ 1 := by decide

/-! ### Statements about CLR and LGT -/

/-- CLR in a state with cooling enabled and a grant. -/
def cooling (state : CoolerState) (grant : Nat) : Clr :=
  { s0.clr with state := state, grant := some (grant, .normal), call := true }

theorem witness_CoolerTimersSettleTheState :
    (let c := { cooling .running 0 with minOn := some 0 };
      c.minOn = some 0 ∧ c.state = .running ∧ c.grant.any (fun g => g.1 == 0) = true) ∧
    (let c := { cooling .running 3 with minOn := some 0, runTime := 600 };
      c.grant.any (fun g => g.1 == 0) = false ∧ c.settings.enable = true ∧ c.settings.qRun ≤ c.runTime) ∧
    (let c := { cooling .running 3 with minOn := some 0 };
      c.settings.enable = true ∧ coolerCalls c = true) ∧
    ({ cooling .waitOff 3 with minOff := some 0 } : Clr).minOff = some 0 ∧
    ({ cooling .pause 3 with pause := some 0 } : Clr).pause = some 0 ∧
    ({ cooling .backoff 3 with backoff := some 0 } : Clr).backoff = some 0 ∧
    ({ cooling .idle 3 with blindOff := some 0 } : Clr).blindOff = some 0 ∧
    ({ cooling .pause 3 with minOff := some 0 } : Clr).minOff = some 0 ∧
    ({ cooling .backoff 3 with blindOff := some 0 } : Clr).blindOff = some 0 ∧
    s0.clr.minOn ≠ some 0 ∧ s0.clr.minOff ≠ some 0 ∧ s0.clr.pause ≠ some 0 ∧ s0.clr.backoff ≠ some 0 ∧
    s0.clr.blindOff ≠ some 0 := by decide

/-- A grant in each group of states: 0 in CUTOFF and in TRIMMED, and 1 in CUTOFF. -/
theorem witness_CoolerTakesItsGrants :
    (cooling .running 3).state = .running ∧ (0 = 0 ∧ Budget.cutoff = .cutoff) ∧ ¬(0 = 0 ∧ Budget.trimmed = .cutoff) ∧
      ¬(1 = 0 ∧ Budget.cutoff = .cutoff) ∧ (cooling .pause 3).state = .pause ∧ (1 : Nat) ≤ 1 ∧ s0.clr.state = .idle ∧
      (cooling .faulted 3).state = .faulted := by decide

/-- A run stopped at once by a grant of 0 in CUTOFF, held by the min-on timer at a grant of 0 otherwise. -/
theorem test_cooler_grants :
    let s := { s0 with clr := { cooling .running 3 with minOn := some 30, compEn := true, speed := 3 } }
    let told (b : Budget) := (deliver (.clr (.grant 0 b)) s).1.clr
    ((told .cutoff).state, (told .cutoff).compEn) = (.shed, false) ∧
      ((told .trimmed).state, (told .trimmed).speed) = (.running, 1) := by decide +kernel

theorem witness_CoolerTakesTheQuietFlag :
    (cooling .running 3).state = .running ∧ ((cooling .pause 3).state = .pause ∧ false = false) ∧
      (cooling .waitOff 3).state = .waitOff ∧ ((cooling .pause 3).state = .pause ∧ true = true) ∧
      (cooling .backoff 3).state = .backoff := by decide

theorem witness_CoolerMarksAndFaults :
    (let c := { cooling .running 3 with runTime := 600 };
      c.state = .running ∧ c.settings.enable = true ∧ c.settings.qRun ≤ c.runTime ∧ 300 ≤ c.runTime ∧ c.minOn = none) ∧
    (let c := { cooling .running 0 with runTime := 600 };
      c.grant.any (fun g => g.1 == 0) = true ∧ c.minOn = none) ∧
    (let c := { cooling .running 3 with runTime := 600, blind := true };
      c.blind = true ∧ 600 ≤ c.runTime ∧ s0.rcl.quiet = false) ∧
    s0.clr.state ≠ .running ∧
    (let c := { cooling .disabled 3 with minute := 0 };
      c.minute = 0 ∧ c.state ≠ .running ∧ c.state ≠ .idle ∧ c.state ≠ .waitOff ∧ c.state ≠ .shed) ∧
    (let c := { cooling .running 3 with minute := 0 };
      c.minute = 0 ∧ c.settings.enable = true ∧ coolerCalls c = true) ∧
    ({ s0.clr with minute := 0 } : Clr).state = .idle ∧ s0.clr.minute ≠ 0 ∧
    (let c := { s0.clr with warmTime := 1800 };
      1800 ≤ c.warmTime ∧ c.warm = false ∧ c.state ≠ .disabled) ∧
    s0.clr.warmTime < 1800 ∧ false = s0.clr.faultPin ∧ true ≠ s0.clr.faultPin := by decide

/-- Settings at the ends of their ranges, a quiet pause that is not one of the four, and the states COOL_SET can find. -/
theorem witness_CoolSetAppliesTheSettings :
    HasSlot s0 ∧ coolInRange ⟨1, -200, 10, 1, 0, 300, 0, [1, 1, 1]⟩ = true ∧
      coolInRange ⟨0, 100, 60, 3, 50, 1800, 1200, [1, 2, 3000]⟩ = true ∧
      coolInRange ⟨1, 0, 10, 1, 0, 300, 1, [1, 1, 1]⟩ = false ∧ coolInRange ⟨2, 0, 10, 1, 0, 300, 0, [1, 1, 1]⟩ = false ∧
      s0.clr.state = .idle ∧ s0.clr.faultPin = false ∧ (cooling .pause 3).state ≠ .running ∧
      (cooling .running 3).state = .running ∧ (cooling .running 3).minOn = none ∧
      (cooling .running 3).grant.any (fun g => g.1 == 0) = false := by decide

/-- A channel under a flash with its frame. -/
def flashing : Lgt :=
  { s0.lgt with
    channels := s0.lgt.channels.set 4 ⟨150000, 150, 0, false, some ⟨1000, 4, 4, true, 4⟩, 1000⟩
    stack := [⟨.flash 4, [0, 0, 0, 0, 150, 0, 0, 0], List.replicate 8 false⟩] }

theorem witness_LightWritesAndRecalls :
    4 < flashing.channels.length ∧ (flashing.channels.getD 4 ⟨0, 0, 0, false, none, 0⟩).flash ≠ none ∧
      (flashing.stack.find? fun f => f.owner == .flash 4).isSome = true ∧
      (s0.lgt.channels.getD 0 ⟨0, 0, 0, false, none, 0⟩).flash = none ∧ HasSlot s0 ∧
      lightInRange ⟨0, 7, 1000, 36000, 1⟩ = true ∧ lightInRange ⟨1, 3, 0, 0, 0⟩ = true ∧
      lightInRange ⟨1, 4, 0, 0, 0⟩ = false ∧ lightInRange ⟨0, 7, 1001, 0, 0⟩ = false ∧
      s0.lgt.scenes.getD 0 [] ≠ [] ∧ s0.lgt.scenes.getD 11 [] = [] := by decide

/-- A grant for each of the two entries; a flash that starts with room, on a full stack and on a channel that flashes. -/
theorem witness_GrantsAndFlashes :
    (3 : Nat) ≠ 0 ∧ 7 < s0.lgt.channels.length ∧ (s0.lgt.channels.getD 7 ⟨0, 0, 0, false, none, 0⟩).flash = none ∧
      s0.lgt.stack.length < 4 ∧ 4 ≤ ({ s0.lgt with stack := List.replicate 4 ⟨.host, [], []⟩ } : Lgt).stack.length ∧
      4 < flashing.channels.length ∧ (flashing.channels.getD 4 ⟨0, 0, 0, false, none, 0⟩).flash ≠ none := by decide

/-- R117, log 16: on a full stack the lowest HOST frame is given up, with LIGHT_STACK_DROP. -/
theorem test_stack_drop :
    let l := { s0.lgt with stack := [⟨.flash 1, [], []⟩, ⟨.host, [1], []⟩, ⟨.host, [2], []⟩, ⟨.flash 2, [], []⟩] }
    let r := deliver (.lgt (.flashStart 4 1000 4 4)) { s0 with lgt := l }
    r.1.lgt.stack.map Frame.owner = [.flash 1, .host, .flash 2, .flash 4] ∧
      r.2.head? = some (post 29 [1#8, 4#8]) := by decide +kernel

theorem witness_DoorAndButtonsSwitchTheLights :
    false = s0.lgt.doorOpen ∧ true ≠ s0.lgt.doorOpen ∧ false ≠ ({ s0.lgt with doorOpen := true } : Lgt).doorOpen ∧
      ({ s0.lgt with doorTimer := some 0 } : Lgt).doorTimer = some 0 ∧ s0.lgt.doorTimer ≠ some 0 ∧ s0.lgt.btn1 = .released ∧
      ({ s0.lgt with btn1 := .pressed } : Lgt).btn1 = .pressed ∧ ({ s0.lgt with btn2 := .blocked } : Lgt).btn2 = .blocked ∧
      s0.alr.owner = none ∧ (onAlr fun a => { a with owner := some 5 }).alr.owner ≠ none := by decide

theorem witness_LightStackAndSettings :
    HasSlot s0 ∧ s0.lgt.stack.length < 4 ∧ 4 ≤ (List.replicate 4 (⟨.host, [], []⟩ : Frame)).length ∧
      (s0.lgt.stack.reverse.find? fun f => f.owner == .host) = none ∧
      (([⟨.host, [], []⟩] : List Frame).reverse.find? fun f => f.owner == .host) = some ⟨.host, [], []⟩ ∧
      channelTableInRange [1, 1, 1, 1, 1, 1, 1, 500] 1000 = true ∧ channelTableInRange [0, 1, 1, 1, 1, 1, 1, 1] 0 = false ∧
      sceneInRange 11 [⟨7, 1000, 36000⟩] = true ∧ sceneInRange 12 [⟨7, 1000, 36000⟩] = false ∧
      sceneInRange 0 [⟨0, 0, 0⟩, ⟨0, 0, 0⟩] = false := by decide

/-! ### Statements about RCL, SCH and ALR -/

theorem witness_SecondTimerAdvancesTheClock :
    s0.rcl.cabTime ≤ 4294967295 ∧
      (let b : BreakRun := ⟨0, 2700, 0, 2700, .none⟩;
        b.marker != .full && decide (s0.rcl.settings.breakMin ≤ b.length)) = true ∧
      (let b : BreakRun := ⟨0, 1800, 0, 1800, .none⟩;
        (b.marker != .full && decide (s0.rcl.settings.breakMin ≤ b.length)) = false ∧
          decide (s0.rcl.settings.splitSecond ≤ b.length) = true) ∧
      s0.rcl.breakRun = some ⟨0, 0, 0, 0, .none⟩ := by decide +kernel

theorem witness_ActivityRequestChangesThePeriod :
    HasSlot s0 ∧ s0.rcl.period.activity = .available ∧ s0.rcl.breakRun = some ⟨0, 0, 0, 0, .none⟩ ∧
      (onRcl fun r => { r with period := ⟨.drive, 0, 0⟩ }).rcl.period.activity = .drive := by decide

theorem witness_RestPlanOpensOrPlansTheRecord :
    HasSlot s0 ∧ (onRcl fun r => { r with period := ⟨.drive, 0, 0⟩ }).rcl.period.activity = .drive ∧
      s0.rcl.period.activity ≠ .drive ∧ s0.rcl.cabTime + 900 ≤ 900 ∧ 86400 ≤ s0.rcl.cabTime + 86400 ∧
      ¬86401 ≤ s0.rcl.cabTime + 86400 ∧ s0.rcl.record = none ∧
      (onRcl fun r => { r with record := some ⟨0, 0, 900, false⟩ }).rcl.record = some ⟨0, 0, 900, false⟩ := by decide

theorem witness_ClockAndLogRequests :
    HasSlot s0 ∧ restInRange ⟨300, 600, 900, 3600, 0, 3600, 3601, 0, 600⟩ = true ∧
      restInRange ⟨899, 899, 900, 3600, 3599, 3600, 86400, 3600, 43200⟩ = true ∧
      restInRange ⟨900, 600, 900, 3600, 0, 3600, 3601, 0, 600⟩ = false ∧ (1 : Nat) ≤ 1 ∧ s0.rcl.window = none ∧
      (onRcl fun r => { r with window := some ⟨1, 4, 1⟩ }).rcl.window = some ⟨1, 4, 1⟩ := by decide

/-- R125: a timer at 1 comes to 0 and stays there, and the sounding time stops at 600. -/
theorem test_second :
    (deliver (.chg .second) (onChg fun c => { c with doze := some 1 })).1.chg.doze = some 0 ∧
      (deliver (.chg .second) (onChg fun c => { c with doze := some 0 })).1.chg.doze = some 0 ∧
      ((deliver (.alr .second) (alerting 5 { record .sounding with sounding := 600 })).1.alr.record 5).sounding = 600 := by
  decide +kernel

/-- The head due now beside a later entry of the same time; no entry due. -/
theorem witness_ScheduleFiringDeliversTheHead :
    (let a : SchedEntry := ⟨0, .heatStop, none, none, 0, false⟩;
      let b : SchedEntry := ⟨0, .userAlarm, none, none, 1, false⟩;
      let s := onSch fun c => { c with slots := (c.slots.set 3 (some a)).set 5 (some b) };
      s.sch.firing = none ∧ (s.sch.slots[3]?).join = some a ∧ a.due ≤ s.rcl.cabTime ∧
        (List.range 16).all (fun m => m == 3 || ((s.sch.slots[m]?).join).all fun x =>
          decide (a.due < x.due ∨ (a.due = x.due ∧ a.insertion < x.insertion))) = true) ∧
    (List.range 16).all (fun m => ((s0.sch.slots[m]?).join).isNone) = true := by decide

/-- A head that is due alone, entries that are not due, and a firing in progress. -/
theorem witness_SweepFiresTheHead :
    s0.sch.firing = none ∧
      (let a : SchedEntry := ⟨0, .heatStop, none, none, 0, false⟩;
        let s := onSch fun c => { c with slots := c.slots.set 15 (some a) };
        (s.sch.slots[15]?).join = some a ∧ a.due ≤ s.rcl.cabTime ∧
          (List.range 16).all (fun m => m == 15 || ((s.sch.slots[m]?).join).isNone) = true) ∧
      s0.rcl.cabTime < (⟨1, .heatStop, none, none, 0, false⟩ : SchedEntry).due ∧
      (onSch fun c => { c with firing := some ⟨15, ⟨0, .wakeAlarm, none, some 60, 0, false⟩, true⟩ }).sch.firing.isSome =
        true := by decide

/-- R97, R100: the measurement at which blind mode begins and a quiet run ends posts COOLER_STATE with BLIND and again with QUIET; a
stop into DISABLED with the warm condition raised posts COOLER_STATE before COOLER_WARM. -/
theorem test_cooler_reports :
    let reasons (ms : List Msg) := ms.filterMap fun m => match m with
      | .rpq (.post c d) => some (c, d.getLast?)
      | _ => none
    let c := { cooling .running 3 with runTime := 600, speed := 1, compEn := true }
    let quiet := { s0 with clr := c, rcl := { s0.rcl with quiet := true } }
    reasons (deliver (.clr (.measured 1 none)) quiet).2 = [(12, some 6#8), (12, some 3#8)] ∧
      reasons (deliver (.clr (.act .coolDisable none)) { s0 with clr := { c with warm := true } }).2 =
        [(12, some 8#8), (10, some 0x00#8)] := by decide +kernel

/-- Every action at RCL, LGT and ALR finds its case. -/
theorem witness_RestActionsAreAnswered :
    s0.alr.records.length = 8 ∧ 11 < (some (12 : Int)).elim 0 Int.toNat ∧ s0.lgt.scenes.getD 0 [] ≠ [] ∧
      s0.lgt.scenes.getD 11 [] = [] ∧ standingHeld s0.lgt 2 = false ∧
      standingHeld { s0.lgt with channels := s0.lgt.channels.set 2 ⟨0, 0, 0, true, none, 0⟩ } 2 = true ∧ s0.rcl.record = none ∧
      (onRcl fun r => { r with record := some ⟨0, 0, 900, false⟩ }).rcl.record ≠ none := by decide

theorem witness_FiringEndsWithTheOwnersAnswer :
    (onSch fun c => { c with firing := some ⟨15, ⟨0, .wakeAlarm, none, some 60, 0, false⟩, true⟩ }).sch.firing =
      some ⟨15, ⟨0, .wakeAlarm, none, some 60, 0, false⟩, true⟩ := by decide

theorem witness_RefreshDerivesTheRestEntries :
    (let c := (onSch fun c => { c with refresh := some 0, rest := some (70600, 110000), done := c.done.set 5 true }).sch;
      c.refresh = some 0 ∧ c.rest = some (70600, 110000) ∧ c.slots.length = 16 ∧ c.done.getD 5 false = true ∧
        c.done.getD 0 false = false ∧ 70600 + s0.rcl.settings.quietDelay < 110000 - 1200) ∧
    (2000 - 1200 ≤ 70600 + s0.rcl.settings.quietDelay ∧ s0.sch.refresh ≠ some 0 ∧ s0.sch.rest = none) ∧
    (let e : SchedEntry := ⟨110000, .wakeAlarm, none, none, 0, false⟩;
      ((s0.sch.slots.set 15 (some e))[15]?).join = some e ∧ (s0.sch.slots[14]?).join = none) := by decide

theorem witness_RestRecordReachesTheSchedule :
    (onSch fun c => { c with rest := some (70600, 110000) }).sch.rest = some (70600, 110000) ∧ s0.sch.rest = none ∧
      (some 70000 : Option Nat) = some 70000 ∧ (none : Option Nat) = none := by decide

/-- R146, R155: an opening inserts the six kinds with the insertion numbers from the counter on, in slot order. -/
theorem test_rest_opening :
    let t := (deliver (.sch (.restOpened 70600 110000)) (onSch fun c => { c with counter := 7 })).1.sch
    (t.slots.drop 10).map (fun e => e.map SchedEntry.insertion) = [some 7, some 8, some 9, some 10, some 11, some 12] ∧
      t.counter = 13 ∧ t.refresh = some 300 := by decide +kernel

/-- An entry in range with a slot, a due time of now, one in the past, a full table; slots held, empty and above 15. -/
theorem witness_ScheduleRequestsKeepTheTable :
    HasSlot s0 ∧ s0.rcl.cabTime ≤ (⟨0, 5, some 255, some 60⟩ : SchedArgs).due ∧ 60 ≤ 604800 ∧
      ([0, 1, 2, 3, 4, 5, 6, 7, 8, 9].find? fun k => s0.sch.slots[k]? == some none) = some 0 ∧
      (let slots := List.replicate 16 (some (⟨0, .heatStop, none, none, 0, false⟩ : SchedEntry));
        ([0, 1, 2, 3, 4, 5, 6, 7, 8, 9].find? fun k => slots[k]? == some none) = none ∧ (slots[15]?).join ≠ none) ∧
      (s0.sch.slots[15]?).join = none ∧ ¬(11 : Nat) ≤ 10 := by decide

theorem witness_AlertRecordsFollowTheirWords :
    (let a := (alerting 5 { record .sounding with sounding := 600 }).alr;
      5 ≤ 5 ∧ (a.record 5).state = .sounding ∧ 600 ≤ (a.record 5).sounding) ∧
    (let a := (alerting 0 { record .silenced with resound := some 0 }).alr;
      (a.record 0).state = .silenced ∧ (a.record 0).resound = some 0) ∧
    (s0.alr.record 7).state ≠ .sounding ∧ (s0.alr.record 2).state ≠ .silenced ∧ 7 < s0.alr.records.length ∧
    (s0.alr.record 4).raised = false ∧ ((alerting 4 (record .held)).alr.record 4).raised = true := by decide

/-- No owner, and an owner of each sort at the ends of the kinds. -/
theorem witness_ButtonAcknowledgesTheOwner :
    s0.alr.owner = none ∧ ({ s0.alr with owner := some 0 } : Alr).owner = some 0 ∧ 0 < s0.alr.records.length ∧
      ({ s0.alr with owner := some 7 } : Alr).owner = some 7 ∧ 7 < s0.alr.records.length := by decide

theorem witness_BuzzerFollowsThePattern :
    (let a := { s0.alr with owner := some 0, phase := .gap };
      a.owner = some 0 ∧ a.phase = .gap) ∧
    s0.alr.owner = none ∧ ({ s0.alr with phase := .beep 1 true } : Alr).phase = .beep 1 true ∧
    (let a := { s0.alr with owner := some 0, phase := .beep 4 false };
      a.phase = .beep 4 false ∧ a.owner.all (fun k => decide (4 < burstBeeps k)) = true) ∧
    (let a := { s0.alr with owner := some 0, phase := .beep 5 false };
      a.phase = .beep 5 false ∧ a.owner.any (fun k => decide (burstBeeps k ≤ 5)) = true) ∧ s0.alr.phase = .silent := by decide

theorem witness_AlertAckSilencesAnAlert :
    HasSlot s0 ∧ ((7 : Nat) < 8 ∧ 8 ≠ 255) ∧ s0.alr.owner = none ∧ (s0.alr.record 0).state = .inactive ∧
      ((alerting 7 (record .sounding)).alr.record 7).state = .sounding ∧
      ((alerting 3 (record .held)).alr.record 3).state = .held ∧
      7 < s0.alr.records.length ∧ ({ s0.alr with owner := some 3 } : Alr).owner ≠ none ∧ 7 ≠ s0.alr.channel ∧
      (4 : Nat) = s0.alr.channel := by decide

/-- R169, R171: the owner's condition alert is silenced for 600 s, the buzzer is off, CHG is told and the flash is cancelled. -/
theorem test_acknowledge :
    let a := { (alerting 0 (record .sounding)).alr with owner := some 0, phase := .beep 1 true, buzzer := true }
    let r := deliver (.alr .buttonAck) { s0 with alr := a }
    ((r.1.alr.record 0).state, (r.1.alr.record 0).resound, r.1.alr.owner, r.1.alr.buzzer) = (.silenced, some 600, none, false) ∧
      r.2 = [.chg .review, .lgt (.flashCancel s0.alr.channel), post 23 [0#8, 3#8, 1#8]] := by decide +kernel

/-- The flash's end on the alert channel and on another. -/
theorem witness_FlashAnswersSetTheFlag : 4 = s0.alr.channel ∧ 3 ≠ s0.alr.channel := by decide

/-! ### Statements about RPQ, LNK and STO -/

/-- A full queue whose last entry is less urgent than most causes, in flight or not. -/
def fullQueue (inFlight : Bool) : Rpq :=
  { s0.rpq with queue := (List.range 15).map (fun i => queued (i + 1) 2) ++ [{ queued 16 6 with inFlight := inFlight }] }

theorem witness_PostIsCapturedMaskedOrQueued :
    (let q := { s0.rpq with descs := s0.rpq.descs.set 3 ⟨.armed, 7, [0], 1, 31, 0⟩ };
      ([0, 1, 2, 3].find? fun d => decide ((q.descs.getD d freeDesc).state = .armed ∧ (q.descs.getD d freeDesc).cause = 7)) =
        some 3) ∧
    ([0, 1, 2, 3].find? fun d => decide ((s0.rpq.descs.getD d freeDesc).state = .armed)) = none ∧
    ({ s0.rpq with mask := 2 } : Rpq).mask < s0.rpq.levels.getD 6 0 ∧ s0.rpq.levels.getD 6 0 ≤ s0.rpq.mask ∧
    (s0.rpq.queue.any fun e => decide (e.cause = 28)) = true ∧ (s0.rpq.queue.any fun e => decide (e.cause = 1)) = false ∧
    s0.rpq.queue.length < 16 ∧ 16 ≤ (fullQueue true).queue.length ∧
    (fullQueue true).queue.getLast? = some { queued 16 6 with inFlight := true } ∧
    (fullQueue false).queue.getLast? = some (queued 16 6) := by decide

theorem witness_GateAndLevelRequests :
    HasSlot s0 ∧ (1 : Nat) ≤ 1 ∧ (1 : Nat) < 2 ∧ (33 : Nat) ≤ 33 ∧ (7 : Nat) ≤ 7 ∧ (33 : Nat) < 34 := by decide

theorem witness_CaptureRequestsKeepTheDescriptors :
    HasSlot s0 ∧ s0.rpq.descs.length = 4 ∧ s0.rpq.buffer.length = 32 ∧
      armInRange ⟨3, 33, [0, 11, 1, 2, 3, 4], 16, 16⟩ = true ∧ armInRange ⟨3, 33, [0], 2, 31⟩ = false ∧
      armInRange ⟨4, 33, [0], 1, 31⟩ = false ∧
      (let q := { s0.rpq with descs := s0.rpq.descs.set 0 ⟨.done, 7, [0], 2, 0, 2⟩ };
        (q.desc 0).state ≠ .free ∧ (q.desc 1).state = .free ∧ q.descs.any (sharesRegion ⟨1, 7, [0], 1, 1⟩) = true ∧
          q.descs.any (sharesRegion ⟨1, 7, [0], 1, 2⟩) = false ∧ (q.desc 0).count ≤ 2 ∧ 1 < (q.desc 0).count) := by decide

/-- The assembler in each of its states, and LEN at both ends of its range and just outside. -/
theorem witness_FramesAreAssembledAndDispatched :
    s0.lnk.answer = none ∧ s0.lnk.reserved = none ∧ s0.lnk.asm = .hunt ∧ HasSlot s0 ∧
      ({ s0.lnk with asm := .length } : Lnk).asm = .length ∧ 2 ≤ (2#8).toNat ∧ (58#8).toNat ≤ 58 ∧ (1#8).toNat < 2 ∧
      58 < (59#8).toNat ∧ ({ s0.lnk with asm := .body 2 [1] } : Lnk).asm = .body 2 [1] ∧
      ({ s0.lnk with asm := .check 2 [1, 1] } : Lnk).asm = .check 2 [1, 1] ∧ 0#8 ≠ crc8 [2, 1, 1] ∧
      parseRequest 0x03 [] = some .heatStart ∧ Request.heatStart.owner = some (.htr .start) ∧ parseRequest 0x03 [0] = none ∧
      parseRequest 0x36 [] = some .restart ∧ 0x30 ≤ 0x36 ∧ s0.lnk.service = false ∧
      2 ≤ (onLnk fun l => { l with slots := [⟨0, 0, 0, []⟩, ⟨0, 0, 0, []⟩] }).lnk.slots.length ∧
      parseRequest 0x20 [2] = some (.linkStats 2) ∧ parseRequest 0x01 [] = some .status := by decide +kernel

theorem witness_FrameSentFreesTheTransmitter :
    s0.lnk.tx = .idle ∧ ({ s0.lnk with tx := .report } : Lnk).tx = .report ∧
      (let r : Reply := ⟨0x82#8, 1, 0, List.replicate 55 0⟩;
        let l := { s0.lnk with tx := .reply 0, slots := [r] };
        l.tx = .reply 0 ∧ l.slots.head? = some r ∧ 54 * (0 + 1) < r.body.length ∧ r.body.length ≤ 54 * (1 + 1)) := by decide

theorem witness_CountersAndBudgetAreRead : HasSlot s0 ∧ (1 : Nat) < 2 := by decide

theorem witness_StatusCarriesTheSummary : HasSlot s0 ∧ s0.sch.slots.length = 16 := by decide

theorem witness_ReadingsCarryTheFigures : HasSlot s0 := by decide

theorem witness_StoreSavesAndWrites :
    HasSlot s0 ∧ s0.sto.saving = none ∧ s0.sto.writing = some ⟨lostItems, 112500⟩ ∧ s0.sto.hourly ≠ 0 ∧ ({ s0.sto with writing := none } : Sto).writing = none ∧
      ({ s0.sto with hourly := 0, writing := none } : Sto).hourly = 0 ∧
      ({ s0.sto with restarting := .own, writeAgain := true } : Sto).restarting = .own ∧
      ({ s0.sto with saving := some defaultSettings } : Sto).saving = some defaultSettings ∧
      (onLnk fun l => { l with service := true }).lnk.service = true := by
  refine ⟨by decide, rfl, rfl, by decide, rfl, rfl, rfl, rfl, rfl⟩

theorem witness_DefaultsReachEveryBlock :
    HasSlot s0 ∧ s0.sto.saving = none ∧ s0.rpq.levels.length = 33 ∧ s0.htr.seq = .lockout ∧
      ¬((heating .run none 1).htr.seq = .off ∨ (heating .run none 1).htr.seq = .lockout ∨
        (heating .run none 1).htr.seq = .wait) := by
  refine ⟨by decide, rfl, by decide, rfl, by decide⟩

/-! ### Statements about every step: a step from a state that has the property -/

/-- A state with one command waiting. -/
def waiting : State := { s0 with pending := [.secondTimer] }

theorem waiting_settings : settingsInv waiting := by
  refine ⟨by unfold settingsFit; decide +kernel, fun t h => ?_, fun a h => ?_, fun x h => ?_⟩
  · exact absurd h (by rw [show waiting.htr.pendingTable = none from rfl]; simp)
  · exact absurd h (by rw [show waiting.sto.settingsArea = none from rfl]; simp)
  · exact absurd h (by rw [show waiting.sto.saving = none from rfl]; simp)

theorem witness_StepKeepsTheHeater : heaterInv waiting ∧ ∃ t, step waiting = .next t :=
  ⟨⟨waiting_settings, by decide +kernel, by decide, by decide, by decide, by decide, by decide, by decide, by decide,
    by unfold countsFit; decide, by unfold countsFit; decide,
    fun w h => by rw [← Option.some.inj h]; unfold countsFit; decide,
    fun a h => absurd h (by rw [show waiting.sto.stateArea = none from rfl]; simp)⟩, ⟨_, rfl⟩⟩

theorem witness_StepKeepsTheCharge : chargeInv waiting ∧ ∃ t, step waiting = .next t :=
  ⟨⟨waiting_settings, by decide +kernel⟩, ⟨_, rfl⟩⟩

theorem witness_StepKeepsTheReportQueue : reportsInv waiting ∧ ∃ t, step waiting = .next t :=
  ⟨by unfold reportsInv; decide +kernel, ⟨_, rfl⟩⟩

theorem witness_StepKeepsTheLink : linkInv waiting ∧ ∃ t, step waiting = .next t := by
  refine ⟨⟨rfl, rfl, by decide, fun _ => rfl, ?_, ?_, ?_, by decide, by decide, by decide, by decide⟩, ⟨_, rfl⟩⟩
  · intro n h; exact absurd h (by rw [show waiting.lnk.tx = .idle from rfl]; simp)
  · intro len kept h; exact absurd h (by rw [show waiting.lnk.asm = .hunt from rfl]; simp)
  · intro len kept h; exact absurd h (by rw [show waiting.lnk.asm = .hunt from rfl]; simp)

theorem witness_StepKeepsCoolerAlertsAndClock :
    coolerInv waiting ∧ alertsInv waiting ∧ clockInv waiting ∧ ∃ t, step waiting = .next t := by
  refine ⟨by unfold coolerInv; decide +kernel, ⟨by decide, by decide +kernel, ?_, by decide +kernel, ?_⟩,
    by unfold clockInv; decide +kernel, ⟨_, rfl⟩⟩
  · intro k h; exact absurd h (by rw [show waiting.alr.owner = none from rfl]; simp)
  · rw [show waiting.alr.phase = .silent from rfl, show waiting.alr.buzzer = false from rfl]; simp

end Sys2Proof.Machine.Tests
end

/-! The settings in use keep their shape (R80, R197): what each block does to its own settings, then a delivery. -/

namespace Sys2Proof.Machine

/-! ### HTR: the profile and the tables -/

/-- A profile with a max level and a quiet cap of 1 to 4 (R80). -/
def HeatProfile.Fits (p : HeatProfile) : Prop := 1 ≤ p.maxLevel ∧ p.maxLevel ≤ 4 ∧ 1 ≤ p.quietCap ∧ p.quietCap ≤ 4

/-- HTR with a profile that fits and tables of four levels (R76). -/
def Htr.Fits (h : Htr) : Prop :=
  h.profile.Fits ∧ h.table.length = 4 ∧ ∀ t, h.pendingTable = some t → t.length = 4

section Heater

variable {h : Htr}

theorem adoptTable_fits (hf : h.Fits) : (adoptTable h).Fits := by
  obtain ⟨hp, ht, hq⟩ := hf
  unfold adoptTable
  split
  · next t e => exact ⟨hp, hq t e, by simp⟩
  · exact ⟨hp, ht, hq⟩

theorem entrySettings_fits (new : HeaterState) (hf : h.Fits) : (entrySettings new h).Fits := by
  cases new <;> exact hf

theorem enteredState_fits (new : HeaterState) (hf : h.Fits) : (enteredState new h).Fits := by
  have e := entrySettings_fits new hf
  unfold enteredState
  dsimp only
  split
  · exact adoptTable_fits (h := { entrySettings new h with
      seq := _, level := _, timer := _, frostLimited := _, frostRetry := _ }) e
  · exact e

theorem enter_fits (new : HeaterState) (r : HeaterReason) (k : Retained) (hf : h.Fits) : (enter new r k h).1.Fits :=
  enteredState_fits new (h := { h with keep := k }) hf

theorem goTo_fits (new : HeaterState) (r : HeaterReason) (k : Retained) (hf : h.Fits) : (goTo new r k h).1.Fits :=
  enter_fits new r k hf

theorem purgeTo_fits (d : PurgeDest) (k : PurgeKind) (u : Bool) (r : HeaterReason) (i : Retained) (hf : h.Fits) :
    (purgeTo d k u r i h).1.Fits :=
  goTo_fits _ _ _ (h := { h with purge := ⟨d, k, 0, u⟩ }) hf

theorem precheckTest_fits (hf : h.Fits) : (precheckTest h).1.Fits := by
  unfold precheckTest
  split
  · exact goTo_fits _ _ _ hf
  · exact hf

theorem startSettings_fits (hf : h.Fits) : (startSettings h).Fits := hf

theorem beginStart_fits (r : HeaterReason) (hf : h.Fits) : (beginStart r h).1.Fits :=
  precheckTest_fits (enter_fits _ _ _ (startSettings_fits hf))

theorem requestStart_fits (r : HeaterReason) (s : State) (hf : h.Fits) : (requestStart r h s).1.Fits := by
  unfold requestStart
  split
  · split
    · exact hf
    · split
      · exact beginStart_fits r hf
      · exact hf
  all_goals exact hf

theorem frostStart_fits (s : State) (hf : h.Fits) : (frostStart h s).1.Fits := by
  have started : (enter .precheck .frost (startKeep h.keep) (startSettings { h with frostLimited := true })).1.Fits :=
    enter_fits _ _ _ (h := startSettings { h with frostLimited := true }) hf
  unfold frostStart
  split
  · dsimp only
    split
    · exact enter_fits .off .fault _ started
    · exact started
  · split
    · exact hf
    · exact enter_fits .off .noBudget _ hf

theorem frostEvent_fits (s : State) (hf : h.Fits) : (frostEvent h s).1.Fits := by
  unfold frostEvent
  split
  · exact frostStart_fits s hf
  · exact hf

theorem setFrostFlag_fits (b : Bool) (hf : h.Fits) : (setFrostFlag b h).1.Fits := by
  cases b <;> exact hf

theorem frostTest_fits (hf : h.Fits) : (frostTest h).1.Fits := by
  unfold frostTest
  split
  · split
    · exact setFrostFlag_fits true hf
    · split
      · exact setFrostFlag_fits false hf
      · exact hf
  · exact hf

theorem failStart_fits (f : HeaterFault) (hf : h.Fits) : (failStart f h).1.Fits := purgeTo_fits _ _ _ _ _ hf

theorem flameOut_fits (hf : h.Fits) : (flameOut h).1.Fits := by
  unfold flameOut
  dsimp only
  split
  · exact failStart_fits _ hf
  · exact purgeTo_fits _ _ _ .none _ (h := { h with restartUsed := true, attempts := 0 }) hf

theorem burningFault_fits {v : Nat} {r : Htr × List Msg} (hf : h.Fits) (hr : burningFault v h = some r) : r.1.Fits := by
  unfold burningFault at hr
  split at hr
  · cases hr; exact purgeTo_fits _ _ _ _ _ hf
  · cases hr; exact purgeTo_fits _ _ _ _ _ hf
  · split at hr
    · cases hr; exact purgeTo_fits _ _ _ .fault _ hf
    · split at hr
      · cases hr; exact purgeTo_fits _ _ _ _ _ hf
      · cases hr

theorem recap_fits (q : Bool) (hf : h.Fits) : (recap h q).Fits := by
  unfold recap
  dsimp only
  split <;> exact hf

theorem controlPeriod_fits (q : Bool) (hf : h.Fits) : (controlPeriod h q).Fits := by
  unfold controlPeriod stepCounter
  dsimp only
  split
  · split <;> exact hf
  · exact hf

theorem thermostatSample_fits (q : Bool) (hf : h.Fits) : (thermostatSample h q).Fits := by
  unfold thermostatSample
  split
  · exact controlPeriod_fits q (h := { h with samples := _, cold := _, warm := _ }) hf
  · exact recap_fits q (h := { h with samples := 0, cold := 0, warm := 0 }) hf

theorem idleStop_fits (hf : h.Fits) : (idleStop h).1.Fits := by
  unfold idleStop
  split
  · exact purgeTo_fits _ _ _ _ _ hf
  · exact hf

theorem flameWatch_fits (dt : Nat) {next : Htr → Htr × List Msg} (hn : ∀ h : Htr, h.Fits → (next h).1.Fits) (hf : h.Fits) :
    (flameWatch dt h next).1.Fits := by
  have hw : ({ h with flameLow := flameLowAfter h dt } : Htr).Fits := hf
  unfold flameWatch
  dsimp only
  split
  · exact flameOut_fits hw
  · exact hn _ hw

theorem measuredIgnite_fits (v : Nat) (hf : h.Fits) : (measuredIgnite v h).1.Fits := by
  unfold measuredIgnite
  split
  · next r hr => exact burningFault_fits hf hr
  · split
    · split
      · exact goTo_fits _ _ _ hf
      · exact hf
    · exact hf

theorem measuredRamp_fits (v dt : Nat) (hf : h.Fits) : (measuredRamp v dt h).1.Fits := by
  unfold measuredRamp
  split
  · next r hr => exact burningFault_fits hf hr
  · exact flameWatch_fits dt (fun _ hw => hw) hf

theorem measuredRun_fits (v dt : Nat) (q : Bool) (hf : h.Fits) : (measuredRun v dt q h).1.Fits := by
  have counted : ({ h with sessionRun := h.sessionRun + dt } : Htr).Fits := hf
  unfold measuredRun
  dsimp only
  split
  · next r hr => exact burningFault_fits counted hr
  · refine flameWatch_fits dt (fun h2 hw => ?_) counted
    exact idleStop_fits (h := { thermostatSample h2 q with idle := _ }) (thermostatSample_fits q hw)

theorem endPurge_fits (hf : h.Fits) : (endPurge h).1.Fits := goTo_fits _ _ _ hf

theorem purgeOverheat_fits (b : Bool) (hf : h.Fits) : (purgeOverheat h b).Fits := by
  unfold purgeOverheat
  split <;> exact hf

theorem purgeFlame_fits (b : Bool) (hf : h.Fits) : (purgeFlame h b).Fits := by
  unfold purgeFlame
  split <;> exact hf

theorem measuredPurge_fits (r : HeaterReadings) (hf : h.Fits) : (measuredPurge r h).1.Fits := by
  have read := purgeFlame_fits r.flameStarting (purgeOverheat_fits r.overheatStarting hf)
  unfold measuredPurge
  dsimp only
  split
  · exact endPurge_fits read
  · exact read

theorem purgeTimeout_fits (hf : h.Fits) : (purgeTimeout h).1.Fits := by
  unfold purgeTimeout
  split
  · exact goTo_fits _ _ _ hf
  · exact hf

theorem measuredWait_fits (s : State) (hf : h.Fits) : (measuredWait h s).1.Fits := by
  unfold measuredWait
  split
  · exact hf
  · split
    · split
      · exact beginStart_fits _ hf
      · exact goTo_fits _ _ _ hf
    · exact hf

theorem measuredPreheat_fits (hf : h.Fits) : (measuredPreheat h).1.Fits := by
  unfold measuredPreheat
  split
  · exact goTo_fits _ _ _ hf
  · split
    · exact goTo_fits _ _ _ hf
    · exact hf

theorem startUpCheck_fits (r : HeaterReadings) (hf : h.Fits) : (startUpCheck r h).1.Fits := by
  have done : ({ h with startUpDue := false } : Htr).Fits := hf
  unfold startUpCheck
  dsimp only
  split
  · exact hf
  · split
    · split
      · exact done
      · exact purgeTo_fits _ _ _ _ _ done
    · exact purgeTo_fits _ _ _ _ _ done

theorem measuredState_fits (r : HeaterReadings) (b : Bool) (s : State) (hf : h.Fits) : (measuredState r b h s).1.Fits := by
  unfold measuredState
  split
  · exact hf
  · exact hf
  · exact measuredWait_fits s hf
  · exact precheckTest_fits hf
  · exact measuredPreheat_fits hf
  · exact measuredIgnite_fits _ hf
  · exact measuredRamp_fits _ _ hf
  · exact measuredRun_fits _ _ _ hf
  · exact measuredPurge_fits r hf

theorem heaterMeasured_fits (r : HeaterReadings) (s : State) (hf : s.htr.Fits) : (heaterMeasured r s).1.Fits := by
  have checked := startUpCheck_fits r (h := takeReadings r s.htr) hf
  unfold heaterMeasured
  dsimp only
  split
  · exact checked
  · exact measuredState_fits r _ s (frostTest_fits checked)

theorem startExpiry_fits (a b : HeaterState) (hf : h.Fits) : (startExpiry a b h).1.Fits := by
  unfold startExpiry
  split
  · split <;> exact goTo_fits _ _ _ hf
  · exact hf

theorem igniteExpiry_fits (hf : h.Fits) : (igniteExpiry h).1.Fits := by
  unfold igniteExpiry
  dsimp only
  split
  · split
    · exact failStart_fits _ hf
    · split
      · exact purgeTo_fits _ _ _ .none _ hf
      · exact failStart_fits _ hf
  · exact hf

theorem rampExpiry_fits (q : Bool) (hf : h.Fits) : (rampExpiry q h).1.Fits := by
  unfold rampExpiry
  split
  · exact goTo_fits _ _ _ (h := { h with level := min 2 (levelCap h q) }) hf
  · exact hf

theorem heaterGrant_fits (level : Nat) (q : Bool) (hf : h.Fits) : (heaterGrant level q h).1.Fits := by
  have granted : ({ h with grant := some level } : Htr).Fits := hf
  unfold heaterGrant
  dsimp only
  split
  · split
    case h_6 => exact granted
    iterate 2 exact goTo_fits _ _ _ granted
    iterate 3 exact purgeTo_fits _ _ _ _ _ granted
  · exact recap_fits q granted

theorem stopHeater_fits (r : HeaterReason) (hf : h.Fits) : (stopHeater r h).1.Fits := by
  have freed : ({ h with frostLimited := false } : Htr).Fits := hf
  unfold stopHeater
  dsimp only
  split
  case h_7 =>
    split
    · exact hf
    · exact freed
  case h_8 | h_9 => exact freed
  iterate 3 exact goTo_fits _ _ _ freed
  iterate 3 exact purgeTo_fits _ _ _ _ _ freed

theorem clampNat_bounds {lo hi : Nat} (x : Nat) (h : lo ≤ hi) : lo ≤ clampNat lo hi x ∧ clampNat lo hi x ≤ hi := by
  unfold clampNat
  split
  · omega
  · split <;> omega

theorem clampProfile_fits (x : HeatArgs) : (clampProfile x).Fits :=
  ⟨(clampNat_bounds x.maxLevel (by omega)).1, (clampNat_bounds x.maxLevel (by omega)).2,
    (clampNat_bounds x.quietCap (by omega)).1, (clampNat_bounds x.quietCap (by omega)).2⟩

theorem defaultProfile_fits : defaultProfile.Fits := by
  unfold HeatProfile.Fits
  decide

/-- A new profile that fits (R80). -/
theorem applyProfile_fits {p : HeatProfile} (q : Bool) (hp : p.Fits) (hf : h.Fits) : (applyProfile p q h).1.Fits := by
  have applied : ({ h with profile := p, sc := min h.sc p.mHi } : Htr).Fits := ⟨hp, hf.2⟩
  unfold applyProfile
  dsimp only
  split
  · exact recap_fits q (setFrostFlag_fits false applied)
  · exact recap_fits q applied

theorem heatSet_fits (x : HeatArgs) (q : Bool) (hf : h.Fits) : (heatSet x q h).1.Fits := by
  unfold heatSet
  split
  · exact applyProfile_fits q (clampProfile_fits x) hf
  · exact hf

/-- A new table of four levels (R76). -/
theorem writeTable_fits {t : List LevelRow} (ht : t.length = 4) (hf : h.Fits) : (writeTable t h).1.Fits := by
  obtain ⟨hp, htab, -⟩ := hf
  unfold writeTable
  split
  case h_4 => exact ⟨hp, htab, fun u hu => by cases hu; exact ht⟩
  all_goals exact ⟨hp, ht, by simp⟩

theorem tableWrite_fits (t : List LevelRow) (hf : h.Fits) : (tableWrite t h).1.Fits := by
  unfold tableWrite
  split
  · next hr =>
    simp only [tableInRange, Bool.and_eq_true, beq_iff_eq] at hr
    exact writeTable_fits hr.1.1 hf
  · exact hf

theorem clearLockout_fits (hf : h.Fits) : (clearLockout h).1.Fits := by
  unfold clearLockout
  split
  · exact goTo_fits _ .none _ hf
  · split <;> exact hf
  · exact hf

theorem heaterDefaults_fits (q : Bool) (hf : h.Fits) : (heaterDefaults q h).1.Fits :=
  writeTable_fits rfl (applyProfile_fits q defaultProfile_fits hf)

theorem applySetpoint_fits (p : Option Int) (hf : h.Fits) : (applySetpoint p h).Fits := by
  cases p <;> exact hf

theorem heaterAction_fits (a : Action) (p : Option Int) (s : State) (hf : s.htr.Fits) : (heaterAction a p s).1.Fits := by
  unfold heaterAction
  split
  · exact requestStart_fits _ s (applySetpoint_fits p hf)
  · exact stopHeater_fits _ hf

end Heater

/-- No event takes HTR's profile and tables out of shape. -/
theorem htrHandle_fits (e : HtrEv) (s : State) (hf : s.htr.Fits) : (htrHandle e s).1.Fits := by
  cases e with
  | measured r => exact heaterMeasured_fits r s hf
  | second => exact hf
  | precheckExpiry => exact startExpiry_fits _ _ hf
  | preheatExpiry => exact startExpiry_fits _ _ hf
  | igniteExpiry => exact igniteExpiry_fits hf
  | rampExpiry => exact rampExpiry_fits _ hf
  | controlPeriod => exact controlPeriod_fits _ hf
  | idleStop => exact idleStop_fits hf
  | flameOut =>
    simp only [htrHandle, flameOutEvent]
    split
    · exact flameOut_fits hf
    · exact hf
  | purgeMinimum =>
    simp only [htrHandle, purgeMinimum]
    split
    · exact endPurge_fits hf
    · exact hf
  | purgeTimeout => exact purgeTimeout_fits hf
  | fixedPurge =>
    simp only [htrHandle, fixedPurge]
    split
    · exact endPurge_fits hf
    · exact hf
  | frostRetry =>
    simp only [htrHandle, frostRetry]
    split <;> exact hf
  | frostStart => exact frostEvent_fits s hf
  | grant level b => exact heaterGrant_fits level _ hf
  | quiet => exact recap_fits _ hf
  | start => exact requestStart_fits _ s hf
  | stop => exact stopHeater_fits _ hf
  | set x => exact heatSet_fits x _ hf
  | tableRead => exact hf
  | tableWrite t => exact tableWrite_fits t hf
  | clearLockout => exact clearLockout_fits hf
  | defaults => exact heaterDefaults_fits _ hf
  | act a p => exact heaterAction_fits a p s hf

end Sys2Proof.Machine

/-! The settings in use keep their shape, continued: CLR, LGT, RPQ, CHG's lists and the store, then a delivery and a reset. -/

namespace Sys2Proof.Machine

/-! ### CLR: its settings change only with COOL_SET, its actions and the defaults -/

@[simp] theorem stopCompressor_settings (c : Clr) : (stopCompressor c).settings = c.settings := rfl

@[simp] theorem driveSpeed_settings (c : Clr) (q : Bool) : (driveSpeed c q).settings = c.settings := by
  unfold driveSpeed
  split <;> rfl

@[simp] theorem settleCooler_settings (c : Clr) (q : Bool) : (settleCooler c q).settings = c.settings := by
  unfold settleCooler
  split <;> rfl

@[simp] theorem stopAndSettle_settings (c : Clr) (q : Bool) : (stopAndSettle c q).settings = c.settings := by
  simp [stopAndSettle]

@[simp] theorem clearStalls_settings (c : Clr) : (clearStalls c).settings = c.settings := by
  unfold clearStalls
  split <;> rfl

@[simp] theorem stallCooler_settings (c : Clr) : (stallCooler c).settings = c.settings := by
  unfold stallCooler
  dsimp only
  split <;> simp

@[simp] theorem closeEvent_settings (c : Clr) (q : Bool) (r : CoolerReason) : (closeEvent c q r).1.settings = c.settings := by
  unfold closeEvent endQuietRun
  dsimp only
  split
  · split
    · simp
    · split
      · simp
      · split <;> simp
  all_goals simp

@[simp] theorem handCooler_settings (s : State) (o n : Clr) (ms : List Msg) :
    (handCooler s o n ms).1.settings = n.settings := by
  simp only [handCooler, dropWarm]
  split <;> rfl

@[simp] theorem handChange_settings (s : State) (o n : Clr) (r : CoolerReason) :
    (handChange s o n r).1.settings = n.settings := handCooler_settings _ _ _ _

@[simp] theorem stallAtStart_settings (s : State) (o : Clr) (f : Clr × List Msg) :
    (stallAtStart s o f).1.settings = f.1.settings := by
  unfold stallAtStart
  dsimp only
  split <;> simp

@[simp] theorem conclude_settings (s : State) (o n : Clr) (r : CoolerReason) : (conclude s o n r).1.settings = n.settings := by
  simp [conclude]

@[simp] theorem concludeBlind_settings (s : State) (o m : Clr) : (concludeBlind s o m).1.settings = m.settings := by
  simp [concludeBlind]

@[simp] theorem cabinetReading_settings (c : Clr) (t : Option Int) : (cabinetReading c t).settings = c.settings := by
  unfold cabinetReading
  split <;> split <;> rfl

@[simp] theorem raiseWarm_settings (c : Clr) (t : Option Int) : (raiseWarm c t).1.settings = c.settings := by
  unfold raiseWarm
  split <;> rfl

@[simp] theorem warmWatch_settings (c : Clr) (dt : Nat) (t : Option Int) : (warmWatch c dt t).1.settings = c.settings := by
  unfold warmWatch
  split
  · rfl
  · split
    · rfl
    · split
      · simp
      · split <;> rfl

@[simp] theorem coolerMeasured_settings (dt : Nat) (t : Option Int) (s : State) :
    (coolerMeasured dt t s).1.settings = s.clr.settings := by
  simp only [coolerMeasured, warmWatch_settings]
  split <;> simp

@[simp] theorem coolerGrant_settings (n : Nat) (b : Budget) (s : State) :
    (coolerGrant n b s).1.settings = s.clr.settings := by
  unfold coolerGrant
  dsimp only
  split
  · split <;> simp
  · split <;> simp
  · simp

@[simp] theorem coolerQuiet_settings (b : Bool) (s : State) : (coolerQuiet b s).1.settings = s.clr.settings := by
  unfold coolerQuiet
  dsimp only
  split <;> cases b <;> simp

theorem coolerExpiry_settings (b : Bool) {f : Clr → Clr} (r : CoolerReason) (s : State)
    (hf : ∀ c : Clr, (f c).settings = c.settings) : (coolerExpiry b f r s).1.settings = s.clr.settings := by
  unfold coolerExpiry
  split <;> simp [hf]

@[simp] theorem applyCool_settings (p : CoolSettings) (r : CoolerReason) (s : State) :
    (applyCool p r s).1.settings = p := by
  simp only [applyCool, conclude_settings, driveSpeed_settings]
  unfold actEnable
  split <;> (try split) <;> rfl

@[simp] theorem coolSetpoint_currents (x : Option Int) (p : CoolSettings) : (coolSetpoint x p).currents = p.currents := by
  cases x <;> rfl

theorem coolSet_fits (x : CoolArgs) (s : State) (hf : s.clr.settings.currents.length = 3) :
    (coolSet x s).1.settings.currents.length = 3 := by
  unfold coolSet
  split
  · next hr =>
    simp only [coolInRange, Bool.and_eq_true, beq_iff_eq] at hr
    simpa [clampCool] using hr.1.2
  · exact hf

theorem coolerAction_fits (a : Action) (p : Option Int) (s : State) (hf : s.clr.settings.currents.length = 3) :
    (coolerAction a p s).1.settings.currents.length = 3 := by
  unfold coolerAction
  dsimp only
  split
  · split <;> simpa using hf
  · simpa using hf
  · split <;> exact hf

/-- No event leaves CLR with other than three level currents (R98). -/
theorem clrHandle_fits (e : ClrEv) (s : State) (hf : s.clr.settings.currents.length = 3) :
    (clrHandle e s).1.settings.currents.length = 3 := by
  have expiry : ∀ b (f : Clr → Clr) r, (∀ c : Clr, (f c).settings = c.settings) →
      (coolerExpiry b f r s).1.settings.currents.length = 3 := fun b f r h => by rw [coolerExpiry_settings b r s h]; exact hf
  cases e with
  | measured dt t => simpa [clrHandle] using hf
  | second => exact hf
  | minOnExpiry | minOffExpiry | quietRunEnd | blindRunEnd | pauseExpiry | backoffExpiry | blindOffExpiry =>
    simp only [clrHandle]
    exact expiry _ _ _ fun _ => rfl
  | stallClear => simpa [clrHandle] using hf
  | compFault b =>
    simp only [clrHandle, compFaultEvent]
    split
    · exact hf
    · split <;> simpa using hf
  | minuteExpiry =>
    simp only [clrHandle, minuteEvent]
    split <;> simpa using hf
  | warmRaise => simpa [clrHandle] using hf
  | grant n b => simpa [clrHandle] using hf
  | quiet b => simpa [clrHandle] using hf
  | restClosed => exact hf
  | set x => exact coolSet_fits x s hf
  | defaults => simp [clrHandle, defaultCooler]
  | act a p => exact coolerAction_fits a p s hf

/-! ### LGT: groups, scenes and full currents -/

/-- LGT with four groups, twelve scenes and eight full currents (R110 to R112). -/
def Lgt.Fits (l : Lgt) : Prop := l.groups.length = 4 ∧ l.fullCurrents.length = 8 ∧ l.scenes.length = 12

/-- LGT's settings without the door and the buttons. -/
theorem Lgt.Fits.of_core {l l' : Lgt} (hc : l'.core = l.core) (hf : l.Fits) : l'.Fits := by
  have e : l'.groups = l.groups ∧ l'.scenes = l.scenes ∧ l'.fullCurrents = l.fullCurrents := by
    simp only [Lgt.core, Prod.mk.injEq] at hc
    obtain ⟨hg, hs, hfull, -⟩ := hc
    exact ⟨hg, hs, hfull⟩
  obtain ⟨hg, hs, hfull⟩ := e
  rw [Lgt.Fits, hg, hs, hfull]
  exact hf

theorem writeTarget_fits {l : Lgt} (k t d : Nat) (hf : l.Fits) : (writeTarget k t d l).Fits :=
  hf.of_core (writeTarget_core k t d l)

theorem writeHeld_fits {l : Lgt} (k : Nat) (b : Bool) (hf : l.Fits) : (writeHeld k b l).Fits := by
  unfold writeHeld
  split <;> exact hf

theorem foldl_writes_fits (f g : Nat → Nat) (b : Nat → Bool) (ks : List Nat) {l : Lgt} (hf : l.Fits) :
    (ks.foldl (fun l k => writeHeld k (b k) (writeTarget k (f k) (g k) l)) l).Fits := by
  induction ks generalizing l with
  | nil => exact hf
  | cons k ks ih => exact ih (writeHeld_fits k (b k) (writeTarget_fits k (f k) (g k) hf))

theorem lightWrites_fits (x : LightArgs) {l : Lgt} (hf : l.Fits) : (lightWrites x l).Fits :=
  foldl_writes_fits (fun _ => x.target) (fun _ => x.fade) (fun _ => x.hold == 1) _ hf

theorem restoreFrame_fits (f : Frame) {l : Lgt} (hf : l.Fits) : (restoreFrame f l).Fits :=
  foldl_writes_fits (fun k => f.targets.getD k 0) (fun _ => 10) (fun k => f.helds.getD k false) _ hf

theorem withoutAnswer_fits (s : State) (ms : List Msg) {l : Lgt} (hf : l.Fits) : (withoutAnswer s l ms).1.Fits := hf

theorem withAnswer_fits (s : State) (ms : List Msg) (a : Msg) {l : Lgt} (hf : l.Fits) : (withAnswer s l ms a).1.Fits := hf

theorem applyItems_fits (is : List SceneItem) {l : Lgt} (hf : l.Fits) : (applyItems is l).1.Fits :=
  hf.of_core (applyItems_core is l)

theorem writeStep_fits (t d : Nat) {l : Lgt} (hf : l.Fits) : (writeStep t d l).Fits := by
  unfold writeStep
  split
  · exact hf
  · exact writeTarget_fits _ _ _ hf

theorem doorChanged_fits (b : Bool) {l : Lgt} (hf : l.Fits) : (doorChanged b l).Fits := by
  cases b
  · exact hf
  · exact writeStep_fits _ _ (l := { l with doorOpen := true, doorTimer := none }) hf

theorem setButton_fits (b : Button) (st : ButtonState) {l : Lgt} (hf : l.Fits) : (l.setButton b st).Fits := by
  cases b <;> exact hf

theorem buttonChanged_fits (b : Button) (p : Bool) {l : Lgt} (hf : l.Fits) : (buttonChanged b p l).Fits := by
  unfold buttonChanged
  split
  · exact setButton_fits _ _ hf
  · split
    · exact writeTarget_fits _ _ _ (setButton_fits _ _ hf)
    · exact setButton_fits _ _ hf

theorem longPressed_fits (b : Button) (s : State) {l : Lgt} (hf : l.Fits) : (longPressed b l s).1.Fits := by
  have taken := setButton_fits b .longTaken hf
  unfold longPressed
  dsimp only
  split
  · exact hf
  · split
    · split
      · exact taken
      · exact writeTarget_fits _ _ _ taken
    · exact applyItems_fits _ taken

theorem pushFrame_fits (o : FrameOwner) {l : Lgt} (hf : l.Fits) : (pushFrame o l).1.Fits := by
  unfold pushFrame
  dsimp only
  split <;> exact hf

theorem sceneRecall_fits (n : Nat) (s : State) (hf : s.lgt.Fits) : (sceneRecall n s).1.Fits := by
  unfold sceneRecall
  split
  · exact hf
  · split
    · exact hf
    · exact withAnswer_fits s _ _ (applyItems_fits _ hf)

/-- No event takes LGT's settings out of shape. The case left to the end is the recall of a scene: the name of its constructor is
a word of Lean's and cannot stand in a pattern. -/
theorem lgtHandle_fits (e : LgtEv) (s : State) (hf : s.lgt.Fits) : (lgtHandle e s).1.Fits := by
  by_cases h : e.grade ≤ 1
  · exact hf.of_core (deliver_lgt_core (.lgt e) s h)
  cases e with
  | fadeStep | flashStep | second => exact hf
  | door b =>
    simp only [lgtHandle]
    split
    · exact hf
    · exact withoutAnswer_fits s _ (doorChanged_fits b hf)
  | doorExpiry =>
    simp only [lgtHandle]
    split
    · exact withoutAnswer_fits s _ (writeStep_fits 0 30 (l := { s.lgt with doorTimer := none }) hf)
    · exact hf
  | button b p =>
    simp only [lgtHandle]
    split
    · exact hf
    · exact withoutAnswer_fits s _ (buttonChanged_fits b p hf)
  | longPress b => exact withoutAnswer_fits s _ (longPressed_fits b s hf)
  | set x =>
    simp only [lgtHandle]
    split
    · exact withAnswer_fits s _ _ (lightWrites_fits x hf)
    · exact hf
  | save => exact withAnswer_fits s _ _ (pushFrame_fits .host hf)
  | restore =>
    simp only [lgtHandle, lightRestore]
    split
    · exact hf
    · next f _ =>
      exact withAnswer_fits s _ _ (restoreFrame_fits f (l := { s.lgt with stack := removeTopHost s.lgt.stack }) hf)
  | groupSet g m =>
    simp only [lgtHandle]
    split
    · exact ⟨by simpa using hf.1, hf.2⟩
    · exact hf
  | channelSet cs q =>
    simp only [lgtHandle]
    split
    · next hr =>
      simp only [channelTableInRange, Bool.and_eq_true, beq_iff_eq] at hr
      exact ⟨hf.1, hr.1.1, hf.2.2⟩
    · exact hf
  | sceneStore n is =>
    simp only [lgtHandle]
    split
    · exact ⟨hf.1, hf.2.1, by simpa using hf.2.2⟩
    · exact hf
  | defaults => exact ⟨rfl, rfl, rfl⟩
  | grant | quiet | flashStart | flashCancel | act => exact absurd (by simp [LgtEv.grade]) h
  | _ => exact sceneRecall_fits _ s hf

/-! ### RPQ: the levels of the causes -/

theorem relevel_levels (c v : Nat) (q : Rpq) : (relevel c v q).levels = q.levels.set (c - 1) v := by
  unfold relevel
  dsimp only
  split <;> rfl

theorem foldl_relevel_length (f : Nat → Nat) (is : List Nat) (q : Rpq) :
    (is.foldl (fun q i => relevel (i + 1) (f i) q) q).levels.length = q.levels.length := by
  induction is generalizing q with
  | nil => rfl
  | cons i is ih => simp [ih, relevel_levels]

theorem levels_of_core {q q' : Rpq} (h : q'.core = q.core) : q'.levels = q.levels := congrArg Prod.fst h

/-- The conclusion of an event at RPQ leaves the levels. -/
theorem rpqHandle_levels (e : RpqEv) (s : State) : (rpqHandle e s).1.levels = (rpqEffect e s).1.levels :=
  levels_of_core (concludeReports_core _ _ _)

/-- No event changes the number of levels (R174). -/
theorem rpqHandle_levels_length (e : RpqEv) (s : State) : (rpqHandle e s).1.levels.length = s.rpq.levels.length := by
  rw [rpqHandle_levels]
  cases e with
  | post c d => exact congrArg List.length (levels_of_core (takePost_core c d s s.rpq))
  | gate g c =>
    simp only [rpqEffect, gateRequest]
    split <;> rfl
  | level c v =>
    simp only [rpqEffect, levelRequest]
    split
    · simp [relevel_levels]
    · rfl
  | settings m t =>
    simp only [rpqEffect, maskRequest]
    split <;> rfl
  | arm x =>
    simp only [rpqEffect, armRequest]
    split
    · rfl
    · split
      · rfl
      · split <;> rfl
  | free n =>
    simp only [rpqEffect, freeRequest]
    split <;> rfl
  | defaults => simp only [rpqEffect, defaultRelevel, foldl_relevel_length (fun i => defaultLevels.getD i 0)]
  | reportEnd | linkFree | clearMarks | read => rfl

end Sys2Proof.Machine

/-! The settings in use keep their shape, continued: CHG's lists and the store, then a delivery and a reset. -/

namespace Sys2Proof.Machine

/-! ### CHG: the OCV table and the trims -/

/-- CHG with six OCV voltages and six trims (R11, R5). -/
def Chg.ListsFit (c : Chg) : Prop := c.ocv.length = 6 ∧ c.trims.length = 6

theorem Chg.ListsFit.of_core {c c' : Chg} (hc : c'.core = c.core) (hf : c.ListsFit) : c'.ListsFit := by
  rw [Chg.eq_of_core hc]
  exact hf

/-- The floor state moved where the counters and IGN call for it, with the counters that do not run at 0 (R16). -/
def floorMoved (c : Chg) : Chg := if nextFloor c = c.floor then c else dropCounts { c with floor := nextFloor c }

/-- The charge steps and the floor counters of a measurement (R3, R16). -/
def measuredCounts (m : Samples) (s : State) : Chg :=
  floorCounts (measureCharge s.free m s.chg).1 (sampledVolts m.vbat) (sampledCurrent m.shunt)

/-- A measurement at CHG, but for the part mode. -/
theorem measure_core_moved (m : Samples) (s : State) :
    (measure m s).1.core = { floorMoved (measuredCounts m s) with interval := s.chg.mode.seconds }.core := by
  rw [measure_core]
  dsimp only
  unfold floorMoved measuredCounts
  split <;> rfl

theorem floorCounts_lists {c : Chg} (v : Nat) (i : Int) (hf : c.ListsFit) : (floorCounts c v i).ListsFit := hf

theorem floorMoved_lists {c : Chg} (hf : c.ListsFit) : (floorMoved c).ListsFit := by
  unfold floorMoved
  split <;> exact hf

theorem measureCharge_lists (free : Nat) (m : Samples) {c : Chg} (hf : c.ListsFit) :
    (measureCharge free m c).1.ListsFit := by
  obtain ⟨tm, tb, fg, e⟩ := measureCharge_eq free m c
  rw [e]
  exact hf

theorem measure_lists (m : Samples) (s : State) (hf : s.chg.ListsFit) : (measure m s).1.ListsFit := by
  have moved : (floorMoved (measuredCounts m s)).ListsFit := by
    refine floorMoved_lists ?_
    unfold measuredCounts
    exact floorCounts_lists _ _ (measureCharge_lists s.free m hf)
  refine Chg.ListsFit.of_core (measure_core_moved m s) ?_
  generalize floorMoved (measuredCounts m s) = c at moved ⊢
  exact moved

theorem reviewMode_lists {c : Chg} (s : State) (hf : c.ListsFit) : (reviewMode c s).1.ListsFit :=
  Chg.ListsFit.of_core (reviewMode_core c s) hf

theorem endDoze_lists {c : Chg} (hf : c.ListsFit) : (endDoze c).ListsFit := Chg.ListsFit.of_core (endDoze_core c) hf

theorem enterFloor_lists {c : Chg} (f : Floor) (s : State) (hf : c.ListsFit) : (enterFloor c f s).1.ListsFit := by
  refine Chg.ListsFit.of_core (c := if f = c.floor then c else dropCounts { c with floor := f }) ?_ ?_
  · rw [enterFloor_core]
    split <;> rfl
  · split <;> exact hf

theorem floorEvent_lists {c : Chg} (f : Floor) (s : State) (hf : c.ListsFit) : (floorEvent c f s).1.ListsFit := by
  unfold floorEvent
  split
  · exact hf
  · dsimp only
    exact reviewMode_lists s (enterFloor_lists f s hf)

theorem ignEvent_lists (on : Bool) (s : State) (hf : s.chg.ListsFit) : (ignEvent on s).1.ListsFit := by
  unfold ignEvent
  dsimp only
  split
  · exact hf
  · exact reviewMode_lists s (enterFloor_lists _ s (endDoze_lists (c := { s.chg with ign := on, hard := _ }) hf))

theorem handFigures_lists {c : Chg} (hf : c.ListsFit) : (handFigures c).1.ListsFit := by
  unfold handFigures
  split <;> exact hf

theorem chgRequest_lists {c : Chg} {ok : Bool} {apply : Chg → Chg} (ha : ok = true → (apply c).ListsFit) (hf : c.ListsFit) :
    (chgRequest ok apply c).1.ListsFit := by
  unfold chgRequest
  split
  · next hok => exact handFigures_lists (ha hok)
  · exact hf

theorem setBattery_lists {c : Chg} (p : BatteryParams) (hf : c.ListsFit) : (setBattery p c).ListsFit := by
  unfold setBattery
  split <;> exact hf

/-- No event takes CHG's OCV table or trims out of shape. -/
theorem chgHandle_lists (e : ChgEv) (s : State) (hf : s.chg.ListsFit) : (chgHandle e s).1.ListsFit := by
  cases e with
  | measure m => exact measure_lists m s hf
  | sensorValid n =>
    simp only [chgHandle, sensorValidEvent]
    split <;> exact hf
  | fullSync =>
    simp only [chgHandle, fullSync]
    split <;> exact hf
  | restCorrection =>
    simp only [chgHandle, restCorrectionEvent, restCorrection]
    split
    · split <;> exact hf
    · exact hf
  | lowLimit | hardLimit | clearLimit | chargeLimit => exact floorEvent_lists _ s hf
  | dozeExpiry =>
    simp only [chgHandle, dozeExpiry]
    split
    · split <;> exact hf
    · exact hf
  | ign on => exact ignEvent_lists on s hf
  | second => exact hf
  | review => exact reviewMode_lists s hf
  | wake => exact reviewMode_lists s (endDoze_lists hf)
  | stir => exact reviewMode_lists s (endDoze_lists hf)
  | batterySet p => exact chgRequest_lists (fun _ => setBattery_lists p hf) hf
  | chargeSet q => exact chgRequest_lists (fun _ => hf) hf
  | ocvSet l =>
    refine chgRequest_lists (fun hl => ?_) hf
    simp only [ocvInRange, Bool.and_eq_true, beq_iff_eq] at hl
    exact ⟨hl.1.1, hf.2⟩
  | sensorTrim n d =>
    simp only [chgHandle, setTrim]
    split
    · exact ⟨hf.1, by simpa using hf.2⟩
    · exact hf
  | defaults => exact handFigures_lists ⟨rfl, rfl⟩

/-! ### STO: the Settings area and the snapshot being saved -/

/-- The store with settings of the right shape in its area and in the save in progress. -/
def Sto.Fits (t : Sto) : Prop :=
  (∀ a, t.settingsArea = some a → settingsFit a.fields) ∧ ∀ x, t.saving = some x → settingsFit x

theorem requestWrite_fits (q : Nat) {t : Sto} (hf : t.Fits) : (requestWrite q t).Fits := by
  unfold requestWrite
  split <;> exact hf

theorem completeWrite_fits (q : Nat) {t : Sto} (hf : t.Fits) : (completeWrite q t).Fits := by
  unfold completeWrite
  dsimp only
  split
  · exact hf
  · split <;> exact hf

theorem completeSave_fits {t : Sto} (hf : t.Fits) : (completeSave t).Fits := by
  unfold completeSave
  split
  · exact hf
  · next x hx => exact ⟨fun a ha => by cases ha; exact hf.2 x hx, by simp⟩

/-- No event leaves settings out of shape in the store (R197, R198). -/
theorem stoHandle_fits (e : StoEv) (s : State) (hw : settingsFit (workingSettings s)) (hf : s.sto.Fits) :
    (stoHandle e s).1.Fits := by
  cases e with
  | heater k => exact requestWrite_fits _ (t := { s.sto with items := k }) hf
  | writeState => exact requestWrite_fits _ hf
  | saveComplete => exact completeSave_fits hf
  | writeComplete => exact completeWrite_fits _ hf
  | hourlyExpiry =>
    simp only [stoHandle]
    split
    · exact requestWrite_fits _ (t := { s.sto with hourly := 3600 }) hf
    · exact hf
  | second => exact hf
  | save =>
    simp only [stoHandle, saveRequest]
    split
    · exact hf
    · exact ⟨by simp, fun x hx => by cases hx; exact hw⟩
  | defaults => exact hf
  | restart =>
    simp only [stoHandle, restartRequest]
    split
    · exact hf
    · exact requestWrite_fits s.chg.q hf

/-! ### The invariant, block by block -/

theorem settingsInv_iff (s : State) :
    settingsInv s ↔ s.chg.ListsFit ∧ s.htr.Fits ∧ s.clr.settings.currents.length = 3 ∧ s.lgt.Fits ∧
      s.rpq.levels.length = 33 ∧ s.sto.Fits := by
  simp only [settingsInv, settingsFit, workingSettings, Chg.ListsFit, Htr.Fits, HeatProfile.Fits, Lgt.Fits, Sto.Fits]
  constructor
  · rintro ⟨⟨hocv, htrims, htable, hclr, hgroups, hfull, hscenes, hlevels, hprofile⟩, hpending, harea, hsaving⟩
    exact ⟨⟨hocv, htrims⟩, ⟨hprofile, htable, hpending⟩, hclr, ⟨hgroups, hfull, hscenes⟩, hlevels, harea, hsaving⟩
  · rintro ⟨⟨hocv, htrims⟩, ⟨hprofile, htable, hpending⟩, hclr, ⟨hgroups, hfull, hscenes⟩, hlevels, harea, hsaving⟩
    exact ⟨⟨hocv, htrims, htable, hclr, hgroups, hfull, hscenes, hlevels, hprofile⟩, hpending, harea, hsaving⟩

/-- Every delivery keeps the settings in their shape. -/
theorem deliver_settingsInv (m : Msg) (s : State) (h : settingsInv s) : settingsInv (deliver m s).1 := by
  have hw := h.1
  rw [settingsInv_iff] at h ⊢
  obtain ⟨hchg, hhtr, hclr, hlgt, hrpq, hsto⟩ := h
  cases m with
  | chg e => exact ⟨chgHandle_lists e s hchg, hhtr, hclr, hlgt, hrpq, hsto⟩
  | htr e => exact ⟨hchg, htrHandle_fits e s hhtr, hclr, hlgt, hrpq, hsto⟩
  | clr e => exact ⟨hchg, hhtr, clrHandle_fits e s hclr, hlgt, hrpq, hsto⟩
  | lgt e => exact ⟨hchg, hhtr, hclr, lgtHandle_fits e s hlgt, hrpq, hsto⟩
  | rpq e => exact ⟨hchg, hhtr, hclr, hlgt, (rpqHandle_levels_length e s).trans hrpq, hsto⟩
  | sto e => exact ⟨hchg, hhtr, hclr, hlgt, hrpq, stoHandle_fits e s hw hsto⟩
  | dmd e | rcl e | sch e | alr e | lnk e => exact ⟨hchg, hhtr, hclr, hlgt, hrpq, hsto⟩

theorem defaultSettings_fit : settingsFit defaultSettings := by
  unfold settingsFit
  decide

/-- The settings in use after a reset are those of a valid area or the defaults (R200). -/
theorem usedSettings_fit {t : Sto} (hf : t.Fits) : settingsFit (usedSettings t) := by
  unfold usedSettings readSettings
  split
  · next a ha =>
    split
    · exact hf.1 a ha
    · exact defaultSettings_fit
  · exact defaultSettings_fit

/-- A reset keeps the settings in their shape. -/
theorem blocksAtReset_settingsInv (pins : Pins) (s : State) (h : settingsInv s) : settingsInv (blocksAtReset pins s) := by
  obtain ⟨-, -, -, -, -, hsto⟩ := (settingsInv_iff s).mp h
  exact ⟨usedSettings_fit hsto, fun t ht => by simp [blocksAtReset, Htr.atReset] at ht, hsto.1,
    fun x hx => by simp [blocksAtReset, Sto.atReset] at hx⟩

end Sys2Proof.Machine

/-! O57: every step keeps the charge within its range. -/

namespace Sys2Proof.Machine

/-! ### The invariant of CHG in its parts -/

/-- The counted charge, the residue and the two counts within their limits (R8 to R10). -/
def Chg.ChargeFits (c : Chg) : Prop :=
  c.q ≤ c.battery.cNom ∧ -360 < c.r ∧ c.r < 360 ∧ c.syncCount ≤ 60 ∧ c.restTime < 1800

/-- V, I and the figures come together (R26). -/
def Chg.FiguresFit (c : Chg) : Prop := (c.v = none ↔ c.figures = none) ∧ (c.v = none ↔ c.i = none)

/-- The floor counters below their limits, and 0 where they do not run (R16). -/
def Chg.CountersFit (c : Chg) : Prop :=
  (c.floor ≠ .clear → c.low = 0) ∧ (c.floor = .cutoff → c.hard = 0) ∧ (c.floor ≠ .critical → c.clearCnt = 0) ∧
    (c.floor ≠ .cutoff → c.charge = 0) ∧ c.low < 10 ∧ c.hard < 10 ∧ c.clearCnt < 60 ∧ c.charge < 30

/-- An input VALID with a run of three in-range samples, and otherwise with a shorter one (R6). -/
def TempInput.Fits (x : TempInput) : Prop := if x.cond = .valid then x.run = 3 ∧ x.value ≠ none else x.run < 3

/-- The six inputs with the runs of their conditions (R6). -/
def Chg.TempsFit (c : Chg) : Prop := c.temps.length = 6 ∧ ∀ x ∈ c.temps, x.Fits

/-- What CHG keeps, but for the part mode. -/
def Chg.CoreFits (c : Chg) : Prop := c.ChargeFits ∧ c.FiguresFit ∧ c.CountersFit ∧ c.TempsFit

/-- HIBERNATE in CUTOFF only, the doze timer in ACTIVE only (R19, R21). -/
def Chg.ModeFits (c : Chg) : Prop := (c.mode = .hibernate → c.floor = .cutoff) ∧ (c.mode ≠ .active → c.doze = none)

theorem chargeInv_iff (s : State) : chargeInv s ↔ settingsInv s ∧ s.chg.CoreFits ∧ s.chg.ModeFits := by
  simp only [chargeInv, Chg.CoreFits, Chg.ChargeFits, Chg.FiguresFit, Chg.CountersFit, Chg.TempsFit, Chg.ModeFits,
    TempInput.Fits]
  constructor
  · rintro ⟨hset, hq, hr, hr', hhib, hdoze, hsync, hrest, hfig, hi, hlow, hhard, hclear, hcharge, hlow', hhard', hclear',
      hcharge', htemps⟩
    exact ⟨hset, ⟨⟨hq, hr, hr', hsync, hrest⟩, ⟨hfig, hi⟩,
      ⟨hlow, hhard, hclear, hcharge, hlow', hhard', hclear', hcharge'⟩, htemps⟩, hhib, hdoze⟩
  · rintro ⟨hset, ⟨⟨hq, hr, hr', hsync, hrest⟩, ⟨hfig, hi⟩,
      ⟨hlow, hhard, hclear, hcharge, hlow', hhard', hclear', hcharge'⟩, htemps⟩, hhib, hdoze⟩
    exact ⟨hset, hq, hr, hr', hhib, hdoze, hsync, hrest, hfig, hi, hlow, hhard, hclear, hcharge, hlow', hhard', hclear',
      hcharge', htemps⟩

theorem Chg.CoreFits.of_core {c c' : Chg} (hc : c'.core = c.core) (hf : c.CoreFits) : c'.CoreFits := by
  rw [Chg.eq_of_core hc]
  exact hf

theorem reviewMode_coreFits {c : Chg} (s : State) (hf : c.CoreFits) : (reviewMode c s).1.CoreFits :=
  Chg.CoreFits.of_core (reviewMode_core c s) hf

theorem endDoze_coreFits {c : Chg} (hf : c.CoreFits) : (endDoze c).CoreFits := Chg.CoreFits.of_core (endDoze_core c) hf

/-! ### The count (R7 to R12) -/

/-- Division toward zero (R1), by the sign of the dividend. -/
theorem tdiv_cases (a n : Int) :
    (0 ≤ a ∧ a.tdiv n = a / n) ∨ (a < 0 ∧ a.tdiv n = -(-a / n)) := by
  rcases lt_or_ge a 0 with h | h
  · refine .inr ⟨h, ?_⟩
    rw [← Int.tdiv_eq_ediv_of_nonneg (by omega), Int.neg_tdiv, neg_neg]
  · exact .inl ⟨h, Int.tdiv_eq_ediv_of_nonneg h⟩

theorem moveCharge_fits (cNom q : Nat) (r : Int) :
    (moveCharge cNom q r).1 ≤ cNom ∧ -360 < (moveCharge cNom q r).2 ∧ (moveCharge cNom q r).2 < 360 := by
  have residue : -360 < r - r.tdiv 360 * 360 ∧ r - r.tdiv 360 * 360 < 360 := by
    have := tdiv_cases r 360
    omega
  unfold moveCharge
  dsimp only
  split
  · simp
  · split
    · simp
    · exact ⟨by omega, residue⟩

theorem socFrom_le (v : Nat) : ∀ (s : Nat) (l : List Nat), socFrom v s l ≤ s + 200 * (l.length - 1)
  | s, [] => by simp [socFrom]
  | s, [a] => by simp [socFrom]
  | s, a :: b :: l => by
    unfold socFrom
    split
    · have part : (v - a) * 200 / (b - a) ≤ 200 := Nat.div_le_of_le_mul (Nat.mul_le_mul_right 200 (by omega))
      simp only [List.length_cons]
      omega
    · have := socFrom_le v (s + 200) (b :: l)
      simp only [List.length_cons] at *
      omega

/-- The state of charge is at most 1000 permille (R11). -/
theorem socOf_le {ocv : List Nat} (v : Nat) (h : ocv.length = 6) : socOf ocv v ≤ 1000 := by
  unfold socOf
  split
  · omega
  · have := socFrom_le v 0 ocv
    omega

/-- A correction moves Q towards a charge within C_nom (R12). -/
theorem correctedCharge_le {cNom q : Nat} {ocv : List Nat} (v : Nat) (h : ocv.length = 6) (hq : q ≤ cNom) :
    correctedCharge cNom ocv q v ≤ cNom := by
  have target : cNom * socOf ocv v / 1000 ≤ cNom :=
    Nat.div_le_of_le_mul (by rw [Nat.mul_comm 1000]; exact Nat.mul_le_mul_left cNom (socOf_le v h))
  unfold correctedCharge divT
  generalize cNom * socOf ocv v / 1000 = x at target ⊢
  have := tdiv_cases ((x : Int) - q) 4
  omega

theorem fullSync_chargeFits {c : Chg} (hf : c.ChargeFits) : (fullSync c).1.ChargeFits := by
  unfold fullSync
  split
  · obtain ⟨-, -, -, hsync, hrest⟩ := hf
    exact ⟨le_refl _, by simp, by simp, hsync, hrest⟩
  · exact hf

theorem syncStep_chargeFits {c : Chg} (v : Nat) (i : Int) (hf : c.ChargeFits) : (syncStep c v i).1.ChargeFits := by
  obtain ⟨hq, hr, hr', -, hrest⟩ := hf
  unfold syncStep
  split
  · exact fullSync_chargeFits ⟨hq, hr, hr', Nat.min_le_left _ _, hrest⟩
  · exact ⟨hq, hr, hr', Nat.zero_le _, hrest⟩

theorem restCorrection_chargeFits {c : Chg} (v : Nat) (h : c.ocv.length = 6) (hq : c.q ≤ c.battery.cNom)
    (hr : -360 < c.r) (hr' : c.r < 360) (hsync : c.syncCount ≤ 60) : (restCorrection c v).ChargeFits := by
  unfold restCorrection
  split
  · exact ⟨correctedCharge_le v h hq, hr, hr', hsync, Nat.zero_lt_succ _⟩
  · next hrest => exact ⟨hq, hr, hr', hsync, by omega⟩

theorem restStep_chargeFits {c : Chg} (v : Nat) (i : Int) (dt : Nat) (h : c.ocv.length = 6) (hf : c.ChargeFits) :
    (restStep c v i dt).ChargeFits := by
  obtain ⟨hq, hr, hr', hsync, -⟩ := hf
  exact restCorrection_chargeFits v h hq hr hr' hsync

/-- The charge steps of a measurement keep the charge in its range. -/
theorem measureCharge_chargeFits (free : Nat) (m : Samples) {c : Chg} (h : c.ocv.length = 6) (hf : c.ChargeFits) :
    (measureCharge free m c).1.ChargeFits := by
  obtain ⟨-, -, -, hsync, hrest⟩ := hf
  obtain ⟨hq, hr, hr'⟩ := moveCharge_fits c.battery.cNom c.q
    (c.r + contribution (sampledCurrent m.shunt) c.interval c.battery.e)
  rw [measureCharge_steps]
  refine restStep_chargeFits _ _ _ ?_ (syncStep_chargeFits _ _ ⟨hq, hr, hr', hsync, hrest⟩)
  rw [syncStep_eq]
  exact h

theorem restCorrection_fits {c : Chg} (v : Nat) (h : c.ocv.length = 6) (hf : c.CoreFits) : (restCorrection c v).CoreFits := by
  obtain ⟨⟨hq, hr, hr', hsync, -⟩, rest⟩ := hf
  refine ⟨restCorrection_chargeFits v h hq hr hr' hsync, ?_⟩
  unfold restCorrection
  split <;> exact rest

theorem fullSync_fits {c : Chg} (hf : c.CoreFits) : (fullSync c).1.CoreFits := by
  obtain ⟨hcharge, rest⟩ := hf
  refine ⟨fullSync_chargeFits hcharge, ?_⟩
  unfold fullSync
  split <;> exact rest

/-! ### The inputs (R6) -/

/-- A run of three makes an input VALID, with its latest sample as its value. -/
theorem completeRun_fits (n : Nat) {t : TempInput} (hv : t.cond ≠ .valid) (hr : t.run ≤ 3) (hs : t.sample ≠ none) :
    (completeRun n t).1.Fits := by
  unfold completeRun TempInput.Fits
  split
  · next h => exact ⟨by dsimp only; omega, hs⟩
  · next h =>
    have : ¬3 ≤ t.run := fun hc => h ⟨hv, hc⟩
    dsimp only
    omega

theorem sampleInput_fits (free n : Nat) (x : Option Int) {t : TempInput} (hf : t.Fits) : (sampleInput free n x t).1.Fits := by
  unfold TempInput.Fits at hf
  unfold sampleInput
  split
  · next v _ =>
    by_cases hc : t.cond = .valid
    · rw [if_pos hc] at hf
      simp [hc, TempInput.Fits, hf.1]
    · rw [if_neg hc] at hf ⊢
      exact completeRun_fits n hc hf (by simp)
  · simp [TempInput.Fits]

theorem sampleInputs_fits (free n : Nat) (xs : List (Option Int)) (ts : List TempInput) (hf : ∀ t ∈ ts, t.Fits) :
    (sampleInputs free n xs ts).1.length = ts.length ∧ ∀ t ∈ (sampleInputs free n xs ts).1, t.Fits := by
  induction xs generalizing n ts with
  | nil => exact ⟨rfl, hf⟩
  | cons x xs ih =>
    cases ts with
    | nil => exact ⟨rfl, hf⟩
    | cons t ts =>
      obtain ⟨hl, hall⟩ := ih (n + 1) ts fun u hu => hf u (List.mem_cons_of_mem t hu)
      simp only [sampleInputs, List.length_cons, hl, List.forall_mem_cons]
      exact ⟨trivial, sampleInput_fits free n x (hf t List.mem_cons_self), hall⟩

/-- What a measurement leaves at the inputs. -/
theorem measureCharge_temps (free : Nat) (m : Samples) (c : Chg) :
    (measureCharge free m c).1.temps = (sampleInputs free 0 (trimmedSamples m c.trims) c.temps).1 := by
  simp only [measureCharge_steps, refigure, restStep_eq, syncStep_eq, countCharge]

/-- A measurement leaves V, I and figures. -/
theorem measureCharge_figuresFit (free : Nat) (m : Samples) (c : Chg) : (measureCharge free m c).1.FiguresFit := by
  simp [Chg.FiguresFit, measureCharge_steps, refigure, restStep_eq, syncStep_eq, countCharge]

theorem sensorValidEvent_fits (n : Nat) {c : Chg} (hf : c.CoreFits) : (sensorValidEvent n c).1.CoreFits := by
  obtain ⟨hcharge, hfig, hcount, hlen, htemps⟩ := hf
  unfold sensorValidEvent
  split
  · next t ht =>
    have htf := htemps t (List.mem_of_getElem? ht)
    have stays : (completeRun n t).1 = t := by
      unfold TempInput.Fits at htf
      unfold completeRun
      split
      · next h =>
        rw [if_neg h.1] at htf
        omega
      · rfl
    refine ⟨hcharge, hfig, hcount, by simpa using hlen, fun x hx => ?_⟩
    rcases List.mem_or_eq_of_mem_set hx with h | rfl
    · exact htemps x h
    · rw [stays]
      exact htf
  · exact ⟨hcharge, hfig, hcount, hlen, htemps⟩

/-! ### The floor counters (R16) -/

theorem dropCounts_countersFit (f : Floor) {c : Chg} (hf : c.CountersFit) : (dropCounts { c with floor := f }).CountersFit := by
  obtain ⟨-, -, -, -, hlow, hhard, hclear, hcharge⟩ := hf
  cases f <;> simp [Chg.CountersFit, dropCounts, hlow, hhard, hclear, hcharge]

/-- The counters that do not run in the floor state are 0 (R16). -/
def Chg.CountersStill (c : Chg) : Prop :=
  (c.floor ≠ .clear → c.low = 0) ∧ (c.floor = .cutoff → c.hard = 0) ∧ (c.floor ≠ .critical → c.clearCnt = 0) ∧
    (c.floor ≠ .cutoff → c.charge = 0)

theorem floorCounts_still (c : Chg) (v : Nat) (i : Int) : (floorCounts c v i).CountersStill := by
  refine ⟨?_, ?_, ?_, ?_⟩ <;> intro h <;> simp only [floorCounts] at * <;> simp [h]

/-- In the floor state that the counters call for, each that runs there is below its limit. -/
theorem nextFloor_limits {c : Chg} (hs : c.CountersStill) :
    (nextFloor c = .clear → c.low < 10 ∧ c.hard < 10) ∧ (nextFloor c = .critical → c.hard < 10 ∧ c.clearCnt < 60) ∧
      (nextFloor c = .cutoff → c.charge < 30) := by
  obtain ⟨hlow, hhard, hclear, hcharge⟩ := hs
  unfold nextFloor
  split
  · next h =>
    have c0 := hclear (by simp [h])
    have ch0 := hcharge (by simp [h])
    split
    · simp [ch0]
    · split <;> simp <;> omega
  · next h =>
    have l0 := hlow (by simp [h])
    have ch0 := hcharge (by simp [h])
    split
    · simp [ch0]
    · split <;> simp <;> omega
  · next h =>
    have h0 := hhard h
    have c0 := hclear (by simp [h])
    split
    · simp [h0, c0]
    · next hn =>
      have : ¬30 ≤ c.charge := fun hc => hn (.inl hc)
      simp
      omega

/-- A counter that reaches its limit moves the floor state, and is 0 there. -/
theorem floorMoved_countersFit {c : Chg} (hs : c.CountersStill) : (floorMoved c).CountersFit := by
  obtain ⟨hclear, hcritical, hcutoff⟩ := nextFloor_limits hs
  unfold floorMoved
  split
  · next h =>
    obtain ⟨s1, s2, s3, s4⟩ := hs
    rw [h] at hclear hcritical hcutoff
    refine ⟨s1, s2, s3, s4, ?_⟩
    cases hf : c.floor <;> simp only [hf, ne_eq, reduceCtorEq, not_true, not_false_eq_true, true_implies, false_implies] at * <;>
      omega
  · generalize nextFloor c = f at *
    cases f <;> simp only [Chg.CountersFit, dropCounts, ne_eq, reduceCtorEq, not_true, not_false_eq_true, true_implies,
      false_implies, if_true, if_false, true_and] at * <;> omega

/-! ### Events at CHG -/

/-- The floor counters and a move of the floor state touch nothing else. -/
theorem floorMoved_floorCounts_fits {c : Chg} (v : Nat) (i : Int) (hcharge : c.ChargeFits) (hfig : c.FiguresFit)
    (htemps : c.TempsFit) : (floorMoved (floorCounts c v i)).CoreFits := by
  refine ⟨?_, ?_, floorMoved_countersFit (floorCounts_still c v i), ?_⟩ <;> unfold floorMoved <;> split
  · exact hcharge
  · exact hcharge
  · exact hfig
  · exact hfig
  · exact htemps
  · exact htemps

theorem measure_coreFits (m : Samples) (s : State) (h : s.chg.ocv.length = 6) (hf : s.chg.CoreFits) :
    (measure m s).1.CoreFits := by
  obtain ⟨hcharge, -, -, hlen, htemps⟩ := hf
  have temps : (measureCharge s.free m s.chg).1.TempsFit := by
    obtain ⟨hl, hall⟩ := sampleInputs_fits s.free 0 (trimmedSamples m s.chg.trims) s.chg.temps htemps
    rw [Chg.TempsFit, measureCharge_temps, hl]
    exact ⟨hlen, hall⟩
  have moved : (floorMoved (measuredCounts m s)).CoreFits := by
    unfold measuredCounts
    exact floorMoved_floorCounts_fits _ _ (measureCharge_chargeFits s.free m h hcharge)
      (measureCharge_figuresFit s.free m s.chg) temps
  refine Chg.CoreFits.of_core (measure_core_moved m s) ?_
  generalize floorMoved (measuredCounts m s) = c at moved ⊢
  exact moved

theorem enterFloor_coreFits {c : Chg} (f : Floor) (s : State) (hf : c.CoreFits) : (enterFloor c f s).1.CoreFits := by
  refine Chg.CoreFits.of_core (c := if f = c.floor then c else dropCounts { c with floor := f }) ?_ ?_
  · rw [enterFloor_core]
    split <;> rfl
  · split
    · exact hf
    · obtain ⟨hcharge, hfig, hcount, htemps⟩ := hf
      exact ⟨hcharge, hfig, dropCounts_countersFit f hcount, htemps⟩

theorem floorEvent_coreFits {c : Chg} (f : Floor) (s : State) (hf : c.CoreFits) : (floorEvent c f s).1.CoreFits := by
  unfold floorEvent
  split
  · exact hf
  · dsimp only
    exact reviewMode_coreFits s (enterFloor_coreFits f s hf)

theorem ignEvent_coreFits (on : Bool) (s : State) (hf : s.chg.CoreFits) : (ignEvent on s).1.CoreFits := by
  have changed : ({ s.chg with ign := on, hard := if on then s.chg.hard else 0 } : Chg).CoreFits := by
    obtain ⟨hcharge, hfig, ⟨hlow, hhard, hclear, hch, hlow', hhard', hclear', hch'⟩, htemps⟩ := hf
    exact ⟨hcharge, hfig, ⟨hlow, fun h => by simp [hhard h], hclear, hch, hlow', by dsimp only; split <;> omega, hclear', hch'⟩,
      htemps⟩
  unfold ignEvent
  dsimp only
  split
  · exact hf
  · exact reviewMode_coreFits s (enterFloor_coreFits _ s (endDoze_coreFits changed))

theorem handFigures_coreFits {c : Chg} (hf : c.CoreFits) : (handFigures c).1.CoreFits := by
  unfold handFigures
  split
  · exact hf
  · next f hfg =>
    obtain ⟨hcharge, ⟨hv, hi⟩, rest⟩ := hf
    exact ⟨hcharge, ⟨by simpa [refigure, hfg] using hv, hi⟩, rest⟩

theorem setBattery_coreFits {c : Chg} (p : BatteryParams) (hf : c.CoreFits) : (setBattery p c).CoreFits := by
  obtain ⟨⟨hq, hr, hr', hsync, hrest⟩, rest⟩ := hf
  unfold setBattery
  split
  · next h => exact ⟨⟨by rw [h]; exact hq, hr, hr', hsync, hrest⟩, rest⟩
  · exact ⟨⟨Nat.min_le_right _ _, by dsimp only; split <;> omega, by dsimp only; split <;> omega, by simp, hrest⟩, rest⟩

theorem setCharge_coreFits {c : Chg} {q : Nat} (h : q ≤ c.battery.cNom) (hf : c.CoreFits) : (setCharge q c).CoreFits := by
  obtain ⟨⟨-, -, -, -, hrest⟩, rest⟩ := hf
  exact ⟨⟨h, by simp [setCharge], by simp [setCharge], by simp [setCharge], hrest⟩, rest⟩

theorem chgRequest_coreFits {c : Chg} {ok : Bool} {apply : Chg → Chg} (ha : ok = true → (apply c).CoreFits)
    (hf : c.CoreFits) : (chgRequest ok apply c).1.CoreFits := by
  unfold chgRequest
  split
  · next hok => exact handFigures_coreFits (ha hok)
  · exact hf

/-- Every event keeps CHG's charge, figures, counters and inputs. -/
theorem chgHandle_coreFits (e : ChgEv) (s : State) (h : s.chg.ocv.length = 6) (hf : s.chg.CoreFits) :
    (chgHandle e s).1.CoreFits := by
  cases e with
  | measure m => exact measure_coreFits m s h hf
  | sensorValid n => exact sensorValidEvent_fits n hf
  | fullSync => exact fullSync_fits hf
  | restCorrection =>
    simp only [chgHandle, restCorrectionEvent]
    split
    · exact restCorrection_fits _ h hf
    · exact hf
  | lowLimit | hardLimit | clearLimit | chargeLimit => exact floorEvent_coreFits _ s hf
  | dozeExpiry =>
    simp only [chgHandle, dozeExpiry]
    split
    · split <;> exact hf
    · exact hf
  | ign on => exact ignEvent_coreFits on s hf
  | second => exact hf
  | review => exact reviewMode_coreFits s hf
  | wake => exact reviewMode_coreFits s (endDoze_coreFits hf)
  | stir => exact reviewMode_coreFits s (endDoze_coreFits hf)
  | batterySet p => exact chgRequest_coreFits (fun _ => setBattery_coreFits p hf) hf
  | chargeSet q => exact chgRequest_coreFits (fun hq => setCharge_coreFits (of_decide_eq_true hq) hf) hf
  | ocvSet l => exact chgRequest_coreFits (fun _ => hf) hf
  | sensorTrim n d =>
    simp only [chgHandle, setTrim]
    split <;> exact hf
  | defaults => exact handFigures_coreFits (setBattery_coreFits defaultBattery hf)

/-! ### The part mode (R19 to R21) -/

theorem modeFits_of_active {c : Chg} (h : c.mode = .active) : c.ModeFits := by simp [Chg.ModeFits, h]

theorem endDoze_mode_ne (c : Chg) : (endDoze c).mode ≠ .doze := by
  unfold endDoze
  split
  · simp
  · assumption

/-- A review leaves HIBERNATE in CUTOFF only, and the doze timer stopped outside ACTIVE, if it was. -/
theorem reviewMode_modeFits (c : Chg) (s : State) (h : c.mode ≠ .active → c.doze = none) : (reviewMode c s).1.ModeFits := by
  have toHibernate : hibernateConditions c s = true → ({ c with mode := .hibernate, doze := none } : Chg).ModeFits :=
    fun hh => ⟨fun _ => ((hibernateConditions_iff c s).mp hh).1, fun _ => rfl⟩
  unfold reviewMode
  split
  · next hm =>
    split
    · exact modeFits_of_active rfl
    · next hn =>
      have stays : c.floor = .cutoff := by
        by_contra hc
        exact hn (.inl hc)
      exact ⟨fun _ => stays, fun _ => h (by simp [hm])⟩
  · next hm =>
    split
    · next hh => exact toHibernate hh
    · exact modeFits_of_active hm
  · next hm =>
    split
    · next hh => exact toHibernate hh
    · split
      · exact ⟨fun hb => by simp [hm] at hb, fun _ => h (by simp [hm])⟩
      · exact modeFits_of_active (by simp [runDozeTimer, endDoze, hm])

theorem endDoze_doze {c : Chg} (h : c.mode ≠ .active → c.doze = none) :
    (endDoze c).mode ≠ .active → (endDoze c).doze = none := by
  unfold endDoze
  split
  · simp
  · exact h

theorem enterFloor_doze {c : Chg} (f : Floor) (s : State) (h : c.mode ≠ .active → c.doze = none) :
    (enterFloor c f s).1.mode ≠ .active → (enterFloor c f s).1.doze = none := by
  unfold enterFloor
  split
  · exact h
  · exact endDoze_doze (c := dropCounts { c with floor := f }) h

theorem floorEvent_modeFits (f : Floor) (s : State) (hf : s.chg.ModeFits) : (floorEvent s.chg f s).1.ModeFits := by
  unfold floorEvent
  split
  · exact hf
  · dsimp only
    exact reviewMode_modeFits _ s (enterFloor_doze f s hf.2)

/-- The charge steps of a measurement leave the part mode and the doze timer. -/
theorem measureCharge_mode (free : Nat) (m : Samples) (c : Chg) :
    (measureCharge free m c).1.mode = c.mode ∧ (measureCharge free m c).1.doze = c.doze := by
  obtain ⟨tm, tb, fg, e⟩ := measureCharge_eq free m c
  rw [e]
  exact ⟨rfl, rfl⟩

theorem measure_modeFits (m : Samples) (s : State) (hf : s.chg.ModeFits) : (measure m s).1.ModeFits := by
  obtain ⟨hmode, hdoze⟩ := measureCharge_mode s.free m s.chg
  refine reviewMode_modeFits _ s (enterFloor_doze _ s ?_)
  show (measureCharge s.free m s.chg).1.mode ≠ .active → (measureCharge s.free m s.chg).1.doze = none
  rw [hmode, hdoze]
  exact hf.2

theorem ignEvent_modeFits (on : Bool) (s : State) (hf : s.chg.ModeFits) : (ignEvent on s).1.ModeFits := by
  unfold ignEvent
  dsimp only
  split
  · exact hf
  · exact reviewMode_modeFits _ s (enterFloor_doze _ s (endDoze_doze hf.2))

theorem handFigures_modeFits {c : Chg} (hf : c.ModeFits) : (handFigures c).1.ModeFits := by
  unfold handFigures
  split <;> exact hf

theorem setBattery_modeFits {c : Chg} (p : BatteryParams) (hf : c.ModeFits) : (setBattery p c).ModeFits := by
  unfold setBattery
  split <;> exact hf

theorem chgRequest_modeFits {c : Chg} (ok : Bool) {apply : Chg → Chg} (ha : (apply c).ModeFits) (hf : c.ModeFits) :
    (chgRequest ok apply c).1.ModeFits := by
  unfold chgRequest
  split
  · exact handFigures_modeFits ha
  · exact hf

/-- Every event keeps HIBERNATE to CUTOFF and the doze timer to ACTIVE. -/
theorem chgHandle_modeFits (e : ChgEv) (s : State) (hf : s.chg.ModeFits) : (chgHandle e s).1.ModeFits := by
  cases e with
  | measure m => exact measure_modeFits m s hf
  | sensorValid n =>
    simp only [chgHandle, sensorValidEvent]
    split <;> exact hf
  | fullSync =>
    simp only [chgHandle, fullSync]
    split <;> exact hf
  | restCorrection =>
    simp only [chgHandle, restCorrectionEvent, restCorrection]
    split
    · split <;> exact hf
    · exact hf
  | lowLimit | hardLimit | clearLimit | chargeLimit => exact floorEvent_modeFits _ s hf
  | dozeExpiry =>
    simp only [chgHandle, dozeExpiry]
    split
    · split
      · next hh => exact ⟨fun _ => ((hibernateConditions_iff _ s).mp hh).1, fun _ => rfl⟩
      · exact ⟨nofun, fun _ => rfl⟩
    · exact hf
  | ign on => exact ignEvent_modeFits on s hf
  | second => exact ⟨hf.1, fun h => by simp [chgHandle, tick, hf.2 h]⟩
  | review => exact reviewMode_modeFits _ s hf.2
  | wake => exact reviewMode_modeFits _ s (endDoze_doze hf.2)
  | stir => exact reviewMode_modeFits _ s fun _ => rfl
  | batterySet p => exact chgRequest_modeFits _ (setBattery_modeFits p hf) hf
  | chargeSet q => exact chgRequest_modeFits _ (apply := setCharge q) hf hf
  | ocvSet l => exact chgRequest_modeFits _ (apply := fun c => { c with ocv := l }) hf hf
  | sensorTrim n d =>
    simp only [chgHandle, setTrim]
    split <;> exact hf
  | defaults => exact handFigures_modeFits (setBattery_modeFits defaultBattery hf)

/-! ### Deliveries, resets and steps -/

theorem deliver_chargeInv (m : Msg) (s : State) (h : chargeInv s) : chargeInv (deliver m s).1 := by
  obtain ⟨hset, hcore, hmode⟩ := (chargeInv_iff s).mp h
  refine (chargeInv_iff _).mpr ⟨deliver_settingsInv m s hset, ?_⟩
  have hocv : s.chg.ocv.length = 6 := ((settingsInv_iff s).mp hset).1.1
  cases m with
  | chg e => exact ⟨chgHandle_coreFits e s hocv hcore, chgHandle_modeFits e s hmode⟩
  | _ => exact ⟨hcore, hmode⟩

theorem usedCharge_le (t : Sto) (cNom : Nat) : usedCharge t cNom ≤ cNom := by
  unfold usedCharge
  cases readSaved t.stateArea with
  | none => exact Nat.div_le_self cNom 2
  | some x => exact Nat.min_le_right x.q cNom

theorem atReset_coreFits (x : Settings) (pins : Pins) {q : Nat} (h : q ≤ x.battery.cNom) :
    (Chg.atReset x q pins).CoreFits := by
  refine ⟨⟨h, by simp [Chg.atReset], by simp [Chg.atReset], by simp [Chg.atReset], by simp [Chg.atReset]⟩,
    by simp [Chg.FiguresFit, Chg.atReset], by simp [Chg.CountersFit, Chg.atReset], rfl, fun x hx => ?_⟩
  rw [List.eq_of_mem_replicate hx]
  simp [TempInput.Fits, startingInput]

theorem blocksAtReset_chargeInv (pins : Pins) (s : State) (h : chargeInv s) : chargeInv (blocksAtReset pins s) :=
  (chargeInv_iff _).mpr
    ⟨blocksAtReset_settingsInv pins s h.1, atReset_coreFits _ pins (usedCharge_le s.sto _), modeFits_of_active rfl⟩

/-- Settles O57: deliveries, resets, the event counter and the queue of commands each keep the invariant. -/
theorem stepKeepsTheCharge : Obligations.StepKeepsTheCharge := by
  intro s t h ht
  exact step_keeps (P := chargeInv) (fun _ h => h) deliver_chargeInv blocksAtReset_chargeInv (fun _ _ h => h) s t h ht

end Sys2Proof.Machine

/-! O13 and O55: the marks of a measurement as commands of their own, and the invariants of the reset state. -/

namespace Sys2Proof.Machine

/-! ### SENSOR_VALID, FULL_SYNC and REST_VOLTAGE_CORRECTION (R6, R9, R10, R12) -/

/-- A command that brings CHG an event, with what that event leaves at CHG and hands on. -/
theorem exec_chg {i : Instr} {e : ChgEv} {s : State} {c : Chg} {ms : List Msg} (he : exec i s = .next (event (.chg e) s))
    (h : chgHandle e (fresh s) = (c, ms)) : exec i s = .next (settle ms { fresh s with chg := c }) :=
  exec_settle he (by rw [deliver_chg, h])

/-- A command that brings CHG an event that does nothing there: only the event counter advances. -/
theorem exec_chg_idle {i : Instr} {e : ChgEv} {s : State} (he : exec i s = .next (event (.chg e) s))
    (h : chgHandle e (fresh s) = (s.chg, [])) : exec i s = .next (fresh s) :=
  exec_quiet he (by rw [deliver_chg, h]; rfl)

theorem completeRun_of_run {n : Nat} {x : TempInput} (hv : x.cond ≠ .valid) (hr : 3 ≤ x.run) :
    completeRun n x = ({ x with cond := .valid, value := x.sample },
      if x.cond = .faulted then [post 21 (u8 n ++ s16 (x.sample.getD 0))] else []) := by
  simp only [completeRun, if_pos (And.intro hv hr), msgsIf, beq_iff_eq]

theorem completeRun_of_not {n : Nat} {x : TempInput} (h : x.cond = .valid ∨ x.run < 3) : completeRun n x = (x, []) := by
  refine if_neg fun hc => ?_
  rcases h with h | h
  · exact hc.1 h
  · exact absurd hc.2 (by omega)

theorem set_getElem?_self {α : Type} {l : List α} {n : Nat} {x : α} (h : l[n]? = some x) : l.set n x = l := by
  obtain ⟨hn, rfl⟩ := List.getElem?_eq_some_iff.mp h
  exact List.set_getElem_self hn

/-- SENSOR_VALID (R6). -/
theorem exec_sensorValid {n : Nat} {x : TempInput} {s : State} (hx : s.chg.temps[n]? = some x) :
    (x.cond ≠ .valid → 3 ≤ x.run → exec (.sensorValid n) s = .next (settle
      (if x.cond = .faulted then [post 21 (u8 n ++ s16 (x.sample.getD 0))] else [])
      { fresh s with chg := { s.chg with temps := s.chg.temps.set n { x with cond := .valid, value := x.sample } } })) ∧
    (x.cond = .valid ∨ x.run < 3 → exec (.sensorValid n) s = .next (fresh s)) := by
  refine ⟨fun hv hr => exec_chg rfl ?_, fun h => exec_chg_idle rfl ?_⟩
  · simp only [chgHandle, sensorValidEvent, fresh_chg, hx, completeRun_of_run hv hr]
  · simp only [chgHandle, sensorValidEvent, fresh_chg, hx, completeRun_of_not h, set_getElem?_self hx]

/-- FULL_SYNC (R9). -/
theorem exec_fullSync (s : State) :
    (60 ≤ s.chg.syncCount → s.chg.syncDone = false →
      exec .fullSync s = .next (settle [post 22 (u32 s.chg.q)]
        { fresh s with chg := { s.chg with q := s.chg.battery.cNom, r := 0, synced := true, syncDone := true } })) ∧
    (s.chg.syncCount < 60 ∨ s.chg.syncDone = true → exec .fullSync s = .next (fresh s)) := by
  refine ⟨fun hc hd => exec_chg rfl (if_pos ⟨hc, hd⟩), fun h => exec_chg_idle rfl (if_neg fun hn => ?_)⟩
  rcases h with h | h
  · exact absurd hn.1 (by simpa using h)
  · exact absurd (hn.2.symm.trans h) (by simp)

theorem restCorrectionEvent_of_due {c : Chg} {v : Nat} (hv : c.v = some v) (hr : 1800 ≤ c.restTime) :
    restCorrectionEvent c = { c with q := correctedCharge c.battery.cNom c.ocv c.q v, restTime := 0 } := by
  simp only [restCorrectionEvent, restCorrection, hv, if_pos hr]

theorem restCorrectionEvent_of_not {c : Chg} (h : c.v = none ∨ c.restTime < 1800) : restCorrectionEvent c = c := by
  unfold restCorrectionEvent restCorrection
  split
  · next v hv =>
    rcases h with h | h
    · exact absurd (hv.symm.trans h) (by simp)
    · exact if_neg (by omega)
  · rfl

/-- REST_VOLTAGE_CORRECTION (R10, R12). -/
theorem exec_restVoltageCorrection (s : State) :
    (∀ v, s.chg.v = some v → 1800 ≤ s.chg.restTime →
      exec .restVoltageCorrection s = .next { fresh s with chg := { s.chg with
        q := correctedCharge s.chg.battery.cNom s.chg.ocv s.chg.q v, restTime := 0 } }) ∧
    (s.chg.v = none ∨ s.chg.restTime < 1800 → exec .restVoltageCorrection s = .next (fresh s)) := by
  refine ⟨fun v hv hr => ?_, fun h => exec_chg_idle rfl (congrArg (·, []) (restCorrectionEvent_of_not h))⟩
  rw [exec_chg rfl (congrArg (·, []) (restCorrectionEvent_of_due (c := s.chg) hv hr)), settle_nil]

/-- Settles O13: each of the three commands tests its condition on the state as it stands. -/
theorem chargeMarksActOnTheirCondition : Obligations.ChargeMarksActOnTheirCondition := by
  refine ⟨fun n x s hx => exec_sensorValid hx, fun n s hx => exec_chg_idle rfl ?_, exec_fullSync, exec_restVoltageCorrection⟩
  simp only [chgHandle, sensorValidEvent, fresh_chg, hx]

/-! ### The reset state -/

theorem reset_settingsInv : settingsInv State.reset :=
  ⟨defaultSettings_fit, fun t (ht : none = some t) => (nomatch ht), fun a (ha : none = some a) => (nomatch ha),
    fun x (hx : none = some x) => (nomatch hx)⟩

theorem reset_heaterInv : heaterInv State.reset := by
  refine ⟨reset_settingsInv, rfl, nofun, nofun, fun _ _ => rfl, ?_, fun _ => .inl rfl, fun _ => rfl, nofun, ?_, ?_, ?_, nofun⟩
  · rintro (h | h | h) <;> exact (nomatch h)
  · exact ⟨Nat.zero_le 3, Nat.zero_le 2⟩
  · exact ⟨Nat.zero_le 3, Nat.zero_le 2⟩
  · rintro w ⟨⟩
    exact ⟨Nat.zero_le 3, Nat.zero_le 2⟩

theorem reset_chargeInv : chargeInv State.reset :=
  (chargeInv_iff _).mpr
    ⟨reset_settingsInv, atReset_coreFits defaultSettings lowPins (by decide), modeFits_of_active rfl⟩

theorem reset_linkInv : linkInv State.reset :=
  ⟨rfl, rfl, Nat.zero_le 2, fun _ => rfl, nofun, nofun, nofun, Nat.zero_le _, Nat.zero_le _, Nat.zero_le _, Nat.zero_le _⟩

theorem reset_reportsInv : reportsInv State.reset :=
  ⟨by decide, by decide, by decide, by decide, rfl, by decide, Nat.zero_le _, rfl, rfl⟩

theorem reset_clockInv : clockInv State.reset :=
  ⟨⟨fun _ => .inl rfl, fun _ => rfl⟩, fun (h : false = true) => (nomatch h), fun (h : false = true) => (nomatch h),
    Nat.zero_le 64, le_refl 1, by decide, rfl, rfl, rfl, rfl⟩

/-- Settles O55: the invariants of HTR, CLR, CHG, RPQ, LNK, ALR and the rest clock, each on the fixed reset state. -/
theorem resetSatisfiesTheInvariants : Obligations.ResetSatisfiesTheInvariants := by
  refine ⟨reset_heaterInv, ?_, reset_chargeInv, reset_reportsInv, reset_linkInv, ?_, reset_clockInv⟩
  · exact ⟨rfl, fun _ => ⟨rfl, rfl⟩, nofun, nofun, Nat.zero_le 5, nofun, Nat.zero_le 60⟩
  · exact ⟨rfl, ⟨fun _ => rfl, fun _ => rfl⟩, nofun, ⟨fun _ => rfl, fun _ => rfl⟩, nofun, fun ⟨_, h⟩ => (nomatch h)⟩

end Sys2Proof.Machine

/-! O9 to O11: what a measurement counts, computes and reads (R3 to R15). -/

namespace Sys2Proof.Machine

/-! ### A measurement as a command -/

/-- What the charge steps of a measurement leave at CHG, on the event counter it takes its free values at. -/
def charged (m : Samples) (s : State) : Chg := (measureCharge (s.free + 1) m s.chg).1

/-- CHG after a measurement, but for the part mode: the floor and the next interval touch no other field. -/
theorem exec_measurement_fields (m : Samples) (s : State) : ∃ t, exec (.measurement m) s = .next t ∧
    (t.chg.battery = (charged m s).battery ∧ t.chg.q = (charged m s).q ∧ t.chg.r = (charged m s).r ∧
      t.chg.synced = (charged m s).synced ∧ t.chg.syncCount = (charged m s).syncCount ∧
      t.chg.syncDone = (charged m s).syncDone ∧ t.chg.restTime = (charged m s).restTime) ∧
    t.chg.temps = (charged m s).temps ∧ t.chg.tb = (charged m s).tb ∧ t.chg.figures = (charged m s).figures ∧
    t.chg.v = (charged m s).v ∧ t.chg.i = (charged m s).i := by
  obtain ⟨t, ht, h⟩ := measurement_next m s
  have field : ∀ {α} (f : Chg → α), (∀ c : Chg, f c.core = f c) →
      (∀ c : Chg, ∀ g i, f (dropCounts { c with floor := g, interval := i }) = f c) →
      (∀ c : Chg, ∀ i, f { c with interval := i } = f c) → (∀ c v i, f (floorCounts c v i) = f c) →
      f t.chg = f (charged m s) := fun f hf hd hi hc => measurement_field f hf h hd hi hc
  refine ⟨t, ht, ⟨field Chg.battery ?_ ?_ ?_ ?_, field Chg.q ?_ ?_ ?_ ?_, field Chg.r ?_ ?_ ?_ ?_, field Chg.synced ?_ ?_ ?_ ?_,
    field Chg.syncCount ?_ ?_ ?_ ?_, field Chg.syncDone ?_ ?_ ?_ ?_, field Chg.restTime ?_ ?_ ?_ ?_⟩,
    field Chg.temps ?_ ?_ ?_ ?_, field Chg.tb ?_ ?_ ?_ ?_, field Chg.figures ?_ ?_ ?_ ?_, field Chg.v ?_ ?_ ?_ ?_,
    field Chg.i ?_ ?_ ?_ ?_⟩ <;> intros <;> rfl

theorem sampledVolts_eq (x : Nat) : sampledVolts x = if 32767 < x then 32767 else x := by
  unfold sampledVolts
  split <;> omega

theorem sampledCurrent_eq (x : Int) :
    sampledCurrent x = if x < -30000 then -30000 else if 30000 < x then 30000 else x := rfl

/-! ### The count (R7 to R12) -/

/-- R8: the whole milliampere-hours moved, and the residue left. -/
theorem moveCharge_eq (cNom q : Nat) (r : Int) :
    moveCharge cNom q r =
      if (q : Int) + r.tdiv 360 < 0 then (0, 0)
      else if (cNom : Int) < q + r.tdiv 360 then (cNom, 0)
      else (((q : Int) + r.tdiv 360).toNat, r - 360 * r.tdiv 360) := by
  simp only [moveCharge, divT, mul_comm]

/-- R11: the OCV table by its five pieces. -/
theorem socOf_six (v0 v1 v2 v3 v4 v5 v : Nat) :
    socOf [v0, v1, v2, v3, v4, v5] v =
      if v ≤ v0 then 0
      else if v < v1 then 0 + (v - v0) * 200 / (v1 - v0)
      else if v < v2 then 200 + (v - v1) * 200 / (v2 - v1)
      else if v < v3 then 400 + (v - v2) * 200 / (v3 - v2)
      else if v < v4 then 600 + (v - v3) * 200 / (v4 - v3)
      else if v < v5 then 800 + (v - v4) * 200 / (v5 - v4)
      else 1000 := by
  simp only [socOf, socFrom, List.headD_cons, Nat.reduceAdd]
  rfl

theorem fst_ite_pair {α β : Type} (p : Prop) [Decidable p] (a : α) (b : β) (x : α × β) :
    (if p then (a, b) else x).1 = if p then a else x.1 := by
  split <;> rfl

theorem snd_ite_pair {α β : Type} (p : Prop) [Decidable p] (a : α) (b : β) (x : α × β) :
    (if p then (a, b) else x).2 = if p then b else x.2 := by
  split <;> rfl

/-- Settles O9: each clause is a field of CHG after the charge steps, taken one after another. -/
theorem measurementCountsCharge : Obligations.MeasurementCountsCharge := by
  refine ⟨fun m s => ?_, fun v0 v1 v2 v3 v4 v5 v _ _ _ _ _ => socOf_six v0 v1 v2 v3 v4 v5 v⟩
  obtain ⟨t, ht, ⟨-, hq, hr, hsynced, hcount, hdone, hrest⟩, -, -, -, hv, hi⟩ := exec_measurement_fields m s
  obtain ⟨tm, tb, fg, e⟩ := measureCharge_eq (s.free + 1) m s.chg
  rw [charged, e] at hq hr hsynced hcount hdone hrest hv hi
  dsimp only at hq hr hsynced hcount hdone hrest hv hi
  rw [moveCharge_eq] at hq hr
  refine ⟨t, ht, ?_⟩
  rw [← sampledVolts_eq, ← sampledCurrent_eq]
  dsimp only
  simp only [fst_ite_pair, snd_ite_pair] at hq hr ⊢
  exact ⟨hv, hi, hcount, hdone, hsynced, hr, hrest, hq⟩

/-! ### The figures (R13 to R15) -/

/-- The charge steps end with the battery temperature and the figures of what they leave (R13, R15). -/
theorem charged_figures (m : Samples) (s : State) :
    (charged m s).tb = batteryTemp (charged m s) ∧
      (charged m s).figures =
        some (figuresOf (charged m s).battery (charged m s).q (charged m s).synced (charged m s).tb) := by
  unfold charged
  rw [measureCharge_steps]
  exact ⟨rfl, rfl⟩

theorem coldSteps_round (w : Int) : (if w < 0 then (-w + 9).toNat / 10 else 0) = if w < 0 then (w.natAbs + 9) / 10 else 0 := by
  split
  · congr 1
    omega
  · rfl

/-- Settles O10: the battery temperature and the figures by the charge, sync state and inputs left. -/
theorem measurementComputesTheFigures : Obligations.MeasurementComputesTheFigures := by
  intro m s
  obtain ⟨t, ht, ⟨hb, hq, -, hsynced, -, -, -⟩, htemps, htb, hfig, -, -⟩ := exec_measurement_fields m s
  obtain ⟨ctb, cfig⟩ := charged_figures m s
  have tb : t.chg.tb = batteryTemp t.chg := by
    rw [htb, ctb]
    simp only [batteryTemp, Chg.temp, htemps]
  have fig : t.chg.figures = some (figuresOf t.chg.battery t.chg.q t.chg.synced t.chg.tb) := by
    rw [hfig, cfig, hb, hq, hsynced, htb]
  refine ⟨t, ht, tb, fig.trans ?_⟩
  rw [tb]
  show some (figuresOf _ _ _ (batteryTemp t.chg)) = some _
  have same : batteryTemp t.chg = ((t.chg.temps[5]?).bind fun x => if x.cond = .valid then x.value else none).or
    ((t.chg.temps[1]?).bind fun x => if x.cond = .valid then x.value else none) := rfl
  rw [← same]
  rcases batteryTemp t.chg with _ | x
  · rfl
  · simp only [figuresOf, deratingOf, coldStepsOf, divT, coldSteps_round]

/-! ### The inputs (R5, R6) -/

/-- Each input takes its own sample. -/
theorem sampleInputs_getElem? (free n : Nat) (xs : List (Option Int)) (ts : List TempInput) (k : Nat) {x : Option Int}
    {t : TempInput} (hx : xs[k]? = some x) (ht : ts[k]? = some t) :
    (sampleInputs free n xs ts).1[k]? = some (sampleInput free (n + k) x t).1 := by
  induction xs generalizing n ts k with
  | nil => simp at hx
  | cons y ys ih =>
    cases ts with
    | nil => simp at ht
    | cons u us =>
      cases k with
      | zero =>
        obtain rfl : y = x := by simpa using hx
        obtain rfl : u = t := by simpa using ht
        rfl
      | succ k =>
        have := ih (n + 1) us k (by simpa using hx) (by simpa using ht)
        rw [show n + (k + 1) = n + 1 + k by omega]
        simpa [sampleInputs] using this

/-- The conversion at input `n`, in the order of R5. -/
def rawSample (m : Samples) (n : Nat) : Option Int :=
  [m.cabin, m.outside, m.cabinet, m.flame, m.overheat, m.battery].getD n none

theorem trimmedSamples_getElem? (m : Samples) {trims : List Int} {n : Nat} {d : Int} (hn : n < 6) (hd : trims[n]? = some d) :
    (trimmedSamples m trims)[n]? = some ((rawSample m n).map (· + d)) := by
  have raw : [m.cabin, m.outside, m.cabinet, m.flame, m.overheat, m.battery][n]? = some (rawSample m n) := by
    rw [rawSample, List.getD_eq_getElem?_getD]
    simp [List.getElem?_eq_getElem (l := [m.cabin, m.outside, m.cabinet, m.flame, m.overheat, m.battery]) hn]
  simp only [trimmedSamples, List.getElem?_zipWith, raw, hd]

/-- A sample in range (R5, R6). -/
theorem sampleInput_inRange (free n : Nat) {y : Int} (t : TempInput) (h : -550 ≤ y ∧ y ≤ 4000) :
    (sampleInput free n (some y) t).1 =
      if t.cond = .valid then { t with value := some y }
      else if 2 ≤ t.run then ⟨.valid, t.run + 1, some y, some y⟩
      else { t with run := t.run + 1, sample := some y } := by
  have hf : (some y).filter sampleInRange = some y := by simp [sampleInRange, intIn, h]
  simp only [sampleInput, hf]
  split
  · rfl
  · next hc =>
    simp only [completeRun]
    by_cases hr : 2 ≤ t.run
    · rw [if_pos hr, if_pos ⟨hc, by omega⟩]
    · rw [if_neg hr, if_neg (by omega)]

/-- A sample out of range, or a conversion that failed (R5, R6). -/
theorem sampleInput_outOfRange (free n : Nat) {x : Option Int} (t : TempInput)
    (h : ∀ y, x = some y → y < -550 ∨ 4000 < y) : (sampleInput free n x t).1 = ⟨.faulted, 0, none, none⟩ := by
  have hf : x.filter sampleInRange = none := by
    rcases x with _ | y
    · rfl
    · have := h y rfl
      simp [sampleInRange, intIn]
      omega
  simp only [sampleInput, hf]

/-- Settles O11: the input's new value by its condition and its trimmed sample. -/
theorem measurementUpdatesTheInputs : Obligations.MeasurementUpdatesTheInputs := by
  intro m s n _ _ hn
  obtain ⟨t, ht, -, htemps, -⟩ := exec_measurement_fields m s
  refine ⟨t, ht, fun x d hx hd => ?_⟩
  have input : t.chg.temps[n]? = some (sampleInput (s.free + 1) (0 + n) ((rawSample m n).map (· + d)) x).1 := by
    rw [htemps, charged, measureCharge_temps]
    exact sampleInputs_getElem? _ 0 _ _ n (trimmedSamples_getElem? m hn hd) hx
  refine ⟨fun y hy hlo hhi => ?_, fun h => ?_⟩
  · rw [input, show rawSample m n = some y from hy]
    exact congrArg some (sampleInput_inRange _ _ x ⟨hlo, hhi⟩)
  · rw [input]
    refine congrArg some (sampleInput_outOfRange _ _ x fun z hz => ?_)
    rcases h with h | ⟨y, hy, hout⟩
    · rw [show rawSample m n = none from h] at hz
      exact absurd hz (by simp)
    · rw [show rawSample m n = some y from hy] at hz
      obtain rfl : y + d = z := by simpa using hz
      exact hout

end Sys2Proof.Machine

/-! O14 and O15: the events that move the floor state and the part mode (R16 to R21). -/

namespace Sys2Proof.Machine

/-! ### A change of floor state (R16, R17, R20) -/

/-- CHG entered to the floor state `f`: the counters that do not run there at 0, DOZE ended. -/
def entered (c : Chg) (f : Floor) : Chg := awake (dropCounts { c with floor := f })

theorem enterFloor_of_ne {c : Chg} {f : Floor} (s : State) (h : f ≠ c.floor) :
    enterFloor c f s = (entered c f, floorFollows s.free c f) := by
  rw [enterFloor, if_neg h, floorMsgs_eq]
  rfl

/-- A review does not look at the event counter. -/
theorem reviewMode_fresh (c : Chg) (s : State) : reviewMode c (fresh s) = modeReviewed c s := reviewMode_eq c s

/-- An event at CHG that moves the floor state to `f` when `p` holds. -/
theorem exec_floorEvent {i : Instr} {e : ChgEv} {s : State} {f : Floor} {p : Prop} [Decidable p]
    (he : exec i s = .next (event (.chg e) s))
    (h : chgHandle e (fresh s) = floorEvent s.chg (if p then f else s.chg.floor) (fresh s)) (hp : p → f ≠ s.chg.floor) :
    exec i s =
      if p then .next (settle (floorFollows (s.free + 1) s.chg f ++ (modeReviewed (entered s.chg f) s).2)
        { fresh s with chg := (modeReviewed (entered s.chg f) s).1 })
      else .next (fresh s) := by
  by_cases hc : p
  · rw [if_pos hc] at h ⊢
    refine exec_chg he ?_
    rw [h, floorEvent, if_neg (hp hc)]
    dsimp only
    rw [enterFloor_of_ne _ (hp hc), reviewMode_fresh, fresh_free]
  · rw [if_neg hc] at h ⊢
    exact exec_chg_idle he (h.trans (if_pos rfl))

/-- Settles O14: a counter's limit is an event to the floor state it calls for, which is another one. -/
theorem floorCountsMoveTheFloor : Obligations.FloorCountsMoveTheFloor := by
  intro s
  refine ⟨exec_floorEvent rfl rfl ?_, exec_floorEvent rfl rfl ?_, exec_floorEvent rfl rfl ?_, exec_floorEvent rfl rfl ?_⟩
  · rintro ⟨hf, -⟩
    simp [hf]
  · rintro ⟨hf, -⟩
    exact Ne.symm hf
  · rintro ⟨hf, -⟩
    simp [hf]
  · rintro ⟨hf, -⟩
    simp [hf]

/-! ### The doze timer, IGN and SERVICE (R18 to R21) -/

/-- The doze timer's expiry (R19). -/
theorem exec_dozeTimerExpiry (s : State) :
    (s.chg.mode = .active → s.chg.doze = some 0 →
      (¬HibernateHolds s.chg s →
        exec .dozeTimerExpiry s = .next { fresh s with chg := { s.chg with mode := .doze, doze := none } }) ∧
      (HibernateHolds s.chg s → exec .dozeTimerExpiry s = .next (settle [.sto .writeState]
        { fresh s with chg := { s.chg with mode := .hibernate, doze := none } }))) ∧
    (s.chg.mode ≠ .active ∨ s.chg.doze ≠ some 0 → exec .dozeTimerExpiry s = .next (fresh s)) := by
  refine ⟨fun hm hd => ?_, fun h => ?_⟩
  · have due : chgHandle .dozeExpiry (fresh s) =
        if hibernateConditions s.chg s then ({ s.chg with mode := .hibernate, doze := none }, [.sto .writeState])
        else ({ s.chg with mode := .doze, doze := none }, []) := if_pos ⟨hm, hd⟩
    refine ⟨fun hn => ?_, fun hh => ?_⟩
    · rw [exec_chg rfl (due.trans (if_neg (mt (hibernateConditions_iff _ _).mp hn))), settle_nil]
    · exact exec_chg rfl (due.trans (if_pos ((hibernateConditions_iff _ _).mpr hh)))
  · refine exec_chg_idle rfl (if_neg fun hn => ?_)
    rcases h with h | h
    · exact h hn.1
    · exact h hn.2

/-- CHG after a change of IGN, before the floor state and the part mode are looked at (R18, R20). -/
def ignited (on : Bool) (c : Chg) : Chg := awake { c with ign := on, hard := if on then c.hard else 0 }

@[simp] theorem awake_floor (c : Chg) : (awake c).floor = c.floor := by
  unfold awake
  split <;> rfl

theorem awake_mode_ne (c : Chg) : (awake c).mode ≠ .doze := endDoze_mode_ne c

theorem awake_of_ne {c : Chg} (h : c.mode ≠ .doze) : awake c = c := if_neg h

@[simp] theorem ignited_floor (on : Bool) (c : Chg) : (ignited on c).floor = c.floor := awake_floor _

theorem ignEvent_of_ne {on : Bool} {s : State} (h : on ≠ s.chg.ign) :
    ignEvent on s =
      ((reviewMode (enterFloor (ignited on s.chg) (if on = true ∧ s.chg.floor = .cutoff then .critical else s.chg.floor) s).1
          s).1,
        (enterFloor (ignited on s.chg) (if on = true ∧ s.chg.floor = .cutoff then .critical else s.chg.floor) s).2 ++
          [.dmd (.ign on)] ++
          (reviewMode (enterFloor (ignited on s.chg) (if on = true ∧ s.chg.floor = .cutoff then .critical else s.chg.floor)
            s).1 s).2) := by
  rw [ignEvent, if_neg h]
  dsimp only
  rw [endDoze_eq, ← ignited, ignited_floor]

/-- A change of IGN that leaves the floor state (R18). -/
theorem exec_ignChange_stays {on : Bool} {s : State} (h : on ≠ s.chg.ign) (hf : on = false ∨ s.chg.floor ≠ .cutoff) :
    exec (.ignChange on) s = .next (settle (.dmd (.ign on) :: (modeReviewed (ignited on s.chg) s).2)
      { fresh s with chg := (modeReviewed (ignited on s.chg) s).1 }) := by
  have stays : ¬(on = true ∧ s.chg.floor = .cutoff) := by
    rintro ⟨rfl, hc⟩
    rcases hf with hf | hf
    · exact absurd hf (by simp)
    · exact hf hc
  have still : enterFloor (ignited on s.chg) s.chg.floor (fresh s) = (ignited on s.chg, []) :=
    if_pos (ignited_floor on s.chg).symm
  refine exec_chg rfl ((ignEvent_of_ne (s := fresh s) h).trans ?_)
  rw [fresh_chg, if_neg stays, still, reviewMode_fresh, List.nil_append, List.singleton_append]

/-- IGN going high in CUTOFF (R18). -/
theorem exec_ignChange_leaves {s : State} (h : s.chg.ign = false) (hf : s.chg.floor = .cutoff) :
    exec (.ignChange true) s = .next (settle
      (floorFollows (s.free + 1) s.chg .critical ++ [.dmd (.ign true)] ++
        (modeReviewed { ignited true s.chg with floor := .critical, low := 0, charge := 0 } s).2)
      { fresh s with chg := (modeReviewed { ignited true s.chg with floor := .critical, low := 0, charge := 0 } s).1 }) := by
  have changes : enterFloor (ignited true s.chg) .critical (fresh s) =
      ({ ignited true s.chg with floor := .critical, low := 0, charge := 0 }, floorFollows (s.free + 1) s.chg .critical) := by
    rw [enterFloor_of_ne _ (by simp [hf])]
    refine Prod.ext (awake_of_ne (c := dropCounts { ignited true s.chg with floor := .critical }) (awake_mode_ne _)) ?_
    simp only [ignited, awake]
    split <;> rfl
  refine exec_chg rfl ((ignEvent_of_ne (s := fresh s) (by simp [h])).trans ?_)
  rw [fresh_chg, if_pos ⟨rfl, hf⟩, changes, reviewMode_fresh]

/-- A change of SERVICE (R21). -/
theorem exec_serviceChange (high : Bool) (s : State) :
    (high ≠ s.lnk.service →
      exec (.serviceChange high) s = .next (settle [.chg .review] { fresh s with lnk := { s.lnk with service := high } })) ∧
    (high = s.lnk.service → exec (.serviceChange high) s = .next (fresh s)) := by
  have change : lnkHandle (.service high) (fresh s) =
      if high = s.lnk.service then (s.lnk, []) else ({ s.lnk with service := high }, [.chg .review]) := rfl
  refine ⟨fun h => exec_settle rfl ?_, fun h => exec_quiet rfl ?_⟩
  · rw [deliver_lnk, change, if_neg h]
  · rw [deliver_lnk, change, if_pos h]
    rfl

/-- The three reviews of the part mode (R19 to R21). -/
theorem deliver_reviews (s : State) :
    deliver (.chg .review) s = ({ s with chg := (modeReviewed s.chg s).1 }, (modeReviewed s.chg s).2) ∧
      deliver (.chg .wake) s = ({ s with chg := (modeReviewed (awake s.chg) s).1 }, (modeReviewed (awake s.chg) s).2) ∧
      deliver (.chg .stir) s = ({ s with chg := (modeReviewed { awake s.chg with doze := none } s).1 },
        (modeReviewed { awake s.chg with doze := none } s).2) := by
  refine ⟨?_, ?_, ?_⟩ <;> simp only [deliver_chg, chgHandle, stirMode, endDoze_eq, reviewMode_eq]

theorem modeReviewed_of_hibernate {c : Chg} (s : State) (hm : c.mode = .hibernate) :
    modeReviewed c s =
      if c.floor = .cutoff ∧ s.lnk.service = false then (c, [])
      else ({ c with mode := .active, doze := if DozeHolds c s then some 30 else none }, []) := by
  simp only [modeReviewed, hm, Option.getD_none]

theorem modeReviewed_of_doze {c : Chg} (s : State) (hm : c.mode = .doze) :
    modeReviewed c s =
      if HibernateHolds c s then ({ c with mode := .hibernate, doze := none }, [.sto .writeState])
      else if DozeHolds c s then (c, [])
      else ({ c with mode := .active, doze := none }, []) := by
  unfold modeReviewed
  rw [hm]

theorem modeReviewed_of_active {c : Chg} (s : State) (hm : c.mode = .active) :
    modeReviewed c s =
      if HibernateHolds c s then ({ c with mode := .hibernate, doze := none }, [.sto .writeState])
      else ({ c with doze := if DozeHolds c s then some (c.doze.getD 30) else none }, []) := by
  unfold modeReviewed
  rw [hm]

/-- Settles O15: each event by whether its condition holds, and a review by the part mode it finds. -/
theorem dozeIgnitionAndServiceChanges : Obligations.DozeIgnitionAndServiceChanges := by
  refine ⟨exec_dozeTimerExpiry, fun on s => ?_, exec_serviceChange, fun s => ?_⟩
  · refine ⟨fun h => exec_chg_idle rfl (if_pos h), ?_, exec_ignChange_stays⟩
    rintro rfl h hf
    exact exec_ignChange_leaves h hf
  · obtain ⟨review, wake, stir⟩ := deliver_reviews s
    refine ⟨review, wake, stir, fun hm h => ?_, fun hm hf hs => ?_, fun hm hh => ?_, fun hm hh hd => ?_, fun hm hh hd => ?_,
      fun hm hh => ?_⟩
    · rw [modeReviewed_of_hibernate s hm, if_neg]
      rintro ⟨hf, hs⟩
      rcases h with h | h
      · exact h hf
      · exact absurd (h.symm.trans hs) (by simp)
    · rw [modeReviewed_of_hibernate s hm, if_pos ⟨hf, hs⟩]
    · cases hc : s.chg.mode with
      | hibernate => exact absurd hc hm
      | doze => rw [modeReviewed_of_doze s hc, if_pos hh]
      | active => rw [modeReviewed_of_active s hc, if_pos hh]
    · rw [modeReviewed_of_doze s hm, if_neg hh, if_pos hd]
    · rw [modeReviewed_of_doze s hm, if_neg hh, if_neg hd]
    · rw [modeReviewed_of_active s hm, if_neg hh]

end Sys2Proof.Machine

/-! O12: the floor counters, and what a measurement hands on (R16, R17, R25). -/

namespace Sys2Proof.Machine

/-! ### The floor counters of a measurement -/

/-- The charge steps touch neither the settings, the floor state and its counters, IGN nor the part mode. -/
theorem measureCharge_keeps (free : Nat) (m : Samples) (c : Chg) :
    ∃ q r sy n d rt tm tb fg v i, (measureCharge free m c).1 = { c with
      q := q, r := r, synced := sy, syncCount := n, syncDone := d, restTime := rt, temps := tm, tb := tb, figures := fg,
      v := some v, i := some i } ∧ v = sampledVolts m.vbat ∧ i = sampledCurrent m.shunt := by
  obtain ⟨tm, tb, fg, e⟩ := measureCharge_eq free m c
  exact ⟨_, _, _, _, _, _, _, _, _, _, _, e, rfl, rfl⟩

/-- The counters after a measurement's samples, before the floor state is looked at (R16). -/
theorem measuredCounts_counters (m : Samples) (s : State) :
    (measuredCounts m s).floor = s.chg.floor ∧ (measuredCounts m s).ign = s.chg.ign ∧
    (measuredCounts m s).low =
      (if s.chg.floor = .clear ∧ sampledVolts m.vbat < s.chg.battery.vCut then s.chg.low + 1 else 0) ∧
    (measuredCounts m s).hard =
      (if s.chg.floor ≠ .cutoff ∧ sampledVolts m.vbat < s.chg.battery.vHard ∧ s.chg.ign = false then s.chg.hard + 1 else 0) ∧
    (measuredCounts m s).clearCnt =
      (if s.chg.floor = .critical ∧ s.chg.battery.vCut + 400 ≤ sampledVolts m.vbat then s.chg.clearCnt + 1 else 0) ∧
    (measuredCounts m s).charge =
      (if s.chg.floor = .cutoff ∧ 500 ≤ sampledCurrent m.shunt then s.chg.charge + 1 else 0) := by
  obtain ⟨_, _, _, _, _, _, _, _, _, _, _, e, -⟩ := measureCharge_keeps s.free m s.chg
  unfold measuredCounts
  rw [e]
  exact ⟨rfl, rfl, rfl, rfl, rfl, rfl⟩

/-- Dropping the counters that do not run changes nothing when they are at 0. -/
theorem dropCounts_of_still {c : Chg} (hs : c.CountersStill) : dropCounts c = c := by
  obtain ⟨hlow, hhard, hclear, hcharge⟩ := hs
  have low : (if c.floor = .clear then c.low else 0) = c.low := by
    rw [ite_eq_left_iff]
    exact fun h => (hlow h).symm
  have hard : (if c.floor = .cutoff then 0 else c.hard) = c.hard := by
    rw [ite_eq_right_iff]
    exact fun h => (hhard h).symm
  have clear : (if c.floor = .critical then c.clearCnt else 0) = c.clearCnt := by
    rw [ite_eq_left_iff]
    exact fun h => (hclear h).symm
  have charge : (if c.floor = .cutoff then c.charge else 0) = c.charge := by
    rw [ite_eq_left_iff]
    exact fun h => (hcharge h).symm
  unfold dropCounts
  rw [low, hard, clear, charge]

/-- With the counters that do not run at 0, the move to the floor state called for is the same in every case. -/
theorem floorMoved_of_still {c : Chg} (hs : c.CountersStill) : floorMoved c = dropCounts { c with floor := nextFloor c } := by
  unfold floorMoved
  split
  · next h =>
    rw [h]
    exact (dropCounts_of_still hs).symm
  · rfl

theorem nextFloor_of_clear {c : Chg} (h : c.floor = .clear) :
    nextFloor c = if 10 ≤ c.hard then .cutoff else if 10 ≤ c.low then .critical else .clear := by
  simp only [nextFloor, h]

theorem nextFloor_of_critical {c : Chg} (h : c.floor = .critical) :
    nextFloor c = if 10 ≤ c.hard then .cutoff else if 60 ≤ c.clearCnt then .clear else .critical := by
  simp only [nextFloor, h]

theorem nextFloor_of_cutoff {c : Chg} (h : c.floor = .cutoff) :
    nextFloor c = if 30 ≤ c.charge ∨ c.ign = true then .critical else .cutoff := by
  simp only [nextFloor, h]

/-- A counter runs only where the floor state stays where it runs. -/
theorem counter_eq {p r t : Prop} [Decidable p] [Decidable r] [Decidable t] (n : Nat) :
    (if t then (if p ∧ r then n else 0) else 0) = if p ∧ t then (if r then n else 0) else 0 := by
  by_cases p <;> by_cases t <;> simp [*]

/-- The floor state and its counters after a measurement (R16). -/
theorem exec_measurement_floor (m : Samples) (s : State) : ∃ t, exec (.measurement m) s = .next t ∧
    t.chg.floor = nextFloor (measuredCounts m (fresh s)) ∧
    t.chg.low = (if t.chg.floor = .clear then (measuredCounts m (fresh s)).low else 0) ∧
    t.chg.clearCnt = (if t.chg.floor = .critical then (measuredCounts m (fresh s)).clearCnt else 0) ∧
    t.chg.charge = (if t.chg.floor = .cutoff then (measuredCounts m (fresh s)).charge else 0) ∧
    t.chg.hard = (if t.chg.floor = .cutoff then 0 else (measuredCounts m (fresh s)).hard) := by
  obtain ⟨t, ht, h⟩ := measurement_next m s
  have still : (measuredCounts m (fresh s)).CountersStill := floorCounts_still _ _ _
  rw [measure_core_moved, floorMoved_of_still still] at h
  generalize measuredCounts m (fresh s) = c at h ⊢
  refine ⟨t, ht, ?_⟩
  rw [Chg.eq_of_core h]
  exact ⟨rfl, rfl, rfl, rfl, rfl⟩

/-! ### What the inputs post (R6) -/

theorem sampleInput_posts_of_some (free n : Nat) {x : Option Int} {y : Int} (t : TempInput)
    (h : x.filter sampleInRange = some y) :
    (sampleInput free n x t).2 = if t.cond = .faulted ∧ 2 ≤ t.run then [post 21 (u8 n ++ s16 y)] else [] := by
  simp only [sampleInput, h]
  by_cases hv : t.cond = .valid
  · rw [if_pos hv, if_neg (by simp [hv])]
  · rw [if_neg hv]
    by_cases hr : 2 ≤ t.run
    · rw [completeRun_of_run (x := { t with run := t.run + 1, sample := some y }) hv (Nat.succ_le_succ hr)]
      simp [hr]
    · rw [completeRun_of_not (.inr (by dsimp only; omega)), if_neg fun hc => hr hc.2]

theorem sampleInput_posts_of_none (free n : Nat) {x : Option Int} (t : TempInput) (h : x.filter sampleInRange = none) :
    (sampleInput free n x t).2 =
      if t.cond = .faulted then [] else [post 20 (u8 n ++ s16 (x.getD (Config.failedSample free n)))] := by
  simp only [sampleInput, h, msgsIf, bne_iff_ne, reportedSample, ite_not]

/-- The posts of a measurement's inputs, in input order. -/
theorem sampleInputs_posts (free n : Nat) (xs : List (Option Int)) (ts : List TempInput) (h : xs.length = ts.length) :
    (sampleInputs free n xs ts).2 = (List.range ts.length).flatMap fun k =>
      (sampleInput free (n + k) (xs.getD k none) (ts.getD k ⟨.starting, 0, none, none⟩)).2 := by
  induction xs generalizing n ts with
  | nil =>
    obtain rfl : ts = [] := List.length_eq_zero_iff.mp h.symm
    rfl
  | cons x xs ih =>
    cases ts with
    | nil => simp at h
    | cons t ts =>
      have rest := ih (n + 1) ts (by simpa using h)
      simp only [sampleInputs, rest, List.length_cons, List.range_succ_eq_map, List.flatMap_cons, List.flatMap_map,
        List.getD_cons_zero, List.getD_cons_succ, Nat.add_zero, Nat.succ_eq_add_one, Nat.add_assoc, Nat.add_comm 1]

theorem trimmedSamples_getD (m : Samples) {trims : List Int} {n : Nat} (hl : trims.length = 6) (hn : n < 6) :
    (trimmedSamples m trims).getD n none = (rawSample m n).map (· + trims.getD n 0) := by
  have hd : trims[n]? = some (trims.getD n 0) := by
    rw [List.getD_eq_getElem?_getD, List.getElem?_eq_getElem (hl ▸ hn), Option.getD_some]
  rw [List.getD_eq_getElem?_getD, trimmedSamples_getElem? m hn hd, Option.getD_some]

theorem sampleInRange_eq : sampleInRange = fun y => decide (-550 ≤ y ∧ y ≤ 4000) := by
  funext y
  simp [sampleInRange, intIn]

/-- What input `n` posts at a measurement (R5, R6). -/
def sensorPosts (free : Nat) (m : Samples) (c : Chg) (n : Nat) : List Msg :=
  let x := c.temps.getD n ⟨.starting, 0, none, none⟩
  let y := (rawSample m n).map (· + c.trims.getD n 0)
  match y.filter fun y => decide (-550 ≤ y ∧ y ≤ 4000) with
  | some y => if x.cond = .faulted ∧ 2 ≤ x.run then [post 21 (u8 n ++ s16 y)] else []
  | none => if x.cond = .faulted then [] else [post 20 (u8 n ++ s16 (y.getD (Config.failedSample free n)))]

theorem sampleInput_posts (free n : Nat) (m : Samples) (c : Chg) :
    (sampleInput free n ((rawSample m n).map (· + c.trims.getD n 0)) (c.temps.getD n ⟨.starting, 0, none, none⟩)).2 =
      sensorPosts free m c n := by
  unfold sensorPosts
  dsimp only
  rw [← sampleInRange_eq]
  split
  · next y h => exact sampleInput_posts_of_some free n _ h
  · next h => exact sampleInput_posts_of_none free n _ h

/-- The six inputs' posts. -/
theorem sampleInputs_posts_six (free : Nat) (m : Samples) {c : Chg} (htemps : c.temps.length = 6)
    (htrims : c.trims.length = 6) :
    (sampleInputs free 0 (trimmedSamples m c.trims) c.temps).2 = [0, 1, 2, 3, 4, 5].flatMap (sensorPosts free m c) := by
  have len : (trimmedSamples m c.trims).length = c.temps.length := by simp [trimmedSamples, htrims, htemps]
  rw [sampleInputs_posts free 0 _ _ len, htemps]
  show [0, 1, 2, 3, 4, 5].flatMap _ = _
  refine List.flatMap_congr fun n hn => ?_
  have hn : n < 6 := by
    simp only [List.mem_cons, List.not_mem_nil, or_false] at hn
    omega
  rw [Nat.zero_add, trimmedSamples_getD m htrims hn]
  exact sampleInput_posts free n m c

/-! ### What the sync posts (R9) -/

theorem syncStep_posts (c : Chg) (v : Nat) (i : Int) :
    (syncStep c v i).2 =
      if (c.battery.vFull ≤ v ∧ 0 ≤ i ∧ i ≤ c.battery.iTail) ∧ 59 ≤ c.syncCount ∧ c.syncDone = false then
        [post 22 (u32 c.q)]
      else [] := by
  unfold syncStep
  by_cases tail : c.battery.vFull ≤ v ∧ 0 ≤ i ∧ i ≤ c.battery.iTail
  · rw [if_pos tail, fullSync]
    have reached : 60 ≤ satAdd 60 c.syncCount 1 ↔ 59 ≤ c.syncCount := by
      simp only [satAdd]
      omega
    simp only [reached, tail, true_and, apply_ite Prod.snd]
  · rw [if_neg tail, if_neg fun h => tail h.1]

theorem moveCharge_fst (cNom q : Nat) (r : Int) :
    (moveCharge cNom q r).1 =
      if (cNom : Int) < q + r.tdiv 360 then cNom else ((q : Int) + r.tdiv 360).toNat := by
  rw [moveCharge_eq]
  split
  · rw [if_neg (by omega)]
    omega
  · split <;> rfl

/-- What the charge steps post: the inputs', then the sync's. -/
theorem measureCharge_posts (free : Nat) (m : Samples) (c : Chg) :
    (measureCharge free m c).2 = (sampleInputs free 0 (trimmedSamples m c.trims) c.temps).2 ++
      if (c.battery.vFull ≤ sampledVolts m.vbat ∧ 0 ≤ sampledCurrent m.shunt ∧ sampledCurrent m.shunt ≤ c.battery.iTail) ∧
          59 ≤ c.syncCount ∧ c.syncDone = false then
        [post 22 (u32 (moveCharge c.battery.cNom c.q
          (c.r + contribution (sampledCurrent m.shunt) c.interval c.battery.e)).1)]
      else [] := by
  simp only [measureCharge, syncStep_posts, countCharge]

/-! ### The measurement as a whole -/

/-- CHG after a measurement, before the part mode is looked at. -/
def moved (m : Samples) (s : State) : Chg := { floorMoved (measuredCounts m s) with interval := s.chg.mode.seconds }

/-- The entry to the floor state called for, on the counters `c`. -/
theorem enterFloor_floorMoved {c : Chg} {f : Floor} (k : Nat) (s : State) (hf : c.floor = f) :
    enterFloor { c with interval := k } (nextFloor c) s =
      (if (floorMoved c).floor = f then { floorMoved c with interval := k }
        else awake { floorMoved c with interval := k },
       if (floorMoved c).floor = f then []
        else floorFollows s.free { floorMoved c with interval := k } (floorMoved c).floor) := by
  subst hf
  unfold floorMoved
  by_cases h : nextFloor c = c.floor
  · rw [if_pos h, if_pos rfl, if_pos rfl, enterFloor, if_pos h]
  · rw [if_neg h, if_neg (show (dropCounts { c with floor := nextFloor c }).floor ≠ c.floor from h),
      if_neg (show (dropCounts { c with floor := nextFloor c }).floor ≠ c.floor from h),
      enterFloor_of_ne (c := { c with interval := k }) s h]
    exact Prod.ext rfl rfl

/-- The move of the floor state leaves the inputs, the samples and the part mode. -/
theorem floorMoved_keeps (c : Chg) :
    (floorMoved c).temps = c.temps ∧ (floorMoved c).figures = c.figures ∧ (floorMoved c).v = c.v ∧
      (floorMoved c).i = c.i ∧ (floorMoved c).mode = c.mode ∧ (floorMoved c).doze = c.doze ∧
      (floorMoved c).ign = c.ign ∧ (floorMoved c).floor = nextFloor c := by
  unfold floorMoved
  split
  · next h => exact ⟨rfl, rfl, rfl, rfl, rfl, rfl, rfl, h.symm⟩
  · exact ⟨rfl, rfl, rfl, rfl, rfl, rfl, rfl, rfl⟩

/-- What the charge steps leave, in the fields of `moved`. -/
theorem moved_fields (m : Samples) (s : State) :
    (moved m s).temps = (measureCharge s.free m s.chg).1.temps ∧
      (moved m s).figures = (measureCharge s.free m s.chg).1.figures ∧
      (moved m s).v = some (sampledVolts m.vbat) ∧ (moved m s).i = some (sampledCurrent m.shunt) ∧
      (moved m s).mode = s.chg.mode ∧ (moved m s).doze = s.chg.doze ∧ (moved m s).ign = s.chg.ign ∧
      (moved m s).floor = nextFloor (measuredCounts m s) := by
  obtain ⟨htemps, hfig, hv, hi, hmode, hdoze, hign, hfloor⟩ := floorMoved_keeps (measuredCounts m s)
  obtain ⟨_, _, _, _, _, _, _, _, _, _, _, e, rfl, rfl⟩ := measureCharge_keeps s.free m s.chg
  have counts : (measuredCounts m s).temps = (measureCharge s.free m s.chg).1.temps ∧
      (measuredCounts m s).figures = (measureCharge s.free m s.chg).1.figures ∧
      (measuredCounts m s).v = some (sampledVolts m.vbat) ∧ (measuredCounts m s).i = some (sampledCurrent m.shunt) ∧
      (measuredCounts m s).mode = s.chg.mode ∧ (measuredCounts m s).doze = s.chg.doze ∧
      (measuredCounts m s).ign = s.chg.ign := by
    unfold measuredCounts
    rw [e]
    exact ⟨rfl, rfl, rfl, rfl, rfl, rfl, rfl⟩
  obtain ⟨ctemps, cfig, cv, ci, cmode, cdoze, cign⟩ := counts
  unfold moved
  generalize floorMoved (measuredCounts m s) = c at *
  exact ⟨htemps.trans ctemps, hfig.trans cfig, hv.trans cv, hi.trans ci, hmode.trans cmode, hdoze.trans cdoze,
    hign.trans cign, hfloor⟩

/-- What a measurement hands to HTR, CLR, SCH and DMD (R25). -/
def resultsHanded (c : Chg) (dt v : Nat) (f : Floor) : List Msg :=
  [.htr (.measured (heaterReadings c dt v)), .clr (.measured dt (c.temp 2)), .sch (.outside (c.temp 1)),
    .dmd (.figures ((c.figures.map Figures.a).getD 0) f)]

/-- The results handed on are figures and readings of the inputs only. -/
theorem resultsHanded_congr {c c' : Chg} (dt v : Nat) (f : Floor) (htemps : c'.temps = c.temps)
    (hfig : c'.figures = c.figures) : resultsHanded c' dt v f = resultsHanded c dt v f := by
  simp only [resultsHanded, heaterReadings, Chg.temp, Chg.tempStarting, htemps, hfig]

/-- CHG after a measurement, before the review of the part mode: DOZE ends where the floor state changed (R20). -/
def movedAwake (m : Samples) (s : State) : Chg := if (moved m s).floor = s.chg.floor then moved m s else awake (moved m s)

theorem measure_entered (m : Samples) (s : State) :
    measure m s =
      (let e := enterFloor { measuredCounts m s with interval := s.chg.mode.seconds } (nextFloor (measuredCounts m s)) s
       ((reviewMode e.1 s).1, (measureCharge s.free m s.chg).2 ++
        resultsHanded (measureCharge s.free m s.chg).1 s.chg.interval (sampledVolts m.vbat) (nextFloor (measuredCounts m s)) ++
        e.2 ++ (reviewMode e.1 s).2)) := rfl

/-- A measurement at CHG in the words of the statement: the charge steps' posts, the results handed on, then the change of floor
state and the review of the part mode. -/
theorem measure_eq (m : Samples) (s : State) :
    measure m s =
      ((modeReviewed (movedAwake m s) s).1,
       (measureCharge s.free m s.chg).2 ++
        resultsHanded (moved m s) s.chg.interval (sampledVolts m.vbat) (moved m s).floor ++
        (if (moved m s).floor = s.chg.floor then [] else floorFollows s.free (moved m s) (moved m s).floor) ++
        (modeReviewed (movedAwake m s) s).2) := by
  obtain ⟨htemps, hfig, -, -, -, -, -, hfloor⟩ := moved_fields m s
  obtain ⟨hstood, -⟩ := measuredCounts_counters m s
  have entry : enterFloor { measuredCounts m s with interval := s.chg.mode.seconds } (nextFloor (measuredCounts m s)) s =
      (movedAwake m s,
        if (moved m s).floor = s.chg.floor then [] else floorFollows s.free (moved m s) (moved m s).floor) :=
    enterFloor_floorMoved s.chg.mode.seconds s hstood
  rw [measure_entered, entry, resultsHanded_congr _ _ _ htemps hfig, hfloor]
  dsimp only
  rw [reviewMode_eq]

/-- Settles O12: the counters by the floor state they start in; what is handed on, part by part. -/
theorem measurementMovesTheFloor : Obligations.MeasurementMovesTheFloor := by
  refine ⟨fun m s => ?_, fun m s htemps htrims => ?_⟩
  · obtain ⟨t, ht, hfloor, hlow, hclear, hcharge, hhard⟩ := exec_measurement_floor m s
    obtain ⟨cfloor, cign, clow, chard, cclear, ccharge⟩ := measuredCounts_counters m (fresh s)
    rw [fresh_chg] at cfloor cign clow chard cclear ccharge
    refine ⟨t, ht, ?_⟩
    rw [← sampledVolts_eq, ← sampledCurrent_eq]
    refine ⟨fun hf => ?_, fun hf => ?_, fun hf => ?_, ?_, ?_, ?_, ?_⟩
    · rw [hfloor, nextFloor_of_clear (cfloor.trans hf), chard, clow]
      simp only [hf, ne_eq, reduceCtorEq, not_false_eq_true, true_and]
    · rw [hfloor, nextFloor_of_critical (cfloor.trans hf), chard, cclear]
      simp only [hf, ne_eq, reduceCtorEq, not_false_eq_true, true_and]
    · rw [hfloor, nextFloor_of_cutoff (cfloor.trans hf), ccharge, cign]
      by_cases hi : s.chg.ign = true
      · simp only [hi, or_true]
      · simp only [hf, hi, true_and, or_false, Bool.false_eq_true]
    · rw [hlow, clow, counter_eq]
    · rw [hclear, cclear, counter_eq]
    · rw [hcharge, ccharge, counter_eq]
    · rw [hhard, chard, ← ite_not, counter_eq]
  · obtain ⟨t, ht, hcore⟩ := measurement_next m s
    obtain ⟨-, -, mv, mi, mmode, mdoze, mign, -⟩ := moved_fields m (fresh s)
    have hcore : t.chg.core = (moved m (fresh s)).core := hcore.trans (measure_core_moved m (fresh s))
    have whole := exec_chg (i := .measurement m) rfl (measure_eq m (fresh s))
    rw [measureCharge_posts, sampleInputs_posts_six (c := (fresh s).chg) _ m htemps htrims, moveCharge_fst] at whole
    refine ⟨t, moved m (fresh s), ht, ?_⟩
    rw [← sampledVolts_eq, ← sampledCurrent_eq]
    have same {α : Type} (f : Chg → α) (hf : ∀ c : Chg, f c.core = f c) : f t.chg = f (moved m (fresh s)) := by
      rw [← hf t.chg, hcore, hf]
    refine ⟨Host.Outcome.next.inj (ht.symm.trans whole), mmode, mdoze, mign, mv, mi, ?_, same Chg.temps fun _ => rfl,
      same Chg.figures fun _ => rfl, same Chg.floor fun _ => rfl, same Chg.interval fun _ => rfl⟩
    show s.chg.mode.seconds = _
    cases s.chg.mode <;> rfl

end Sys2Proof.Machine

/-! O54: the Service settings of CHG (R22 to R24). -/

namespace Sys2Proof.Machine

/-! ### The ranges -/

theorem batteryInRange_iff (p : BatteryParams) : batteryInRange p = true ↔
    20000 ≤ p.cNom ∧ p.cNom ≤ 400000 ∧ 800 ≤ p.e ∧ p.e ≤ 1000 ∧ 24000 ≤ p.vFull ∧ p.vFull ≤ 30000 ∧ 0 ≤ p.iTail ∧
      p.iTail ≤ 2000 ∧ p.rBase ≤ 200000 ∧ p.rCold ≤ 50000 ∧ 21000 ≤ p.vCut ∧ p.vCut ≤ 26000 ∧ 20000 ≤ p.vHard ∧
      p.vHard ≤ 25800 ∧ p.vHard + 200 ≤ p.vCut := by
  simp only [batteryInRange, natIn, intIn, Bool.and_eq_true, decide_eq_true_eq, Nat.zero_le, true_and, and_assoc]

theorem increasing_iff (l : List Nat) : increasing l = true ↔ l.Pairwise (· < ·) := by
  rw [← List.isChain_iff_pairwise]
  induction l with
  | nil => simp [increasing]
  | cons a l ih =>
    cases l with
    | nil => simp [increasing]
    | cons b l => simp only [increasing, Bool.and_eq_true, decide_eq_true_eq, ih, List.isChain_cons_cons]

theorem ocvInRange_iff (l : List Nat) :
    ocvInRange l = true ↔ l.length = 6 ∧ (∀ v ∈ l, v ≤ 32767) ∧ l.Pairwise (· < ·) := by
  simp only [ocvInRange, Bool.and_eq_true, beq_iff_eq, List.all_eq_true, decide_eq_true_eq, increasing_iff, and_assoc]

/-! ### A setting request at CHG (1.6) -/

/-- The figures recomputed and handed to DMD, once there are any (R22, R26). -/
theorem handFigures_eq (c : Chg) :
    handFigures c =
      ({ c with figures := if c.figures.isSome then some (figuresOf c.battery c.q c.synced c.tb) else none },
        if c.figures.isSome then [.dmd (.battery (figuresOf c.battery c.q c.synced c.tb).a)] else []) := by
  unfold handFigures
  cases h : c.figures with
  | none =>
    dsimp only [Option.isSome_none]
    rw [if_neg (by simp), if_neg (by simp), ← h]
  | some f => rfl

/-- A setting request that CHG takes: RANGE with no change, or applied with OK (1.6). -/
theorem exec_chgRequest {i : Instr} {tag k : Byte} {r : Request} {e : ChgEv} {ok : Bool} {apply : Chg → Chg} {s : State}
    (hi : requestOf i = some (tag, r)) (hk : BitVec.ofNat 8 (r.code + 128) = k) (hs : HasSlot s)
    (hsrv : s.lnk.service = true) (ho : r.owner = some (.chg e))
    (he : chgHandle e (dispatched k tag s) = chgRequest ok apply s.chg) :
    (ok = false → exec i s = .next (finish [] (answered k tag 3 [] (dispatched k tag s)))) ∧
    (ok = true → exec i s = .next (finish (handFigures (apply s.chg)).2
      (answered k tag 0 [] { dispatched k tag s with chg := (handFigures (apply s.chg)).1 }))) := by
  have run {ms : List Msg} {c : Chg} {st : Status} (h : chgHandle e (dispatched k tag s) = (c, answer st [] :: ms)) :
      exec i s = .next (finish ms (answered k tag st.code [] { dispatched k tag s with chg := c })) := by
    rw [exec_requestOf hi]
    refine congrArg _ (request_finish hk hs (fun _ => hsrv) ho rfl ?_ rfl)
    rw [deliver_chg, h]
  refine ⟨fun h => run (st := .range) (he.trans ?_), fun h => run (st := .ok) (he.trans ?_)⟩
  · rw [chgRequest, h]
    rfl
  · rw [chgRequest, if_pos h]

/-- The figures by the temperature (R13 to R15), in the words of the statement. -/
theorem figuresOf_eq (b : BatteryParams) (q : Nat) (synced : Bool) (tb : Option Int) :
    figuresOf b q synced tb =
      (let k := match tb with
        | none => 600
        | some x => if 200 ≤ x then 1000 else if 0 ≤ x then 900 else if -100 ≤ x then 800 else if -200 ≤ x then 700 else 600
      let steps : Nat := match tb with
        | none => 4
        | some x => if x.tdiv 10 < 0 then ((x.tdiv 10).natAbs + 9) / 10 else 0
      let qd := q * k / 1000
      let reserve := min (b.rBase + b.rCold * steps) b.cNom
      let u := if synced then 0 else b.cNom / 10
      ⟨qd, k, steps, reserve, u, qd - reserve - u⟩) := by
  rcases tb with _ | x
  · rfl
  · simp only [figuresOf, deratingOf, coldStepsOf, divT, coldSteps_round]

theorem setBattery_of_eq {p : BatteryParams} {c : Chg} (h : p.cNom = c.battery.cNom) :
    setBattery p c = { c with battery := p } := if_pos h

theorem setBattery_of_ne {p : BatteryParams} {c : Chg} (h : p.cNom ≠ c.battery.cNom) :
    setBattery p c =
      { c with
        battery := p, synced := false, syncCount := 0, syncDone := false, q := min c.q p.cNom
        r := if p.cNom < c.q then 0 else c.r } := if_neg h

/-- SENSOR_TRIM (R24): it hands no figures on. -/
theorem exec_sensorTrim (tag : Byte) {n : Nat} {d : Int} {s : State} (hs : HasSlot s) (hsrv : s.lnk.service = true) :
    (5 < n ∨ d < -100 ∨ 100 < d → exec (.sensorTrim tag n d) s =
      .next (finish [] (answered 0xB4#8 tag 3 [] (dispatched 0xB4#8 tag s)))) ∧
    (n ≤ 5 → -100 ≤ d → d ≤ 100 → exec (.sensorTrim tag n d) s = .next (finish [] (answered 0xB4#8 tag 0 []
      { dispatched 0xB4#8 tag s with chg := { s.chg with trims := s.chg.trims.set n d } }))) := by
  have run {c : Chg} {st : Status} (h : setTrim n d s.chg = (c, [answer st []])) :
      exec (.sensorTrim tag n d) s =
        .next (finish [] (answered 0xB4#8 tag st.code [] { dispatched 0xB4#8 tag s with chg := c })) := by
    rw [exec_requestOf rfl]
    refine congrArg _ (request_finish rfl hs (fun _ => hsrv) rfl rfl ?_ rfl)
    rw [deliver_chg]
    show ({ dispatched 0xB4#8 tag s with chg := (setTrim n d s.chg).1 }, (setTrim n d s.chg).2) = _
    rw [h]
  have inRange : intIn (-100) 100 d = true ↔ -100 ≤ d ∧ d ≤ 100 := by simp [intIn]
  refine ⟨fun h => run (st := .range) (if_neg fun hc => ?_), fun hn hlo hhi =>
    run (st := .ok) (if_pos ⟨hn, inRange.mpr ⟨hlo, hhi⟩⟩)⟩
  have := inRange.mp hc.2
  omega

/-- Settles O54: each request by its range, with the figures that the applied setting gives. -/
theorem serviceSettingsOfTheCharge : Obligations.ServiceSettingsOfTheCharge := by
  intro tag p charge ocv input offset s hs hsrv
  obtain ⟨batteryRefused, batteryApplied⟩ :=
    exec_chgRequest (i := .batterySet tag p) (k := 0xB1#8) rfl rfl hs hsrv rfl rfl
  obtain ⟨chargeRefused, chargeApplied⟩ :=
    exec_chgRequest (i := .chargeSet tag charge) (k := 0xB2#8) rfl rfl hs hsrv rfl rfl
  obtain ⟨ocvRefused, ocvApplied⟩ := exec_chgRequest (i := .ocvSet tag ocv) (k := 0xB3#8)
    (apply := fun c => { c with ocv := ocv }) rfl rfl hs hsrv rfl rfl
  obtain ⟨trimRefused, trimApplied⟩ := exec_sensorTrim tag (n := input) (d := offset) hs hsrv
  simp only [handFigures_eq, figuresOf_eq] at batteryApplied chargeApplied ocvApplied
  refine ⟨fun h => batteryRefused ?_, fun h he => ?_, fun h he => ?_, fun h => chargeRefused ?_, fun h => ?_,
    fun h => ocvRefused ?_, fun h => ?_, trimRefused, trimApplied⟩
  · exact Bool.eq_false_iff.mpr (mt (batteryInRange_iff p).mp h)
  · have := batteryApplied ((batteryInRange_iff p).mpr h)
    rw [setBattery_of_eq he] at this
    exact this
  · have := batteryApplied ((batteryInRange_iff p).mpr h)
    rw [setBattery_of_ne he] at this
    exact this
  · exact decide_eq_false (Nat.not_le.mpr h)
  · exact chargeApplied (decide_eq_true h)
  · exact Bool.eq_false_iff.mpr (mt (ocvInRange_iff ocv).mp h)
  · exact ocvApplied ((ocvInRange_iff ocv).mpr h)

end Sys2Proof.Machine

/-! O6: the blocks after a reset (R201). -/

namespace Sys2Proof.Machine

/-- Each of the three resets is a start-up. -/
theorem exec_reset {c : Instr} {pins : Pins} {s : State}
    (h : c = .powerOn pins ∨ c = .brownOut pins ∨ (c = .restartReset pins ∧ restartDue s = true)) :
    ∃ kind, exec c s = .next (startUp kind pins s) := by
  rcases h with rfl | rfl | ⟨rfl, hd⟩
  · exact ⟨_, rfl⟩
  · exact ⟨_, rfl⟩
  · refine ⟨.restart, ?_⟩
    show Host.Outcome.next (if restartDue s then startUp .restart pins s else s) = _
    rw [if_pos hd]

/-- After a reset CHG has its reset values, but for a doze timer that already runs. -/
theorem startUp_chg (kind : ResetKind) (pins : Pins) (s : State) :
    (startUp kind pins s).chg =
      { Chg.atReset (usedSettings s.sto) (usedCharge s.sto (usedSettings s.sto).battery.cNom) pins with
        doze := (startUp kind pins s).chg.doze } := by
  obtain ⟨⟨-, hmode, -⟩, hcore, -⟩ := startUp_parts kind pins s
  have h := Chg.eq_of_core hcore
  rw [hmode] at h
  exact h

/-- After a reset every block but CHG, RPQ and STO has its reset values. -/
theorem startUp_blocks (kind : ResetKind) (pins : Pins) (s : State) :
    (startUp kind pins s).dmd = Dmd.atReset (usedSettings s.sto) pins ∧
      (startUp kind pins s).htr = Htr.atReset (usedSettings s.sto) (usedItems s.sto) ∧
      (startUp kind pins s).clr = Clr.atReset (usedSettings s.sto) pins ∧
      (startUp kind pins s).lgt = Lgt.atReset (usedSettings s.sto) pins ∧
      (startUp kind pins s).rcl = Rcl.atReset (usedSettings s.sto) ∧ (startUp kind pins s).sch = Sch.atReset ∧
      (startUp kind pins s).alr = Alr.atReset (usedSettings s.sto) ∧ (startUp kind pins s).lnk = Lnk.atReset pins := by
  obtain ⟨-, -, parts⟩ := startUp_parts kind pins s
  rw [parts]
  exact ⟨rfl, rfl, rfl, rfl, rfl, rfl, rfl, rfl⟩

/-- Settles O6: each block is at its reset values, which are the ones listed. -/
theorem resetLeavesTheBlocks : Obligations.ResetLeavesTheBlocks := by
  refine ⟨fun c pins s h => ?_, fun c pins s h => ?_⟩ <;> obtain ⟨kind, he⟩ := exec_reset h <;>
    obtain ⟨hdmd, hhtr, hclr, hlgt, hrcl, hsch, halr, hlnk⟩ := startUp_blocks kind pins s <;>
    refine ⟨_, he, ?_⟩
  · rw [hdmd, hhtr, hclr]
    refine ⟨⟨_, startUp_chg kind pins s⟩, rfl, ?_, ?_⟩
    · exact ⟨rfl, rfl, rfl, rfl, rfl, rfl, rfl, rfl, rfl, rfl, rfl, rfl, rfl, rfl, rfl, rfl, rfl, rfl, rfl, rfl, rfl⟩
    · exact ⟨rfl, rfl, rfl, rfl, rfl, rfl, rfl, rfl, rfl, rfl, rfl, rfl, rfl, rfl, rfl, rfl, rfl, rfl, rfl, rfl, rfl⟩
  · rw [hlgt, hrcl, hsch, halr, hlnk]
    refine ⟨?_, rfl, rfl, ?_, ?_⟩
    · exact ⟨rfl, rfl, rfl, rfl, rfl, rfl, rfl, rfl, rfl, rfl, rfl, rfl, rfl, rfl⟩
    · exact ⟨rfl, rfl, rfl, rfl, rfl, rfl⟩
    · exact ⟨rfl, rfl, rfl, rfl, rfl, rfl, rfl, rfl⟩

end Sys2Proof.Machine

/-! O34: the second timer (R125, R130, R132). -/

namespace Sys2Proof.Machine

/-! ### The tests of RCL in the words of the statement -/

theorem testDue_eq (r : Rcl) :
    testDue r =
      if r.due = false ∧ r.settings.driveLimit - r.settings.lead ≤ r.acc then
        ({ r with due := true }, breakWarning false true r.acc)
      else (r, []) := rfl

theorem testOverdue_eq (r : Rcl) :
    testOverdue r =
      if r.overdue = false ∧ r.settings.driveLimit ≤ r.acc then
        ({ r with overdue := true }, breakWarning true true r.acc)
      else (r, []) := rfl

/-- A flag raised when it is low and its condition holds. -/
theorem raised_eq (b : Bool) (p : Prop) [Decidable p] : (if b = false ∧ p then true else b) = (b || decide p) := by
  cases b <;> by_cases hp : p <;> simp [hp]

theorem testDue_fst (r : Rcl) :
    (testDue r).1 = { r with due := r.due || decide (r.settings.driveLimit - r.settings.lead ≤ r.acc) } := by
  rw [← raised_eq, testDue_eq]
  split <;> rfl

theorem testOverdue_fst (r : Rcl) :
    (testOverdue r).1 = { r with overdue := r.overdue || decide (r.settings.driveLimit ≤ r.acc) } := by
  rw [← raised_eq, testOverdue_eq]
  split <;> rfl

/-- A test of both warnings (R132). -/
theorem testWarnings_eq (r : Rcl) : testWarnings r = (warned r, warnedMsgs r) := by
  have due : (testDue r).2 =
      if r.due = false ∧ r.settings.driveLimit - r.settings.lead ≤ r.acc then breakWarning false true r.acc else [] := by
    rw [testDue_eq, apply_ite Prod.snd]
  have overdue : (testOverdue (testDue r).1).2 =
      if r.overdue = false ∧ r.settings.driveLimit ≤ r.acc then breakWarning true true r.acc else [] := by
    rw [testDue_fst, testOverdue_eq, apply_ite Prod.snd]
  unfold testWarnings
  dsimp only
  rw [due, overdue, testOverdue_fst, testDue_fst]
  rfl

/-- A qualification (R129, R130). -/
theorem qualify_eq {b : BreakRun} {r : Rcl} (m : Marker) (h : r.breakRun = some b) :
    qualify b m r = (qualified m r, qualifiedMsgs r) := by
  rw [qualified, h]
  rfl

/-- Whether the break run has reached the break minimum (R130, test 1). -/
def fullDue (r : Rcl) : Bool := r.breakRun.any fun b => b.marker != .full && decide (r.settings.breakMin ≤ b.length)

/-- Whether the break run has reached the split second part (R130, test 2). -/
def splitDue (r : Rcl) : Bool :=
  r.breakRun.any fun b => b.marker == .none && r.split && decide (r.settings.splitSecond ≤ b.length)

theorem testFull_eq (r : Rcl) :
    testFull r = if fullDue r = true then (qualified .full r, qualifiedMsgs r) else (r, []) := by
  unfold testFull fullDue
  split
  · next b hb =>
    simp only [hb, Option.any_some, Bool.and_eq_true, bne_iff_ne, decide_eq_true_eq, qualify_eq _ hb]
  · next hb =>
    rw [hb, if_neg (by simp)]

theorem testSplit_eq (r : Rcl) :
    testSplit r = if splitDue r = true then (qualified .split r, qualifiedMsgs r) else (r, []) := by
  unfold testSplit splitDue
  split
  · next b hb =>
    simp only [hb, Option.any_some, Bool.and_eq_true, beq_iff_eq, decide_eq_true_eq, qualify_eq _ hb, and_assoc]
  · next hb =>
    rw [hb, if_neg (by simp)]

/-- A qualification clears the split flag, so the second test finds nothing. -/
theorem splitDue_qualified (m : Marker) (r : Rcl) : splitDue (qualified m r) = false := by
  unfold splitDue qualified
  cases r.breakRun <;> simp

/-- The second at RCL, by what the break run has reached. -/
theorem secondEvent_eq (r : Rcl) :
    let a := advanceSecond r
    (fullDue a = true → secondEvent r =
      (warned (qualified .full a), qualifiedMsgs a ++ warnedMsgs (qualified .full a) ++ secondMsgs)) ∧
    (fullDue a = false → splitDue a = true → secondEvent r =
      (warned (qualified .split a), qualifiedMsgs a ++ warnedMsgs (qualified .split a) ++ secondMsgs)) ∧
    (fullDue a = false → splitDue a = false → secondEvent r = (warned a, warnedMsgs a ++ secondMsgs)) := by
  intro a
  have second : secondEvent r =
      ((testWarnings (testSplit (testFull a).1).1).1,
        (testFull a).2 ++ (testSplit (testFull a).1).2 ++ (testWarnings (testSplit (testFull a).1).1).2 ++ secondMsgs) := rfl
  rw [second]
  refine ⟨fun hf => ?_, fun hf hs => ?_, fun hf hs => ?_⟩
  · rw [testFull_eq, if_pos hf, testSplit_eq, splitDue_qualified, if_neg (by simp), testWarnings_eq, List.append_nil]
  · rw [testFull_eq, hf, if_neg (by simp), testSplit_eq, if_pos hs, testWarnings_eq, List.nil_append]
  · rw [testFull_eq, hf, if_neg (by simp), testSplit_eq, hs, if_neg (by simp), testWarnings_eq, List.nil_append,
      List.nil_append]

theorem nextTime_eq {t : Nat} (h : t ≤ 4294967295) : nextTime t = (t + 1) % 4294967296 := by
  unfold nextTime maxCount
  split <;> omega

/-! ### The second as a command -/

/-- The second, with the expiries still due taken first. -/
theorem exec_secondTimer {s : State} {r : Rcl} {ms : List Msg} (h : secondEvent (events (overdueMsgs s) s).rcl = (r, ms)) :
    exec .secondTimer s = .next (settle ms { fresh (events (overdueMsgs s) s) with rcl := r }) := by
  have run : exec .secondTimer s = .next (event (.rcl .second) (events (overdueMsgs s) s)) := rfl
  rw [run]
  generalize events (overdueMsgs s) s = u at h ⊢
  have second : deliver (.rcl .second) (fresh u) = ({ fresh u with rcl := r }, ms) := by
    rw [deliver_rcl]
    show ({ fresh u with rcl := (secondEvent u.rcl).1 }, (secondEvent u.rcl).2) = _
    rw [h]
  rw [event_eq second]

/-- A command that brings RCL a test. -/
theorem exec_rclTest {i : Instr} {e : RclEv} {s : State} {p : Prop} [Decidable p] {r : Rcl} {ms : List Msg}
    (he : exec i s = .next (event (.rcl e) s)) (h : rclHandle e (fresh s) = if p then (r, ms) else (s.rcl, [])) :
    exec i s = .next (if p then settle ms { fresh s with rcl := r } else fresh s) := by
  by_cases hp : p
  · rw [if_pos hp] at h ⊢
    exact exec_settle he (by rw [deliver_rcl, h])
  · rw [if_neg hp] at h ⊢
    exact exec_quiet he (by rw [deliver_rcl, h]; rfl)

/-! ### What each block counts (R125) -/

theorem heaterSecond_purge (h : Htr) :
    (heaterSecond h).purge = if h.seq = .purge then { h.purge with time := h.purge.time + 1 } else h.purge := by
  simp only [heaterSecond]
  split <;> rfl

theorem secondRecord_eq (k : Nat) (r : AlertRecord) :
    secondRecord k r =
      { r with
        sounding := if 5 ≤ k ∧ r.state = .sounding then min 600 (r.sounding + 1) else r.sounding
        resound := tick r.resound } := by
  simp only [secondRecord, isEventKind, Bool.and_eq_true, decide_eq_true_eq, beq_iff_eq, satAdd]

/-- Settles O34: the second by what the break run has reached, each block's count, and the four tests. -/
theorem secondTimerAdvancesTheClock : Obligations.SecondTimerAdvancesTheClock := by
  refine ⟨fun s => ?_, fun s => ?_, fun s => ?_⟩
  · intro u r advanced full split seconds hcab
    obtain ⟨hfull, hsplit, hnone⟩ := secondEvent_eq r
    have adv : advanceSecond r = advanced := by
      rw [advanceSecond, nextTime_eq hcab]
      rfl
    rw [adv] at hfull hsplit hnone
    exact ⟨fun hf => exec_secondTimer (hfull hf), fun hf hs => exec_secondTimer (hsplit hf hs),
      fun hf hs => exec_secondTimer (hnone hf hs)⟩
  · intro less
    have ticks (t : Option Nat) : less t = tick t := by
      cases t <;> rfl
    simp only [ticks]
    refine ⟨rfl, rfl, ?_, rfl, rfl, rfl, ?_, rfl⟩
    · rw [deliver_htr, ← heaterSecond_purge]
      rfl
    · simp only [← secondRecord_eq]
      rfl
  · exact ⟨exec_rclTest rfl (testFull_eq s.rcl), exec_rclTest rfl (testSplit_eq s.rcl), exec_rclTest rfl (testDue_eq s.rcl),
      exec_rclTest rfl (testOverdue_eq s.rcl)⟩

end Sys2Proof.Machine

/-! O53: the defaults at every block (R202). -/

namespace Sys2Proof.Machine

/-! ### HTR -/

/-- A change of the level cap leaves the settings, the table and the state of the sequence. -/
theorem recap_keeps (h : Htr) (quiet : Bool) :
    (recap h quiet).profile = h.profile ∧ (recap h quiet).table = h.table ∧
      (recap h quiet).pendingTable = h.pendingTable ∧ (recap h quiet).seq = h.seq := by
  unfold recap
  dsimp only
  split <;> exact ⟨rfl, rfl, rfl, rfl⟩

theorem applyProfile_keeps (p : HeatProfile) (quiet : Bool) (h : Htr) :
    (applyProfile p quiet h).1.profile = p ∧ (applyProfile p quiet h).1.table = h.table ∧
      (applyProfile p quiet h).1.pendingTable = h.pendingTable ∧ (applyProfile p quiet h).1.seq = h.seq := by
  unfold applyProfile
  dsimp only
  split <;> exact recap_keeps _ quiet

theorem writeTable_profile (t : List LevelRow) (h : Htr) : (writeTable t h).1.profile = h.profile := by
  unfold writeTable
  split <;> rfl

theorem writeTable_of_still {t : List LevelRow} {h : Htr} (hs : h.seq = .off ∨ h.seq = .lockout ∨ h.seq = .wait) :
    (writeTable t h).1 = { h with table := t, pendingTable := none } := by
  unfold writeTable
  rcases hs with hs | hs | hs <;> simp only [hs]

theorem writeTable_of_not_still {t : List LevelRow} {h : Htr} (hs : ¬(h.seq = .off ∨ h.seq = .lockout ∨ h.seq = .wait)) :
    (writeTable t h).1 = { h with pendingTable := some t } := by
  unfold writeTable
  split
  · next h0 => exact absurd (.inl h0) hs
  · next h0 => exact absurd (.inr (.inr h0)) hs
  · next h0 => exact absurd (.inr (.inl h0)) hs
  · rfl

/-- The defaults at HTR: the profile, and the table at once or waiting (R76). -/
theorem heaterDefaults_eq (quiet : Bool) (h : Htr) :
    let still := h.seq = .off ∨ h.seq = .lockout ∨ h.seq = .wait
    (heaterDefaults quiet h).1.profile = defaultProfile ∧
      (still → (heaterDefaults quiet h).1.table = defaultTable ∧ (heaterDefaults quiet h).1.pendingTable = none) ∧
      (¬still → (heaterDefaults quiet h).1.table = h.table ∧
        (heaterDefaults quiet h).1.pendingTable = some defaultTable) := by
  obtain ⟨hprofile, htable, -, hseq⟩ := applyProfile_keeps defaultProfile quiet h
  have written : (heaterDefaults quiet h).1 = (writeTable defaultTable (applyProfile defaultProfile quiet h).1).1 := rfl
  refine ⟨?_, fun hs => ?_, fun hs => ?_⟩
  · rw [written, writeTable_profile, hprofile]
  · rw [written, writeTable_of_still (hseq ▸ hs)]
    exact ⟨rfl, rfl⟩
  · rw [written, writeTable_of_not_still (hseq ▸ hs)]
    exact ⟨htable, rfl⟩

/-! ### CHG, RPQ and ALR -/

/-- Figures handed on leave the settings and the sync state. -/
theorem handFigures_keeps (c : Chg) :
    (handFigures c).1.battery = c.battery ∧ (handFigures c).1.ocv = c.ocv ∧ (handFigures c).1.trims = c.trims ∧
      (handFigures c).1.synced = c.synced := by
  unfold handFigures
  split <;> exact ⟨rfl, rfl, rfl, rfl⟩

theorem setBattery_battery (p : BatteryParams) (c : Chg) : (setBattery p c).battery = p := by
  unfold setBattery
  split <;> rfl

theorem setBattery_synced (p : BatteryParams) (c : Chg) :
    (setBattery p c).synced = if c.battery.cNom = p.cNom then c.synced else false := by
  unfold setBattery
  by_cases h : p.cNom = c.battery.cNom
  · rw [if_pos h, if_pos h.symm]
  · rw [if_neg h, if_neg (Ne.symm h)]

/-- The causes up to `n` take the levels that `f` gives them, one after another. -/
theorem foldl_relevel_getElem? (f : Nat → Nat) (q : Rpq) (n k : Nat) :
    ((List.range n).foldl (fun q i => relevel (i + 1) (f i) q) q).levels[k]? =
      if k < n ∧ k < q.levels.length then some (f k) else q.levels[k]? := by
  induction n with
  | zero => simp
  | succ n ih =>
    have len := foldl_relevel_length f (List.range n) q
    rw [List.range_succ, List.foldl_append, List.foldl_cons, List.foldl_nil, relevel_levels, Nat.add_sub_cancel,
      List.getElem?_set, ih, len]
    by_cases hk : n = k
    · subst hk
      by_cases hl : n < q.levels.length
      · simp [hl]
      · simp [hl]
    · have : k < n + 1 ↔ k < n := by omega
      simp only [if_neg hk, this]

theorem defaultRelevel_levels {q : Rpq} (h : q.levels.length = 33) : (defaultRelevel q).levels = defaultLevels := by
  have all : (List.range 33).map (fun i => defaultLevels.getD i 0) = defaultLevels := by decide
  refine Eq.trans (List.ext_getElem? fun k => ?_) all
  rw [defaultRelevel, foldl_relevel_getElem? (fun i => defaultLevels.getD i 0), h, List.getElem?_map]
  by_cases hk : k < 33
  · rw [if_pos ⟨hk, hk⟩, List.getElem?_range hk]
    rfl
  · rw [if_neg fun hc => hk hc.1, List.getElem?_eq_none (by omega), List.getElem?_eq_none (by simpa using hk)]
    rfl

/-- What the defaults leave at RPQ. -/
theorem deliver_rpqDefaults (s : State) :
    (deliver (.rpq .defaults) s).1.rpq.mask = 7 ∧ (deliver (.rpq .defaults) s).1.rpq.threshold = 2 ∧
      (s.rpq.levels.length = 33 → (deliver (.rpq .defaults) s).1.rpq.levels = defaultLevels) := by
  have core : (rpqHandle .defaults s).1.core = { defaultRelevel s.rpq with mask := 7, threshold := 2 }.core :=
    concludeReports_core _ _ _
  simp only [Rpq.core, Prod.mk.injEq] at core
  obtain ⟨levels, mask, threshold, -⟩ := core
  rw [deliver_rpq]
  generalize rpqHandle .defaults s = r at levels mask threshold ⊢
  exact ⟨mask, threshold, fun h => levels.trans (defaultRelevel_levels h)⟩

theorem setAlertChannel_channel (n : Nat) (a : Alr) : (setAlertChannel n a).1.channel = n := by
  unfold setAlertChannel
  split <;> rfl

/-! ### The request and its deliveries -/

/-- DEFAULTS with no save in progress: answered OK, then handed to the seven blocks. -/
theorem exec_defaults {tag : Byte} {s : State} (hs : HasSlot s) (hsave : s.sto.saving = none) (hsrv : s.lnk.service = true) :
    exec (.defaults tag) s = .next (finish
      [.chg .defaults, .htr .defaults, .clr .defaults, .lgt .defaults, .rpq .defaults, .rcl .defaults, .alr .defaults]
      (answered 0xB5#8 tag 0 [] (dispatched 0xB5#8 tag s))) := by
  rw [exec_requestOf rfl]
  refine congrArg _ (request_finish (st := .ok) rfl hs (fun _ => hsrv) rfl rfl ?_ rfl)
  have free : s.sto.saving.isSome = false := by rw [hsave]; rfl
  have taken : defaultsRequest s.sto = answer .ok [] :: defaultMsgs := by
    rw [defaultsRequest, free]
    rfl
  exact Prod.ext rfl taken

/-- Settles O53: the request, the values of the defaults, then block after block. -/
theorem defaultsReachEveryBlock : Obligations.DefaultsReachEveryBlock := by
  intro tag s
  obtain ⟨hprofile, hstill, hnot⟩ := heaterDefaults_eq s.rcl.quiet s.htr
  obtain ⟨cbattery, cocv, ctrims, csynced⟩ :=
    handFigures_keeps { setBattery defaultBattery s.chg with ocv := defaultOcv, trims := defaultTrims }
  obtain ⟨mask, threshold, levels⟩ := deliver_rpqDefaults s
  refine ⟨exec_defaults, rfl, ?_, ?_, ?_, ?_, ?_, ?_, ?_, ?_, ?_, ?_, ?_, ?_, mask, threshold, levels, ?_,
    setAlertChannel_channel 4 s.alr⟩
  · exact cbattery.trans (setBattery_battery _ _)
  · exact cocv
  · exact ctrims
  · exact csynced.trans (setBattery_synced _ _)
  · exact hprofile
  · exact hstill
  · exact hnot
  · exact applyCool_settings _ _ _
  · rfl
  · rfl
  · rfl
  · rfl
  show (testWarnings { s.rcl with settings := defaultRest }).1.settings = defaultRest
  rw [testWarnings_eq]
  rfl

end Sys2Proof.Machine

/-! DMD: the demand entries in budget order, and grants by entry number (R27, R28, R40). -/

namespace Sys2Proof.Machine

/-! ### Grants by entry number -/

section Grants

variable {g m : List (Nat × Nat)} {order : List (Nat × Entry)} {n : Nat}

/-- The level granted to an entry, in the words of the statements. -/
theorem lookup_getD_eq_grantOf (g : List (Nat × Nat)) (n : Nat) : (g.lookup n).getD 0 = grantOf g n := by
  induction g with
  | nil => rfl
  | cons p g ih =>
    obtain ⟨k, v⟩ := p
    by_cases h : n = k
    · simp [grantOf, h]
    · have hb : (n == k) = false := beq_false_of_ne h
      rw [List.lookup_cons, hb]
      exact ih.trans (if_neg (Ne.symm h)).symm

theorem grantOf_cons_self (n v : Nat) (g : List (Nat × Nat)) : grantOf ((n, v) :: g) n = v := if_pos rfl

theorem grantOf_cons_of_ne {k : Nat} (v : Nat) (g : List (Nat × Nat)) (h : n ≠ k) :
    grantOf ((k, v) :: g) n = grantOf g n := if_neg h.symm

theorem grantOf_append_of_mem (m : List (Nat × Nat)) (h : n ∈ g.map Prod.fst) : grantOf (g ++ m) n = grantOf g n := by
  induction g with
  | nil => simp at h
  | cons p g ih =>
    by_cases hp : n = p.1
    · simp [grantOf, hp]
    · have : n ∈ g.map Prod.fst := by simpa [hp] using h
      rw [List.cons_append, grantOf_cons_of_ne _ _ hp, grantOf_cons_of_ne _ _ hp, ih this]

theorem grantOf_append_of_notMem (m : List (Nat × Nat)) (h : n ∉ g.map Prod.fst) : grantOf (g ++ m) n = grantOf m n := by
  induction g with
  | nil => rfl
  | cons p g ih =>
    have hp : n ≠ p.1 ∧ n ∉ g.map Prod.fst := by simpa [not_or] using h
    rw [List.cons_append, grantOf_cons_of_ne _ _ hp.1, ih hp.2]

/-- With one grant for a number, a listed grant is the level granted. -/
theorem grantOf_of_mem {v : Nat} (hg : (g.map Prod.fst).Nodup) (h : (n, v) ∈ g) : grantOf g n = v := by
  induction g with
  | nil => simp at h
  | cons p g ih =>
    simp only [List.map_cons, List.nodup_cons] at hg
    rcases List.mem_cons.mp h with rfl | h
    · exact grantOf_cons_self _ _ _
    · have hne : n ≠ p.1 := fun e => hg.1 (e ▸ List.mem_map_of_mem (f := Prod.fst) h)
      rw [grantOf_cons_of_ne _ _ hne, ih hg.2 h]

/-- Grants listed entry by entry, read back by the entries' numbers. -/
theorem grantOf_map {f : Nat × Entry → Nat} {p : Nat × Entry} (ho : (order.map Prod.fst).Nodup) (hp : p ∈ order) :
    grantOf (order.map fun q => (q.1, f q)) p.1 = f p :=
  grantOf_of_mem (by simpa [Function.comp_def] using ho) (List.mem_map_of_mem (f := fun q => (q.1, f q)) hp)

/-- The entries that grants were listed for, read back one by one, give the list again. -/
theorem map_grantOf (hn : g.map Prod.fst = order.map Prod.fst) (ho : (order.map Prod.fst).Nodup) :
    order.map (fun p => (p.1, grantOf g p.1)) = g := by
  calc order.map (fun p => (p.1, grantOf g p.1))
      = (order.map Prod.fst).map fun k => (k, grantOf g k) := by simp
    _ = g.map fun q => (q.1, grantOf g q.1) := by rw [← hn]; simp
    _ = g.map id := List.map_congr_left fun q hq => Prod.ext rfl (grantOf_of_mem (hn ▸ ho) hq)
    _ = g := List.map_id g

end Grants

/-! ### The present entries and the budget order -/

theorem mem_presentEntries (d : Dmd) (p : Nat × Entry) : p ∈ presentEntries d ↔ d.entries[p.1]? = some (some p.2) := by
  obtain ⟨n, e⟩ := p
  simp [presentEntries, List.mem_filterMap, List.mem_zipIdx_iff_getElem?]

/-- An entry stands at one position (R27). -/
theorem presentEntries_unique {d : Dmd} {p q : Nat × Entry} (hp : p ∈ presentEntries d) (hq : q ∈ presentEntries d)
    (h : p.1 = q.1) : p = q := by
  rw [mem_presentEntries] at hp hq
  rw [h, hq] at hp
  exact Prod.ext h (by simpa using hp.symm)

theorem presentEntries_nodup (d : Dmd) : (presentEntries d).Nodup := by
  have h : d.entries.zipIdx.Pairwise fun a b => a.2 ≠ b.2 := by
    rw [← List.pairwise_map (f := Prod.snd) (R := (· ≠ ·)), List.zipIdx_map_snd]
    exact List.nodup_range'
  refine List.Pairwise.filterMap _ (fun a b hab x hx y hy => ?_) h
  obtain ⟨-, -, rfl⟩ := Option.map_eq_some_iff.mp hx
  obtain ⟨-, -, rfl⟩ := Option.map_eq_some_iff.mp hy
  exact fun hxy => hab (congrArg Prod.fst hxy)

theorem mem_budgetOrder (d : Dmd) (p : Nat × Entry) : p ∈ budgetOrder d ↔ p ∈ presentEntries d ∧ p.2.cls ≤ 3 := by
  have hcls : p.2.cls ∈ [0, 1, 2, 3] ↔ p.2.cls ≤ 3 := by
    simp only [List.mem_cons, List.not_mem_nil, or_false]
    omega
  simp only [budgetOrder, List.mem_flatMap, List.mem_filter, beq_iff_eq, ← hcls]
  exact ⟨fun ⟨c, hc, hp, e⟩ => ⟨hp, e ▸ hc⟩, fun ⟨hp, hc⟩ => ⟨_, hc, hp, rfl⟩⟩

/-- The numbers of the budget order are distinct. -/
theorem budgetOrder_numbers_nodup (d : Dmd) : ((budgetOrder d).map Prod.fst).Nodup := by
  refine List.Nodup.map_on (fun p hp q hq h => ?_) ?_
  · exact presentEntries_unique ((mem_budgetOrder d p).mp hp).1 ((mem_budgetOrder d q).mp hq).1 h
  · refine List.nodup_flatMap.mpr ⟨fun c _ => (presentEntries_nodup d).filter _, ?_⟩
    refine List.Pairwise.imp (R := (· ≠ ·)) (fun {a b} hab p hpa hpb => ?_) (by decide)
    simp only [List.mem_filter, beq_iff_eq] at hpa hpb
    exact hab (hpa.2.symm.trans hpb.2)

end Sys2Proof.Machine

/-! DMD: the walk (R30, R37, R38). -/

namespace Sys2Proof.Machine

@[simp] theorem need_zero (e : Entry) (h : Nat) : need e h 0 = 0 := rfl

/-! ### The highest level that fits (R38) -/

section Fit

variable (e : Entry) (h b br sum : Nat)

theorem fitLevel_le (l : Nat) : fitLevel e h b br sum l ≤ l := by
  induction l with
  | zero => exact Nat.le_refl 0
  | succ l ih =>
    unfold fitLevel
    split <;> omega

/-- A level above 0 that the walk grants fits. -/
theorem fits_fitLevel {l : Nat} (hne : fitLevel e h b br sum l ≠ 0) :
    fits e h b br sum (fitLevel e h b br sum l) = true := by
  induction l with
  | zero => exact absurd rfl hne
  | succ l ih =>
    unfold fitLevel at hne ⊢
    split
    · assumption
    · next hf => exact ih (by simpa [hf] using hne)

/-- No level above the one granted fits. -/
theorem not_fits_above_fitLevel {l k : Nat} (hk : fitLevel e h b br sum l < k) (hl : k ≤ l) :
    fits e h b br sum k = false := by
  induction l with
  | zero => omega
  | succ l ih =>
    unfold fitLevel at hk
    split at hk
    · omega
    · next hf =>
      rcases Nat.lt_or_eq_of_le hl with hlt | rfl
      · exact ih hk (by omega)
      · exact Bool.eq_false_iff.mpr hf

theorem fits_iff (l : Nat) : fits e h b br sum l = true ↔ sum + need e h l ≤ if l ≤ e.granted.getD 0 then b else br :=
  decide_eq_true_iff

end Fit

/-! ### What a walk hands out (R37, R38) -/

section Walk

variable {h b br : Nat}

theorem walk_cons (sum n : Nat) (e : Entry) (l : List (Nat × Entry)) :
    walk h b br false sum ((n, e) :: l) =
      let g := fitLevel e h b br sum e.requested
      let r := walk h b br (decide (g = 0 ∧ e.requested ≠ 0)) (sum + need e h g) l
      ((n, g) :: r.1, r.2) := rfl

theorem walk_cons_tail (sum n : Nat) (e : Entry) (l : List (Nat × Entry)) :
    walk h b br true sum ((n, e) :: l) = ((n, 0) :: (walk h b br true sum l).1, (walk h b br true sum l).2) := rfl

/-- The walk grants a level to each entry, in their order. -/
theorem walk_numbers (tail : Bool) (sum : Nat) (order : List (Nat × Entry)) :
    (walk h b br tail sum order).1.map Prod.fst = order.map Prod.fst := by
  induction order generalizing tail sum with
  | nil => cases tail <;> rfl
  | cons p l ih => cases tail <;> simp [walk, ih]

/-- In the tail nothing is granted. -/
theorem grantOf_walk_tail (sum : Nat) (order : List (Nat × Entry)) (n : Nat) :
    grantOf (walk h b br true sum order).1 n = 0 := by
  induction order with
  | nil => rfl
  | cons p l ih =>
    rw [walk_cons_tail]
    unfold grantOf
    split
    · rfl
    · exact ih

/-- No entry is granted more than its request. -/
theorem grantOf_walk_le {p : Nat × Entry} {order : List (Nat × Entry)} (ho : (order.map Prod.fst).Nodup) (hp : p ∈ order)
    (tail : Bool) (sum : Nat) : grantOf (walk h b br tail sum order).1 p.1 ≤ p.2.requested := by
  induction order generalizing tail sum with
  | nil => cases hp
  | cons q l ih =>
    cases tail with
    | true => rw [grantOf_walk_tail]; omega
    | false =>
      simp only [List.map_cons, List.nodup_cons] at ho
      rw [walk_cons]
      rcases List.mem_cons.mp hp with rfl | hl
      · rw [grantOf_cons_self]
        exact fitLevel_le _ _ _ _ _ _
      · have hne : p.1 ≠ q.1 := fun e => ho.1 (e ▸ List.mem_map_of_mem (f := Prod.fst) hl)
        rw [grantOf_cons_of_ne _ _ hne]
        exact ih ho.2 hl _ _

/-- After an entry that is refused its whole request every entry is granted 0 (the shed tail). -/
theorem walk_shedTail {order : List (Nat × Entry)} (ho : (order.map Prod.fst).Nodup) (tail : Bool) (sum : Nat) :
    order.Pairwise fun p q => p.2.requested ≠ 0 → grantOf (walk h b br tail sum order).1 p.1 = 0 →
      grantOf (walk h b br tail sum order).1 q.1 = 0 := by
  induction order generalizing tail sum with
  | nil => exact List.Pairwise.nil
  | cons p l ih =>
    cases tail with
    | true => exact List.pairwise_of_forall_mem_list fun _ _ _ _ _ _ => grantOf_walk_tail _ _ _
    | false =>
      simp only [List.map_cons, List.nodup_cons] at ho
      have hne : ∀ q ∈ l, q.1 ≠ p.1 := fun q hq e => ho.1 (e ▸ List.mem_map_of_mem (f := Prod.fst) hq)
      have rest := ih ho.2 (decide (fitLevel p.2 h b br sum p.2.requested = 0 ∧ p.2.requested ≠ 0))
        (sum + need p.2 h (fitLevel p.2 h b br sum p.2.requested))
      rw [walk_cons]
      refine List.pairwise_cons.mpr ⟨fun q hq hr hz => ?_, rest.imp_of_mem fun {q r} hq hr hqr => ?_⟩
      · rw [grantOf_cons_self] at hz
        rw [grantOf_cons_of_ne _ _ (hne q hq), decide_eq_true ⟨hz, hr⟩]
        exact grantOf_walk_tail _ _ _
      · rw [grantOf_cons_of_ne _ _ (hne q hq), grantOf_cons_of_ne _ _ (hne r hr)]
        exact hqr

/-- The running sum a walk ends with is the sum of the Needs of what it granted. -/
theorem walk_sum {order : List (Nat × Entry)} (ho : (order.map Prod.fst).Nodup) (tail : Bool) (sum : Nat) :
    (walk h b br tail sum order).2 =
      sum + (order.map fun p => need p.2 h (grantOf (walk h b br tail sum order).1 p.1)).sum := by
  induction order generalizing tail sum with
  | nil => cases tail <;> rfl
  | cons p l ih =>
    simp only [List.map_cons, List.nodup_cons] at ho
    have hne : ∀ q ∈ l, q.1 ≠ p.1 := fun q hq e => ho.1 (e ▸ List.mem_map_of_mem (f := Prod.fst) hq)
    cases tail with
    | true =>
      rw [walk_cons_tail]
      simpa [grantOf_walk_tail, grantOf] using ih ho.2 true sum
    | false =>
      rw [walk_cons]
      dsimp only
      rw [ih ho.2, List.map_cons, List.sum_cons, grantOf_cons_self, ← Nat.add_assoc]
      congr 2
      exact List.map_congr_left fun q hq => by rw [grantOf_cons_of_ne _ _ (hne q hq)]

/-- A walk that starts within the remaining budget stays within it. -/
theorem walk_sum_le {sum : Nat} (hbr : br ≤ b) (hs : sum ≤ b) (tail : Bool) (order : List (Nat × Entry)) :
    (walk h b br tail sum order).2 ≤ b := by
  induction order generalizing tail sum with
  | nil => cases tail <;> exact hs
  | cons p l ih =>
    cases tail with
    | true => exact ih hs true
    | false =>
      rw [walk_cons]
      refine ih ?_ _
      by_cases hg : fitLevel p.2 h b br sum p.2.requested = 0
      · rw [hg]
        exact hs
      · have hfit := (fits_iff _ _ _ _ _ _).mp (fits_fitLevel _ _ _ _ _ hg)
        split at hfit <;> omega

end Walk

end Sys2Proof.Machine

/-! DMD: a budget pass in the words of the statements (R31 to R43). -/

namespace Sys2Proof.Machine

/-! ### The two parts of the budget order -/

/-- The class-0 entries with their requests (R37). -/
def essentialRequests (d : Dmd) : List (Nat × Nat) :=
  ((budgetOrder d).filter fun p => p.2.cls == 0).map fun p => (p.1, p.2.requested)

/-- The non-Essential entries in budget order (R38). -/
def otherEntries (d : Dmd) : List (Nat × Entry) := (budgetOrder d).filter fun p => p.2.cls != 0

section Parts

variable {d : Dmd} {p : Nat × Entry}

theorem mem_otherEntries : p ∈ otherEntries d ↔ p ∈ budgetOrder d ∧ p.2.cls ≠ 0 := by
  simp [otherEntries]

theorem otherEntries_numbers_nodup (d : Dmd) : ((otherEntries d).map Prod.fst).Nodup :=
  (budgetOrder_numbers_nodup d).sublist (List.filter_sublist.map _)

/-- A class-0 entry is granted its request first. -/
theorem grantOf_essentialRequests_append (hp : p ∈ budgetOrder d) (hc : p.2.cls = 0) (g : List (Nat × Nat)) :
    grantOf (essentialRequests d ++ g) p.1 = p.2.requested := by
  have hmem : p ∈ (budgetOrder d).filter fun p => p.2.cls == 0 := by simp [hp, hc]
  have hnum : p.1 ∈ (essentialRequests d).map Prod.fst :=
    List.mem_map.mpr ⟨_, List.mem_map_of_mem hmem, rfl⟩
  rw [grantOf_append_of_mem _ hnum]
  exact grantOf_map (f := fun q => q.2.requested)
    ((budgetOrder_numbers_nodup d).sublist (List.filter_sublist.map _)) hmem

/-- What another entry is granted stands behind the class-0 entries. -/
theorem grantOf_append_of_other (hp : p ∈ otherEntries d) (g : List (Nat × Nat)) :
    grantOf (essentialRequests d ++ g) p.1 = grantOf g p.1 := by
  obtain ⟨hpo, hpc⟩ := mem_otherEntries.mp hp
  refine grantOf_append_of_notMem _ fun hmem => hpc ?_
  obtain ⟨_, hr, hnum⟩ := List.mem_map.mp hmem
  obtain ⟨q, hq, rfl⟩ := List.mem_map.mp hr
  obtain ⟨hqo, hqc⟩ := List.mem_filter.mp hq
  have : q = p := presentEntries_unique ((mem_budgetOrder d q).mp hqo).1 ((mem_budgetOrder d p).mp hpo).1 hnum
  exact this ▸ beq_iff_eq.mp hqc

end Parts

/-! ### The grants of a pass (R35 to R38) -/

section PassGrants

variable {d : Dmd} {p : Nat × Entry} (h b br : Nat)

theorem passGrants_of_critical (hf : d.floor = .critical) (hi : d.ign = false) :
    passGrants d h b br = (essentialRequests d ++ (otherEntries d).map fun p => (p.1, 0), 0) := by
  simp [passGrants, essentialRequests, otherEntries, hf, hi]

theorem passGrants_of_clear (hf : d.floor = .clear) (hi : d.ign = false) :
    passGrants d h b br =
      (essentialRequests d ++ (walk h b br false 0 (otherEntries d)).1, (walk h b br false 0 (otherEntries d)).2) := by
  simp [passGrants, essentialRequests, otherEntries, hf, hi]

theorem grantOf_passGrants_of_cutoff (hf : d.floor = .cutoff) (hp : p ∈ budgetOrder d) :
    grantOf (passGrants d h b br).1 p.1 = 0 := by
  rw [passGrants, if_pos hf]
  exact grantOf_map (f := fun _ => 0) (budgetOrder_numbers_nodup d) hp

theorem grantOf_passGrants_of_ign (hf : d.floor ≠ .cutoff) (hi : d.ign = true) (hp : p ∈ budgetOrder d) :
    grantOf (passGrants d h b br).1 p.1 = p.2.requested := by
  rw [passGrants, if_neg hf, if_pos hi]
  exact grantOf_map (f := fun q => q.2.requested) (budgetOrder_numbers_nodup d) hp

theorem grantOf_passGrants_of_essential (hf : d.floor ≠ .cutoff) (hc : p.2.cls = 0) (hp : p ∈ budgetOrder d) :
    grantOf (passGrants d h b br).1 p.1 = p.2.requested := by
  cases hi : d.ign with
  | true => exact grantOf_passGrants_of_ign h b br hf hi hp
  | false =>
    cases hfl : d.floor with
    | cutoff => exact absurd hfl hf
    | critical => rw [passGrants_of_critical h b br hfl hi]; exact grantOf_essentialRequests_append hp hc _
    | clear => rw [passGrants_of_clear h b br hfl hi]; exact grantOf_essentialRequests_append hp hc _

/-- CRITICAL with IGN off: nothing for the others. -/
theorem grantOf_passGrants_of_critical (hf : d.floor = .critical) (hi : d.ign = false) (hp : p ∈ otherEntries d) :
    grantOf (passGrants d h b br).1 p.1 = 0 := by
  rw [passGrants_of_critical h b br hf hi]
  exact (grantOf_append_of_other hp _).trans (grantOf_map (f := fun _ => 0) (otherEntries_numbers_nodup d) hp)

/-- CLEAR with IGN off: the others are granted what the walk gives them. -/
theorem grantOf_passGrants_of_clear (hf : d.floor = .clear) (hi : d.ign = false) (hp : p ∈ otherEntries d) :
    grantOf (passGrants d h b br).1 p.1 = grantOf (walk h b br false 0 (otherEntries d)).1 p.1 := by
  rw [passGrants_of_clear h b br hf hi]
  exact grantOf_append_of_other hp _

/-- No entry is granted more than its request. -/
theorem grantOf_passGrants_le (hp : p ∈ budgetOrder d) : grantOf (passGrants d h b br).1 p.1 ≤ p.2.requested := by
  by_cases hf : d.floor = .cutoff
  · exact (grantOf_passGrants_of_cutoff h b br hf hp).trans_le (Nat.zero_le _)
  by_cases hc : p.2.cls = 0
  · exact (grantOf_passGrants_of_essential h b br hf hc hp).le
  have hother := mem_otherEntries.mpr ⟨hp, hc⟩
  cases hi : d.ign with
  | true => exact (grantOf_passGrants_of_ign h b br hf hi hp).le
  | false =>
    cases hfl : d.floor with
    | cutoff => exact absurd hfl hf
    | critical => exact (grantOf_passGrants_of_critical h b br hfl hi hother).trans_le (Nat.zero_le _)
    | clear =>
      rw [grantOf_passGrants_of_clear h b br hfl hi hother]
      exact grantOf_walk_le (otherEntries_numbers_nodup d) hother _ _

end PassGrants

/-! ### The model's pass is the statements' pass (R34 to R43) -/

theorem horizon_eq (d : Dmd) (s : State) : horizon d s = horizonNow d s := by
  cases hw : d.wake <;> simp only [horizon, horizonOf, rawHorizon, horizonNow, clampInt, hw] <;> split_ifs <;> rfl

/-- The way of a pass (R34). -/
def wayOf (d : Dmd) : Way := if d.floor = .cutoff then .cutoff else if d.ign = true then .ignition else .walk

/-- The budget state a pass comes to (R40), by the first entry it trimmed (R39). -/
def stateOf (d : Dmd) (trimmed : Option Nat) : Budget :=
  if d.floor = .cutoff then .cutoff else if d.floor = .critical then .critical
  else if d.ign = true ∨ trimmed = none then .normal else .trimmed

/-- The first non-Essential entry granted below its request. -/
theorem firstTrimmed_eq (d : Dmd) (g : List (Nat × Nat)) :
    firstTrimmed (budgetOrder d) g =
      ((otherEntries d).find? fun p => decide (grantOf g p.1 < p.2.requested)).map Prod.fst := by
  simp only [firstTrimmed, otherEntries, List.find?_filter, Bool.decide_and, Bool.decide_eq_true]

theorem firstTrimmed_eq_none_iff (d : Dmd) (g : List (Nat × Nat)) :
    firstTrimmed (budgetOrder d) g = none ↔ ∀ p ∈ otherEntries d, p.2.requested ≤ grantOf g p.1 := by
  simp [firstTrimmed_eq]

/-- R34: what a pass decides. -/
theorem decidePass_eq (d : Dmd) (h b br : Nat) :
    decidePass (budgetOrder d) d.floor d.ign h b br =
      ⟨wayOf d, (passGrants d h b br).1, (passGrants d h b br).2,
        stateOf d (firstTrimmed (budgetOrder d) (passGrants d h b br).1)⟩ := by
  cases hf : d.floor with
  | cutoff => simp [decidePass, cutoffDecision, wayOf, stateOf, passGrants, hf]
  | critical =>
    cases hi : d.ign <;> simp [decidePass, ignitionDecision, walkDecision, wayOf, stateOf, passGrants, hf, hi]
  | clear =>
    cases hi : d.ign with
    | true => simp [decidePass, ignitionDecision, wayOf, stateOf, passGrants, hf, hi]
    | false =>
      have htrim : firstTrimmed (budgetOrder d) (passGrants d h b br).1 = none ↔
          ∀ p ∈ otherEntries d, p.2.requested ≤ grantOf (walk h b br false 0 (otherEntries d)).1 p.1 :=
        (firstTrimmed_eq_none_iff d _).trans
          (forall₂_congr fun p hp => by rw [grantOf_passGrants_of_clear h b br hf hi hp])
      have hall : ((otherEntries d).all fun p =>
            decide (p.2.requested ≤ grantOf (walk h b br false 0 (otherEntries d)).1 p.1)) = true ↔
          firstTrimmed (budgetOrder d) (passGrants d h b br).1 = none := by
        simp only [htrim, List.all_eq_true, decide_eq_true_eq]
      have hstate : stateOf d (firstTrimmed (budgetOrder d) (passGrants d h b br).1) =
          if ((otherEntries d).all fun p =>
            decide (p.2.requested ≤ grantOf (walk h b br false 0 (otherEntries d)).1 p.1)) = true
          then .normal else .trimmed := by
        simp [stateOf, hf, hi, hall]
      have hway : wayOf d = .walk := by simp [wayOf, hf, hi]
      rw [hstate, hway, passGrants_of_clear h b br hf hi]
      rfl

theorem decide_budget_ne (x y : Budget) : decide (x ≠ y) = (x != y) := decide_not

/-- R34 to R43: with A known a pass is the pass of the statements. -/
theorem budgetPass_eq {t : Trigger} {a : Nat} {d : Dmd} (s : State) (ha : d.a = some a) :
    budgetPass t d s = passed t a d s := by
  unfold budgetPass passed
  rw [ha]
  simp only [lookup_getD_eq_grantOf, passResult, decidePass_eq, horizon_eq, firstTrimmed_eq, fixedDeliveries, budgetReports,
    hostReports, decide_budget_ne, msgsIf, Bool.and_eq_true, beq_iff_eq, List.append_assoc]
  refine Prod.ext rfl (congrArg₂ (· ++ ·) (List.map_congr_left fun p _ => ?_) rfl)
  obtain ⟨_ | _ | _ | n, e⟩ := p <;> rfl

/-- R33: no pass before the first A. -/
theorem budgetPass_of_none {t : Trigger} {d : Dmd} (s : State) (ha : d.a = none) : budgetPass t d s = (d, []) := by
  rw [budgetPass, ha]

end Sys2Proof.Machine

/-! DMD: what a budget pass leaves in the entries (R40). -/

namespace Sys2Proof.Machine

section Applied

variable {d d' : Dmd} {g : List (Nat × Nat)}

/-- R37: the budget left to the others. -/
def othersBudget (a : Nat) (d : Dmd) (s : State) : Nat := a - essentialSum (budgetOrder d) (horizonNow d s)

/-- The levels a pass on the available charge `a` grants. -/
def passLevels (a : Nat) (d : Dmd) (s : State) : List (Nat × Nat) :=
  (passGrants d (horizonNow d s) (othersBudget a d s) (othersBudget a d s * 95 / 100)).1

theorem passed_entries (t : Trigger) (a : Nat) (d : Dmd) (s : State) :
    (passed t a d s).1.entries = applyGrants d.entries (passLevels a d s) := by
  simp only [passed, lookup_getD_eq_grantOf]
  rfl

theorem passed_budget_of_cutoff {d : Dmd} (t : Trigger) (a : Nat) (s : State) (hf : d.floor = .cutoff) :
    (passed t a d s).1.budget = .cutoff := if_pos hf

theorem passed_budget_of_critical {d : Dmd} (t : Trigger) (a : Nat) (s : State) (hf : d.floor = .critical) :
    (passed t a d s).1.budget = .critical := by
  simp [passed, hf]

theorem applyGrants_getElem? (entries : List (Option Entry)) (g : List (Nat × Nat)) (n : Nat) :
    (applyGrants entries g)[n]? = entries[n]?.map (Option.map fun e => { e with granted := some (grantOf g n) }) := by
  cases h : entries[n]? <;> simp [applyGrants, h]

theorem applyGrants_of_some {entries : List (Option Entry)} {n : Nat} {e : Entry} (g : List (Nat × Nat))
    (h : entries[n]? = some (some e)) :
    (applyGrants entries g)[n]? = some (some { e with granted := some (grantOf g n) }) := by
  rw [applyGrants_getElem?, h]
  rfl

theorem applyGrants_of_none {entries : List (Option Entry)} {n : Nat} (g : List (Nat × Nat))
    (h : entries[n]? = some none) : (applyGrants entries g)[n]? = some none := by
  rw [applyGrants_getElem?, h]
  rfl

/-- An entry with the level granted to its number. -/
def regranted (g : List (Nat × Nat)) (p : Nat × Entry) : Nat × Entry :=
  (p.1, { p.2 with granted := some (grantOf g p.1) })

theorem presentEntries_applied (h : d'.entries = applyGrants d.entries g) :
    presentEntries d' = (presentEntries d).map (regranted g) := by
  have hz : (applyGrants d.entries g).zipIdx = d.entries.zipIdx.map fun p =>
      (p.1.map fun e => { e with granted := some (grantOf g p.2) }, p.2) := by
    refine List.ext_getElem? fun n => ?_
    rw [List.getElem?_zipIdx, applyGrants_getElem?, List.getElem?_map, List.getElem?_zipIdx]
    cases d.entries[n]? <;> simp
  rw [presentEntries, presentEntries, h, hz, List.filterMap_map, List.map_filterMap]
  refine List.filterMap_congr fun p _ => ?_
  obtain ⟨_ | e, n⟩ := p <;> rfl

/-- Grants change neither the classes nor the numbers, so the budget order stands. -/
theorem budgetOrder_applied (h : d'.entries = applyGrants d.entries g) :
    budgetOrder d' = (budgetOrder d).map (regranted g) := by
  simp only [budgetOrder, presentEntries_applied h, List.map_flatMap, List.filter_map]
  rfl

theorem otherEntries_applied (h : d'.entries = applyGrants d.entries g) :
    otherEntries d' = (otherEntries d).map (regranted g) := by
  simp only [otherEntries, budgetOrder_applied h, List.filter_map]
  rfl

end Applied

/-! ### What a pass leaves the others (R38) -/

section Others

variable {a : Nat} {d : Dmd} {s : State}

/-- The walk of a pass in CLEAR with IGN off. -/
def passWalk (a : Nat) (d : Dmd) (s : State) : List (Nat × Nat) × Nat :=
  walk (horizonNow d s) (othersBudget a d s) (othersBudget a d s * 95 / 100) false 0 (otherEntries d)

theorem grantOf_passLevels_of_clear {p : Nat × Entry} (hf : d.floor = .clear) (hi : d.ign = false)
    (hp : p ∈ otherEntries d) : grantOf (passLevels a d s) p.1 = grantOf (passWalk a d s).1 p.1 :=
  grantOf_passGrants_of_clear _ _ _ hf hi hp

/-- The walk grants one level to each of the others, in budget order. -/
theorem map_passLevels_of_clear (hf : d.floor = .clear) (hi : d.ign = false) :
    (otherEntries d).map (fun p => (p.1, grantOf (passLevels a d s) p.1)) = (passWalk a d s).1 := by
  rw [← map_grantOf (walk_numbers _ _ _) (otherEntries_numbers_nodup d) (g := (passWalk a d s).1)]
  exact List.map_congr_left fun p hp => by rw [grantOf_passLevels_of_clear hf hi hp]

/-- The shed tail in every pass: behind an entry that asked and was granted 0 all are granted 0. -/
theorem passLevels_shedTail : (otherEntries d).Pairwise fun p q =>
    p.2.requested ≠ 0 → grantOf (passLevels a d s) p.1 = 0 → grantOf (passLevels a d s) q.1 = 0 := by
  by_cases hcut : d.floor = .cutoff
  · exact List.pairwise_of_forall_mem_list fun p _ q hq _ _ =>
      grantOf_passGrants_of_cutoff _ _ _ hcut (mem_otherEntries.mp hq).1
  cases hi : d.ign with
  | true =>
    refine List.pairwise_of_forall_mem_list fun p hp q _ hr hz => absurd ?_ hr
    exact (grantOf_passGrants_of_ign _ _ _ hcut hi (mem_otherEntries.mp hp).1).symm.trans hz
  | false =>
    cases hf : d.floor with
    | cutoff => exact absurd hf hcut
    | critical =>
      exact List.pairwise_of_forall_mem_list fun p _ q hq _ _ => grantOf_passGrants_of_critical _ _ _ hf hi hq
    | clear =>
      have htail : (otherEntries d).Pairwise fun p q => p.2.requested ≠ 0 →
          grantOf (passWalk a d s).1 p.1 = 0 → grantOf (passWalk a d s).1 q.1 = 0 :=
        walk_shedTail (otherEntries_numbers_nodup d) false 0
      refine htail.imp_of_mem fun {p q} hp hq hpq => ?_
      rw [grantOf_passLevels_of_clear hf hi hp, grantOf_passLevels_of_clear hf hi hq]
      exact hpq

/-- In CLEAR with IGN off the Needs of what the others are granted come to at most the budget left to them. -/
theorem sum_need_passLevels_le (hf : d.floor = .clear) (hi : d.ign = false) :
    ((otherEntries d).map fun p => need p.2 (horizonNow d s) (grantOf (passLevels a d s) p.1)).sum ≤ othersBudget a d s := by
  calc ((otherEntries d).map fun p => need p.2 (horizonNow d s) (grantOf (passLevels a d s) p.1)).sum
      = ((otherEntries d).map fun p => need p.2 (horizonNow d s) (grantOf (passWalk a d s).1 p.1)).sum :=
        congrArg List.sum (List.map_congr_left fun p hp => by rw [grantOf_passLevels_of_clear hf hi hp])
    _ = (passWalk a d s).2 := ((walk_sum (otherEntries_numbers_nodup d) false 0).trans (Nat.zero_add _)).symm
    _ ≤ othersBudget a d s := walk_sum_le (by omega) (Nat.zero_le _) false _

end Others

end Sys2Proof.Machine

/-! O17: the walk and what a pass leaves (R30, R37, R38). -/

namespace Sys2Proof.Machine

/-- One entry of the walk: the highest level that fits (R38). -/
theorem walk_cons_highest (h b br sum n : Nat) (e : Entry) (rest : List (Nat × Entry)) :
    ∃ g, walk h b br false sum ((n, e) :: rest) =
        ((n, g) :: (walk h b br (decide (g = 0 ∧ e.requested ≠ 0)) (sum + need e h g) rest).1,
          (walk h b br (decide (g = 0 ∧ e.requested ≠ 0)) (sum + need e h g) rest).2) ∧
      g ≤ e.requested ∧ (g ≠ 0 → fits e h b br sum g = true) ∧
      ∀ l, g < l → l ≤ e.requested → ¬fits e h b br sum l = true :=
  ⟨fitLevel e h b br sum e.requested, walk_cons sum n e rest, fitLevel_le e h b br sum _, fits_fitLevel e h b br sum,
    fun _ hg hl => Bool.eq_false_iff.mp (not_fits_above_fitLevel e h b br sum hg hl)⟩

/-- Settles O17: the walk entry by entry, then what a pass leaves the others, then the bound on the walk's sum. -/
theorem walkGrantsTheHighestLevelThatFits : Obligations.WalkGrantsTheHighestLevelThatFits := by
  refine ⟨?_, ?_, fun h b br order hbr => walk_sum_le hbr (Nat.zero_le b) false order⟩
  · intro h b br sum n e rest charge within
    have hcharge : ∀ l, charge l = need e h l := fun l => by cases l <;> rfl
    have hwithin : ∀ l, within l ↔ fits e h b br sum l = true := fun l => by rw [fits_iff, ← hcharge]
    simp only [hcharge, hwithin]
    exact ⟨walk_cons_highest h b br sum n e rest, walk_cons_tail sum n e rest⟩
  · intro t a d0 s d others h charge essential b d'
    have hcharge : ∀ e l, charge e l = need e h l := fun e l => by cases l <;> rfl
    have hpass : d' = (passed t a d s).1 := congrArg Prod.fst (budgetPass_eq s rfl)
    have hb : b = othersBudget a d s := by simp only [b, essential, hcharge]; rfl
    have hothers : others d' = (otherEntries d).map (regranted (passLevels a d s)) := by
      rw [hpass]
      exact otherEntries_applied (passed_entries t a d s)
    refine ⟨fun hf hi => ?_, ?_, fun hi hbudget => ?_⟩
    · have granted := congrArg (List.map fun p => (p.1, some p.2)) (map_passLevels_of_clear (a := a) (s := s) hf hi)
      rw [List.map_map] at granted
      rw [hothers, List.map_map, hb]
      exact granted
    · rw [hothers, List.pairwise_map]
      exact passLevels_shedTail.imp fun hpq hr hz => congrArg some (hpq hr (Option.some.inj hz))
    · have hf : d.floor = .clear := by
        cases hfl : d.floor with
        | clear => rfl
        | critical => simp [hpass, passed_budget_of_critical t a s hfl] at hbudget
        | cutoff => simp [hpass, passed_budget_of_cutoff t a s hfl] at hbudget
      simp only [hcharge, hothers, hb, List.map_map]
      exact sum_need_passLevels_le hf hi

end Sys2Proof.Machine

/-! O16: what runs a budget pass (R25, R29, R31 to R43). -/

namespace Sys2Proof.Machine

/-! ### A delivery to DMD -/

theorem deliver_dmd_of {e : DmdEv} {s : State} {d : Dmd} {ms : List Msg} (h : dmdHandle e s = (d, ms)) :
    deliver (.dmd e) s = ({ s with dmd := d }, ms) := by
  rw [deliver_dmd, h]

/-- A delivery that changes nothing. -/
theorem deliver_dmd_idle {e : DmdEv} {s : State} (h : dmdHandle e s = (s.dmd, [])) : deliver (.dmd e) s = (s, []) :=
  deliver_dmd_of h

/-! ### The timer (R32) -/

section Timer

variable {s : State}

theorem exec_budgetTimerExpiry_pass {a : Nat} (ht : s.dmd.timer = some 0) (ha : s.dmd.a = some a) :
    exec .budgetTimerExpiry s =
      .next (settle (passed .timer a { s.dmd with timer := some 60 } s).2
        { fresh s with dmd := (passed .timer a { s.dmd with timer := some 60 } s).1 }) :=
  exec_settle rfl (deliver_dmd_of ((if_pos ht).trans (budgetPass_eq (fresh s) ha)))

theorem exec_budgetTimerExpiry_of_none (ht : s.dmd.timer = some 0) (ha : s.dmd.a = none) :
    exec .budgetTimerExpiry s = .next { fresh s with dmd := { s.dmd with timer := some 60 } } :=
  exec_quiet rfl (deliver_dmd_of ((if_pos ht).trans (budgetPass_of_none (fresh s) ha)))

theorem exec_budgetTimerExpiry_early (ht : s.dmd.timer ≠ some 0) : exec .budgetTimerExpiry s = .next (fresh s) :=
  exec_quiet rfl (deliver_dmd_idle (if_neg ht))

end Timer

/-! ### The levels a pass grants (R34 to R40) -/

/-- A present entry after a pass, by the floor state, IGN and its class. -/
theorem passed_entry {d : Dmd} {n : Nat} {e : Entry} (t : Trigger) (a : Nat) (s : State) (hcls : e.cls ≤ 3)
    (he : d.entries[n]? = some (some e)) :
    ∃ g, (passed t a d s).1.entries[n]? = some (some { e with granted := some g }) ∧
      (d.floor = .cutoff → g = 0) ∧ (d.floor ≠ .cutoff → d.ign = true → g = e.requested) ∧
      (d.floor ≠ .cutoff → e.cls = 0 → g = e.requested) ∧
      (d.floor = .critical → d.ign = false → e.cls ≠ 0 → g = 0) ∧ g ≤ e.requested := by
  have hp : (n, e) ∈ budgetOrder d := (mem_budgetOrder d (n, e)).mpr ⟨(mem_presentEntries d (n, e)).mpr he, hcls⟩
  refine ⟨grantOf (passLevels a d s) n, ?_, fun hf => ?_, fun hf hi => ?_, fun hf hc => ?_, fun hf hi hc => ?_, ?_⟩
  · rw [passed_entries]
    exact applyGrants_of_some _ he
  · exact grantOf_passGrants_of_cutoff _ _ _ hf hp
  · exact grantOf_passGrants_of_ign _ _ _ hf hi hp
  · exact grantOf_passGrants_of_essential _ _ _ hf hc hp
  · exact grantOf_passGrants_of_critical _ _ _ hf hi (mem_otherEntries.mpr ⟨hp, hc⟩)
  · exact grantOf_passGrants_le _ _ _ hp

/-- An empty position stays empty. -/
theorem passed_empty {d : Dmd} {n : Nat} (t : Trigger) (a : Nat) (s : State) (he : d.entries[n]? = some none) :
    (passed t a d s).1.entries[n]? = some none := by
  rw [passed_entries]
  exact applyGrants_of_none _ he

/-! ### Demand updates (R29) -/

theorem demandUpdate_of_some {n : Nat} {e : Entry} (u : Demand) {d : Dmd} (s : State) (he : d.entries[n]? = some (some e)) :
    demandUpdate n u d s =
      if writeDemand u e = e then (d, [])
      else budgetPass .demand { d with entries := d.entries.set n (some (writeDemand u e)) } s := by
  rw [demandUpdate, he]

theorem demandUpdate_of_empty {n : Nat} (u : Demand) {d : Dmd} (s : State) (he : (d.entries[n]?).join = none) :
    demandUpdate n u d s = (d, []) := by
  unfold demandUpdate
  split
  · next e h => simp [h] at he
  · rfl

/-- What the triggers at DMD come to: a pass with A known, and before the first A the change alone. -/
theorem deliver_dmd_pass {e : DmdEv} {t : Trigger} {d : Dmd} {s : State} (h : dmdHandle e s = budgetPass t d s) :
    (d.a = none → deliver (.dmd e) s = ({ s with dmd := d }, [])) ∧
    ∀ a, d.a = some a → deliver (.dmd e) s = ({ s with dmd := (passed t a d s).1 }, (passed t a d s).2) :=
  ⟨fun ha => deliver_dmd_of (h.trans (budgetPass_of_none s ha)),
    fun _ ha => deliver_dmd_of (h.trans (budgetPass_eq s ha))⟩

/-- Settles O16: the timer's expiry, the levels a pass grants, the demand updates, and the other triggers. -/
theorem budgetTimerRunsAPass : Obligations.BudgetTimerRunsAPass := by
  refine ⟨⟨fun a s => exec_budgetTimerExpiry_pass, fun s => exec_budgetTimerExpiry_of_none,
    fun s => exec_budgetTimerExpiry_early, fun t a d s hcls => ⟨fun n => passed_empty t a s, fun n e he => ?_⟩⟩, ?_,
    fun n u s he => deliver_dmd_idle (demandUpdate_of_empty u s he), ?_⟩
  · exact passed_entry t a s (hcls e (List.mem_of_getElem? he)) he
  · intro n e u s he new d
    have hnew : new = writeDemand u e := by
      cases hc : u.cls <;> cases hs : u.startCharge <;> simp [new, writeDemand, hc, hs]
    have hd : d = { s.dmd with entries := s.dmd.entries.set n (some (writeDemand u e)) } := by rw [← hnew]
    rw [hd, hnew]
    have step : dmdHandle (.update n u) s = _ := demandUpdate_of_some u s he
    refine ⟨fun h => deliver_dmd_idle (step.trans (if_pos h)), fun h => ?_, fun a h => ?_⟩
    · exact (deliver_dmd_pass (step.trans (if_neg h))).1
    · exact (deliver_dmd_pass (step.trans (if_neg h))).2 a
  · intro a f on w s d pass
    have trigger {e : DmdEv} (t : Trigger) (d' : Dmd) (h : dmdHandle e s = budgetPass t d' s) :
        deliver (.dmd e) s = pass t d' := by
      cases ha : d'.a with
      | none => simpa only [pass, ha] using (deliver_dmd_pass h).1 ha
      | some b => simpa only [pass, ha] using (deliver_dmd_pass h).2 b ha
    have first : dmdHandle (.figures a f) s =
        if d.a.isNone then budgetPass .firstA { d with a := some a, floor := f } s
        else ({ d with a := some a, floor := f }, []) := rfl
    refine ⟨fun ha => trigger .firstA { d with a := some a, floor := f } (first.trans (if_pos ?_)),
      fun ha => deliver_dmd_of (first.trans (if_neg ?_)), trigger .battery { d with a := some a } rfl,
      trigger .floor { d with floor := f } rfl, trigger .ign { d with ign := on } rfl,
      trigger .rest { d with wake := w } rfl⟩
    · exact Option.isNone_iff_eq_none.mpr ha
    · exact mt Option.isNone_iff_eq_none.mp ha

end Sys2Proof.Machine

/-! O18: the host's entries (R47, R48). -/

namespace Sys2Proof.Machine

/-! ### The range of a declaration (R47, check 1) -/

theorem nonDecreasing_iff (l : List Int) : nonDecreasing l = true ↔ l.Pairwise (· ≤ ·) := by
  rw [← List.isChain_iff_pairwise]
  induction l with
  | nil => simp [nonDecreasing]
  | cons a l ih =>
    cases l with
    | nil => simp [nonDecreasing]
    | cons b l => simp only [nonDecreasing, Bool.and_eq_true, decide_eq_true_eq, ih, List.isChain_cons_cons]

theorem declareInRange_iff (x : DeclareArgs) : declareInRange x = true ↔
    ((4 ≤ x.entry ∧ x.entry ≤ 7) ∨ x.entry = 255) ∧ 1 ≤ x.cls ∧ x.cls ≤ 3 ∧ 1 ≤ x.currents.length ∧
      x.currents.length ≤ 4 ∧ (∀ i ∈ x.currents, 1 ≤ i ∧ i ≤ 3000) ∧ x.currents.Pairwise (· ≤ ·) ∧
      x.requested ≤ x.currents.length ∧ x.duty ≤ 1000 := by
  simp only [declareInRange, currentsOk, natIn, intIn, Bool.and_eq_true, Bool.or_eq_true, decide_eq_true_eq, beq_iff_eq,
    List.all_eq_true, nonDecreasing_iff, and_assoc]

/-! ### A request at DMD -/

/-- A request that DMD answers with `body` and hands `ms` on. -/
theorem exec_dmdRequest {i : Instr} {tag k : Byte} {r : Request} {e : DmdEv} {s : State} {d : Dmd} {st : Status}
    {body : List Byte} {ms : List Msg} (hi : requestOf i = some (tag, r)) (hk : BitVec.ofNat 8 (r.code + 128) = k)
    (hs : HasSlot s) (ht : serviceTier r.code = false) (ho : r.owner = some (.dmd e))
    (he : dmdHandle e (dispatched k tag s) = (d, answer st body :: ms)) :
    exec i s = .next (finish ms (answered k tag st.code body { dispatched k tag s with dmd := d })) := by
  rw [exec_requestOf hi]
  refine congrArg _ (request_finish hk hs (fun h => ?_) ho rfl (deliver_dmd_of he) rfl)
  exact absurd (ht.symm.trans h) Bool.false_ne_true

theorem exec_demandDeclare {tag : Byte} {x : DeclareArgs} {s : State} {d : Dmd} {st : Status} {body : List Byte}
    {ms : List Msg} (hs : HasSlot s)
    (he : declareEntry x s.dmd (dispatched 0x9D#8 tag s) = (d, answer st body :: ms)) :
    exec (.demandDeclare tag x) s =
      .next (finish ms (answered 0x9D#8 tag st.code body { dispatched 0x9D#8 tag s with dmd := d })) :=
  exec_dmdRequest rfl rfl hs rfl rfl he

theorem exec_demandRelease {tag : Byte} {n : Nat} {s : State} {d : Dmd} {st : Status} {body : List Byte}
    {ms : List Msg} (hs : HasSlot s)
    (he : releaseEntry n s.dmd (dispatched 0x9E#8 tag s) = (d, answer st body :: ms)) :
    exec (.demandRelease tag n) s =
      .next (finish ms (answered 0x9E#8 tag st.code body { dispatched 0x9E#8 tag s with dmd := d })) :=
  exec_dmdRequest rfl rfl hs rfl rfl he

/-- DMD with a position written. -/
def withEntry (n : Nat) (o : Option Entry) (d : Dmd) : Dmd := { d with entries := d.entries.set n o }

@[simp] theorem withEntry_a (n : Nat) (o : Option Entry) (d : Dmd) : (withEntry n o d).a = d.a := rfl

theorem withEntry_getElem? {n : Nat} {d : Dmd} (o : Option Entry) (h : n < d.entries.length) :
    (withEntry n o d).entries[n]? = some o := List.getElem?_set_self h

/-! ### DEMAND_DECLARE (R47) -/

section Declare

variable {x : DeclareArgs} {d : Dmd} {n : Nat} {old : Option Entry}

theorem declareEntry_refused (s : State) (h : declareInRange x = false) : declareEntry x d s = (d, [answer .range []]) :=
  if_pos h

theorem declareEntry_full (s : State) (h : declareInRange x = true) (hn : declareSlot d x = none) :
    declareEntry x d s = (d, [answer .full []]) := by
  have hr : ¬declareInRange x = false := by simp [h]
  rw [declareEntry, if_neg hr, hn]

/-- A declaration equal to the entry its slot holds. -/
theorem declareEntry_same {e : Entry} (s : State) (h : declareInRange x = true) (hn : declareSlot d x = some n)
    (ho : (d.entries[n]?).join = some e) (he : declaredEntry x e.granted = e) :
    declareEntry x d s = (d, [declareReply n d]) := by
  have hr : ¬declareInRange x = false := by simp [h]
  rw [declareEntry, if_neg hr, hn]
  dsimp only
  rw [ho]
  exact if_pos he

/-- The trigger of the pass that a declaration runs (R33). -/
def declareTrigger (old : Option Entry) : Trigger := if old = none then .entryAdded else .demand

/-- Any other declaration that finds a slot is written, and a pass runs. -/
theorem declareEntry_written {old : Option Entry} {new : Entry} (s : State) (h : declareInRange x = true)
    (hn : declareSlot d x = some n) (ho : (d.entries[n]?).join = old)
    (hnew : declaredEntry x (old.bind Entry.granted) = new) (he : old ≠ some new) :
    declareEntry x d s =
      ((budgetPass (declareTrigger old) (withEntry n (some new) d) s).1,
        declareReply n (budgetPass (declareTrigger old) (withEntry n (some new) d) s).1 ::
          (budgetPass (declareTrigger old) (withEntry n (some new) d) s).2) := by
  have hr : ¬declareInRange x = false := by simp [h]
  subst hnew
  rw [declareEntry, if_neg hr, hn]
  dsimp only
  rw [ho]
  cases old with
  | none => rfl
  | some e => exact if_neg fun heq => he (congrArg some heq.symm)

/-- The reply to a declaration, from the entry then held. -/
theorem declareReply_of_some {e : Entry} (he : d.entries[n]? = some (some e)) :
    declareReply n d = answer .ok (u8 n ++ grantedByte e.granted) := by
  rw [declareReply, he]
  rfl

end Declare

/-! ### DEMAND_RELEASE (R48) -/

theorem releaseEntry_refused {n : Nat} {d : Dmd} (s : State) (h : n < 4 ∨ 7 < n) :
    releaseEntry n d s = (d, [answer .range []]) := by
  refine if_pos ?_
  rw [natIn, Bool.and_eq_false_iff, decide_eq_false_iff_not, decide_eq_false_iff_not]
  omega

theorem releaseEntry_inRange {n : Nat} {d : Dmd} (s : State) (hlo : 4 ≤ n) (hhi : n ≤ 7) :
    releaseEntry n d s =
      if (d.entries[n]?).join = none then (d, [answer .state []])
      else
        ((budgetPass .entryRemoved (withEntry n none d) s).1,
          answer .ok [] :: (budgetPass .entryRemoved (withEntry n none d) s).2) := by
  have hr : ¬natIn 4 7 n = false := by simp [natIn, hlo, hhi]
  exact if_neg hr

/-- Settles O18: each request by its range and its slot. -/
theorem hostEntriesAreDeclaredAndReleased : Obligations.HostEntriesAreDeclaredAndReleased := by
  refine ⟨?_, ?_⟩
  · intro tag x s hs ok slot
    have hok : ok ↔ declareInRange x = true := (declareInRange_iff x).symm
    refine ⟨fun h => ?_, fun h hn => ?_, ?_⟩
    · exact exec_demandDeclare hs (declareEntry_refused _ (Bool.eq_false_iff.mpr (mt hok.mpr h)))
    · exact exec_demandDeclare hs (declareEntry_full _ (hok.mp h) hn)
    intro n h hn hlen old new
    have held := withEntry_getElem? (d := s.dmd) (some new) hlen
    refine ⟨fun he => ?_, fun he ha => ?_, fun a he ha => ?_⟩
    · have step := declareEntry_same (dispatched 0x9D#8 tag s) (hok.mp h) hn he rfl
      rw [declareReply_of_some (Option.join_eq_some_iff.mp he)] at step
      exact exec_demandDeclare hs step
    · have step := declareEntry_written (dispatched 0x9D#8 tag s) (hok.mp h) hn (old := old) (new := new) rfl rfl he
      rw [budgetPass_of_none _ (d := withEntry n (some new) s.dmd) ha, declareReply_of_some held] at step
      exact exec_demandDeclare hs step
    · obtain ⟨g, hg⟩ : ∃ g, (passed (declareTrigger old) a (withEntry n (some new) s.dmd) s).1.entries[n]? =
          some (some { new with granted := some g }) :=
        ⟨_, by rw [passed_entries]; exact applyGrants_of_some _ held⟩
      have step := declareEntry_written (dispatched 0x9D#8 tag s) (hok.mp h) hn (old := old) (new := new) rfl rfl he
      have reply : declareReply n (passed (declareTrigger old) a (withEntry n (some new) s.dmd) (dispatched 0x9D#8 tag s)).1 =
          answer .ok (u8 n ++ u8 g) := declareReply_of_some hg
      rw [budgetPass_eq _ (d := withEntry n (some new) s.dmd) ha, reply] at step
      exact ⟨g, hg, exec_demandDeclare hs step⟩
  · intro tag n s hs
    refine ⟨fun h => exec_demandRelease hs (releaseEntry_refused _ h), fun hlo hhi he => ?_, fun hlo hhi he ha => ?_,
      fun a hlo hhi he ha => ?_⟩
    all_goals
      have step := releaseEntry_inRange (d := s.dmd) (dispatched 0x9E#8 tag s) hlo hhi
    · exact exec_demandRelease hs (step.trans (if_pos he))
    · rw [if_neg he, budgetPass_of_none _ (d := withEntry n none s.dmd) ha] at step
      exact exec_demandRelease hs step
    · rw [if_neg he, budgetPass_eq _ (d := withEntry n none s.dmd) ha] at step
      exact exec_demandRelease hs step

end Sys2Proof.Machine

/-! O19: LINK_STATS and BUDGET_READ (R50, R194). -/

namespace Sys2Proof.Machine

/-! ### LINK_STATS (R194) -/

/-- LINK_STATS is answered by LNK itself. -/
theorem exec_linkStats {tag : Byte} {clear : Nat} {s : State} {l : Lnk} (hs : HasSlot s)
    (hl : linkStatsRequest clear (dispatched 0xA0#8 tag s).lnk = l) :
    exec (.linkStats tag clear) s = .next (closed { dispatched 0xA0#8 tag s with lnk := l }) := by
  have hslot : ¬2 ≤ s.lnk.slots.length := by
    have : s.lnk.slots.length < 2 := hs
    omega
  have taken : lnkHandle (.request tag (.linkStats clear)) (fresh s) = (l, []) := by
    rw [← hl]
    exact if_neg hslot
  rw [exec_requestOf rfl, request_eq (s' := { fresh s with lnk := l }) (ms := []) (by rw [deliver_lnk, taken]), settle_nil]
  rfl

/-- Settles O19: LINK_STATS by its flag, and BUDGET_READ. -/
theorem countersAndBudgetAreRead : Obligations.CountersAndBudgetAreRead := by
  intro tag clear s hs l u counters state d pass entry
  have hpass : ∀ r : PassResult, pass r = passBytes r := fun r => by
    simp only [pass, passBytes, listField, List.append_assoc]
    cases r.firstTrimmed <;> rfl
  have hentry : ∀ e : Entry, entry e = entryBytes e := fun e => by
    simp only [entry, entryBytes, listField, List.append_assoc]
    cases e.startCharge <;> cases e.granted <;> rfl
  refine ⟨?_, ?_, fun h => exec_linkStats hs (if_pos h), ?_⟩
  · rintro rfl
    exact exec_linkStats hs rfl
  · rintro rfl
    exact exec_linkStats hs rfl
  · refine exec_dmdRequest (st := .ok) rfl rfl hs rfl rfl ?_
    refine congrArg (fun body => (s.dmd, [answer .ok body])) (congrArg₂ (· ++ ·) ?_ (List.flatMap_congr fun o _ => ?_))
    · simp only [hpass]
      show u8 d.budget.code ++ optField passBytes d.lastPass = _
      cases d.lastPass <;> rfl
    · simp only [hentry]
      cases o <;> rfl

end Sys2Proof.Machine

/-! O23: frost starts, admission, the start-up check and the starts of a measurement (R44, R68, R78, R79, R83). -/

namespace Sys2Proof.Machine

/-! ### A delivery to HTR -/

theorem deliver_htr_of {e : HtrEv} {s : State} {h : Htr} {ms : List Msg} (he : htrHandle e s = (h, ms)) :
    deliver (.htr e) s = ({ s with htr := h }, ms) := by
  rw [deliver_htr, he]

/-! ### Entries without the frost start of R79 -/

/-- The entry to OFF (R53). -/
theorem enter_off (r : HeaterReason) (k : Retained) (h : Htr) :
    enter .off r k h = (heaterOff k h, heaterChanges h (heaterOff k h) r.code) := by
  have e : (enter .off r k h).1 = heaterOff k h := congrArg Prod.fst (goTo_off r k h)
  exact Prod.ext e ((entryMsgs_eq h _ r).trans (by rw [← e]; rfl))

/-- The entry to PRECHECK of a start (R54). -/
theorem enter_precheck (r : HeaterReason) (h : Htr) :
    enter .precheck r (startKeep h.keep) (startSettings h) = (heaterStarted h, heaterFollows h (heaterStarted h) r.code) := by
  have keep : startKeep h.keep = { h.keep with fault := if h.keep.lockout then h.keep.fault else none } := by
    unfold startKeep
    split <;> rfl
  have entered : (enter .precheck r (startKeep h.keep) (startSettings h)).1 = heaterStarted h := by
    simp [enter, enteredState, entrySettings, entryLevel, stateSeconds, driveHeater, outputsOf, startSettings,
      heaterStarted, keep]
  have posted : heaterFollows h (heaterStarted h) r.code = entryMsgs h (heaterStarted h) r := by
    rw [entryMsgs_eq]
    exact List.append_nil _
  refine Prod.ext entered (Eq.trans ?_ posted.symm)
  rw [← entered]
  rfl

/-! ### A frost start (R79) -/

section FrostStart

variable {h : Htr} {s : State}

/-- HTR after an admitted frost start (R54, R79). -/
def frostStarted (h : Htr) : Htr := heaterStarted { h with frostLimited := true }

/-- HTR after an admitted frost start whose first check fails with `f` (R57; log 11). -/
def frostFailed (f : HeaterFault) (h : Htr) : Htr :=
  { heaterOff (withFault f (frostStarted h).keep) (frostStarted h) with frostDeferred := true }

theorem frostStart_started (ha : admits s.dmd s 1000 h.profile.startCharge = true) (hf : startFault (frostStarted h) = none) :
    frostStart h s = (frostStarted h, heaterFollows h (frostStarted h) 2) := by
  have started := enter_precheck .frost { h with frostLimited := true }
  have fault : precheckFault (heaterStarted { h with frostLimited := true }) = none := (precheckFault_eq _).trans hf
  rw [frostStart, startAdmitted, if_pos ha]
  dsimp only at started ⊢
  rw [started, fault]
  rfl

theorem frostStart_failed {f : HeaterFault} (ha : admits s.dmd s 1000 h.profile.startCharge = true)
    (hf : startFault (frostStarted h) = some f) :
    frostStart h s =
      (frostFailed f h, heaterFollows h (frostStarted h) 2 ++ heaterChanges (frostStarted h) (frostFailed f h) 4) := by
  have started := enter_precheck .frost { h with frostLimited := true }
  have fault : precheckFault (heaterStarted { h with frostLimited := true }) = some f := (precheckFault_eq _).trans hf
  rw [frostStart, startAdmitted, if_pos ha]
  dsimp only at started ⊢
  rw [started, fault]
  dsimp only
  rw [enter_off, recordFault_eq]
  rfl

theorem frostStart_refused_off (ha : ¬admits s.dmd s 1000 h.profile.startCharge = true) (hs : h.seq = .off) :
    frostStart h s =
      ({ h with frostRetry := some 60 }, [post 7 (u8 0 ++ u8 0 ++ u8 (faultCode h.keep.fault) ++ u8 5)]) := by
  rw [frostStart, startAdmitted, if_neg ha, if_pos hs, stayReport, hs]
  rfl

theorem frostStart_refused (ha : ¬admits s.dmd s 1000 h.profile.startCharge = true) (hs : h.seq ≠ .off) :
    frostStart h s =
      ({ heaterOff h.keep h with frostRetry := some 60 },
        heaterChanges h { heaterOff h.keep h with frostRetry := some 60 } 5) := by
  rw [frostStart, startAdmitted, if_neg ha, if_neg hs, enter_off]
  rfl

end FrostStart

/-- The event acts with the flag held and the check done, in OFF or WAIT. -/
theorem htrHandle_frostStart {s : State}
    (hc : s.htr.frostFlag = true ∧ s.htr.startUpDue = false ∧ (s.htr.seq = .off ∨ s.htr.seq = .wait)) :
    htrHandle .frostStart s = frostStart s.htr s := if_pos hc

theorem htrHandle_frostStart_idle {s : State}
    (hc : ¬(s.htr.frostFlag = true ∧ s.htr.startUpDue = false ∧ (s.htr.seq = .off ∨ s.htr.seq = .wait))) :
    htrHandle .frostStart s = (s.htr, []) := if_neg hc

/-! ### Admission (R44) -/

theorem admits_eq {d : Dmd} {e : Entry} (s : State) (duty startCharge : Nat) (he : d.entries[1]? = some (some e)) :
    admits d s duty startCharge =
      if d.floor = .clear ∧ d.ign = true then true
      else if e.cls = 0 ∧ d.floor ≠ .cutoff then true
      else if d.floor = .cutoff then false
      else if d.floor = .critical ∧ d.ign = false then false
      else decide (levelNeed (e.currents.getD 0 0) duty (horizonNow d s) + startCharge ≤
        d.a.getD 0 - essentialSum ((budgetOrder d).filter fun p => p.1 != 1) (horizonNow d s)) := by
  have entry : heaterEntry d = some e := by rw [heaterEntry, he]; rfl
  rw [admits, entry, horizon_eq]
  rfl

/-! ### The start-up check (R83) -/

section StartUp

/-- HTR with the readings of a measurement (R25), the start-up check done. -/
def checked (r : HeaterReadings) (h : Htr) : Htr := { takeReadings r h with startUpDue := false }

/-- HTR in the purge that the start-up check begins (R83). -/
def startUpPurging (d : PurgeDest) (kind : PurgeKind) (k : Retained) (h : Htr) : Htr :=
  { heaterPurging d kind k h with purge := ⟨d, kind, 0, true⟩ }

theorem purgeTo_startUp (d : PurgeDest) (kind : PurgeKind) (reason : HeaterReason) (k : Retained) (h : Htr) :
    purgeTo d kind true reason k h =
      (startUpPurging d kind k h, heaterFollows h (startUpPurging d kind k h) reason.code) := by
  have e : (purgeTo d kind true reason k h).1 = startUpPurging d kind k h := by
    simp [purgeTo, goTo, enter, enteredState, entrySettings, entryLevel, stateSeconds, driveHeater, outputsOf, heaterPurging,
      startUpPurging]
  exact Prod.ext e (by rw [← e]; exact goTo_msgs _ _ _ _)

variable {s : State} {r : HeaterReadings}

/-- A measurement with the check due is the check alone (log 15). -/
theorem heaterMeasured_startUp (hd : s.htr.startUpDue = true) :
    heaterMeasured r s = startUpCheck r (takeReadings r s.htr) := if_pos hd

theorem takeReadings_due (hd : s.htr.startUpDue = true) : ¬(takeReadings r s.htr).startUpDue = false := by
  simp [takeReadings, hd]

/-- A first FLAME sample below the flame-present threshold: done, with LOCKOUT posted. -/
theorem heaterMeasured_cold {f : Int} (hd : s.htr.startUpDue = true) (hf : r.flameSample = some f)
    (hlt : f < s.htr.profile.flamePresent) :
    heaterMeasured r s = (checked r s.htr,
      if s.htr.seq = .lockout then
        [post 3 (u8 (faultCode s.htr.keep.fault) ++ u8 s.htr.keep.failures ++ u8 s.htr.keep.overheats),
          .alr (.condition 1 true)]
      else []) := by
  have below : f < (takeReadings r s.htr).profile.flamePresent := hlt
  rw [heaterMeasured_startUp hd, startUpCheck, if_neg (takeReadings_due hd), hf]
  dsimp only
  rw [if_pos below, msgsIf]
  simp only [beq_iff_eq]
  rfl

/-- A first FLAME sample at or above the threshold: a NORMAL purge. -/
theorem heaterMeasured_hot {f : Int} (hd : s.htr.startUpDue = true) (hf : r.flameSample = some f)
    (hle : s.htr.profile.flamePresent ≤ f) :
    heaterMeasured r s =
      (startUpPurging (faultDest s.htr.keep) .normal s.htr.keep (checked r s.htr),
        heaterFollows (checked r s.htr) (startUpPurging (faultDest s.htr.keep) .normal s.htr.keep (checked r s.htr)) 6) := by
  have above : ¬f < (takeReadings r s.htr).profile.flamePresent := not_lt.mpr hle
  rw [heaterMeasured_startUp hd, startUpCheck, if_neg (takeReadings_due hd), hf]
  dsimp only
  rw [if_neg above]
  exact purgeTo_startUp _ _ _ _ _

/-- A first FLAME sample out of range: a FIXED purge with F1. -/
theorem heaterMeasured_noFlame (hd : s.htr.startUpDue = true) (hf : r.flameSample = none) :
    heaterMeasured r s =
      (startUpPurging (faultDest s.htr.keep) .fixed (withFault .f1 s.htr.keep) (checked r s.htr),
        heaterFollows (checked r s.htr)
          (startUpPurging (faultDest s.htr.keep) .fixed (withFault .f1 s.htr.keep) (checked r s.htr)) 4) := by
  rw [heaterMeasured_startUp hd, startUpCheck, if_neg (takeReadings_due hd), hf, ← recordFault_eq]
  exact purgeTo_startUp _ _ _ _ _

end StartUp

/-! ### A measurement after the start-up check -/

theorem heaterMeasured_eq {s : State} (r : HeaterReadings) (hd : s.htr.startUpDue = false) :
    heaterMeasured r s =
      ((measuredState r s.htr.frostDeferred (heaterReads r s.htr).1 s).1,
        (heaterReads r s.htr).2 ++ (measuredState r s.htr.frostDeferred (heaterReads r s.htr).1 s).2) := by
  have su : startUpCheck r (takeReadings r s.htr) = (takeReadings r s.htr, []) := if_pos hd
  have nd : ¬s.htr.startUpDue = true := by simp [hd]
  rw [heaterMeasured]
  dsimp only
  rw [if_neg nd, su, frostTest_eq]
  rfl

/-- A measurement whose state's own rule leaves `h` and hands `ms` on. -/
theorem deliver_htr_measured {s : State} {r : HeaterReadings} {h : Htr} {ms : List Msg} (hd : s.htr.startUpDue = false)
    (hm : measuredState r s.htr.frostDeferred (heaterReads r s.htr).1 s = (h, ms)) :
    deliver (.htr (.measured r)) s = ({ s with htr := h }, (heaterReads r s.htr).2 ++ ms) :=
  deliver_htr_of ((heaterMeasured_eq r hd).trans (by rw [hm]))

theorem heaterReads_startUpDue (r : HeaterReadings) (h : Htr) : (heaterReads r h).1.startUpDue = h.startUpDue := by
  unfold heaterReads
  dsimp only
  split
  · rfl
  · split <;> rfl

section States

variable {r : HeaterReadings} {b : Bool} {h : Htr} {s : State}

/-- In OFF a frost start that was put off is made (log 11). -/
theorem measuredState_off (hs : h.seq = .off) (hd : h.startUpDue = false) :
    measuredState r b h s = (h, if b = true ∧ h.frostFlag = true then [.htr .frostStart] else []) := by
  rw [measuredState, hs]
  dsimp only
  rw [frostAtOff_eq, msgsIf]
  cases b <;> simp [hs, hd]

theorem measuredState_lockout (hs : h.seq = .lockout) : measuredState r b h s = (h, []) := by
  rw [measuredState, hs]

theorem measuredState_wait (hs : h.seq = .wait) : measuredState r b h s = measuredWait h s := by
  rw [measuredState, hs]

/-! ### WAIT (R68) -/

/-- CABIN is invalid or below the setpoint by more than 1.5 K. -/
def cabinCold (h : Htr) : Prop := (h.cabin.all fun c => decide (c < h.profile.setpoint - 15)) = true

theorem measuredWait_frost (hf : h.frostFlag = true) : measuredWait h s = (h, [.htr .frostStart]) := if_pos hf

theorem measuredWait_warm (hf : h.frostFlag = false) (hc : ¬cabinCold h) : measuredWait h s = (h, []) := by
  have nf : ¬h.frostFlag = true := by simp [hf]
  rw [measuredWait, if_neg nf]
  exact if_neg hc

theorem measuredWait_admitted (hf : h.frostFlag = false) (hc : cabinCold h)
    (ha : admits s.dmd s 1000 h.profile.startCharge = true) : measuredWait h s = beginStart .thermostat h := by
  have nf : ¬h.frostFlag = true := by simp [hf]
  rw [measuredWait, if_neg nf]
  exact (if_pos hc).trans (if_pos ha)

theorem measuredWait_refused (hf : h.frostFlag = false) (hc : cabinCold h)
    (ha : ¬admits s.dmd s 1000 h.profile.startCharge = true) :
    measuredWait h s = (heaterOff h.keep h, heaterFollows h (heaterOff h.keep h) 5) := by
  have nf : ¬h.frostFlag = true := by simp [hf]
  rw [measuredWait, if_neg nf]
  exact (if_pos hc).trans ((if_neg ha).trans (goTo_off _ _ _))

end States

/-- Settles O23: the frost start, admission, the start-up check, and a measurement in OFF, LOCKOUT and WAIT. -/
theorem frostStartIsAdmittedOrRetried : Obligations.FrostStartIsAdmittedOrRetried := by
  refine ⟨?_, ?_, ?_, ?_⟩
  · intro s h h' failed refused admitted
    refine ⟨fun hc => ?_, fun hc => deliver_htr_of (htrHandle_frostStart_idle hc)⟩
    have taken := htrHandle_frostStart hc
    refine ⟨fun ha hf => ?_, fun f ha hf => ?_, fun ha hs => ?_, fun ha hs => ?_⟩
    · exact deliver_htr_of (taken.trans (frostStart_started ha hf))
    · exact deliver_htr_of (taken.trans (frostStart_failed ha hf))
    · exact deliver_htr_of (taken.trans (frostStart_refused_off ha hs))
    · have notOff : h.seq ≠ .off := by simp [hs]
      exact deliver_htr_of (taken.trans (frostStart_refused ha notOff))
  · intro duty startCharge e s he
    exact admits_eq s duty startCharge he
  · intro r s hd h dest purging result
    refine ⟨fun f hf hlt => ?_, fun f hf hle => ?_, fun hf => ?_⟩
    · exact deliver_htr_of (heaterMeasured_cold hd hf hlt)
    · exact deliver_htr_of (heaterMeasured_hot hd hf hle)
    · exact deliver_htr_of (heaterMeasured_noFlame hd hf)
  · intro r s hd h first started off failed cold admitted
    have hd' : h.startUpDue = false := (heaterReads_startUpDue r s.htr).trans hd
    have inWait {h1 : Htr} {ms : List Msg} (hs : h.seq = .wait) (hm : measuredWait h s = (h1, ms)) :
        deliver (.htr (.measured r)) s = ({ s with htr := h1 }, first ++ ms) :=
      deliver_htr_measured hd ((measuredState_wait hs).trans hm)
    refine ⟨fun hs => deliver_htr_measured hd (measuredState_off hs hd'), fun hs => ?_,
      fun hs hf => inWait hs (measuredWait_frost hf), fun hs hf => ⟨fun hc => ?_, fun hc ha hn => ?_, fun f hc ha hn => ?_,
        fun hc ha => inWait hs (measuredWait_refused hf hc ha)⟩⟩
    · exact (deliver_htr_measured hd (measuredState_lockout hs)).trans (by rw [List.append_nil])
    · exact (inWait hs (measuredWait_warm hf hc)).trans (by rw [List.append_nil])
    · refine inWait hs ((measuredWait_admitted hf hc ha).trans ?_)
      rw [beginStart_eq, hn]
      rfl
    · refine (inWait hs ((measuredWait_admitted hf hc ha).trans ?_)).trans (by rw [List.append_assoc])
      rw [beginStart_eq, hn]
      rfl

end Sys2Proof.Machine

/-! O56: the heater's outputs, level, grant, lockout and counts. First what each event at HTR leaves there (R52, R61, R73 to R75). -/

namespace Sys2Proof.Machine

/-! ### What is handed to the store -/

/-- Heater items handed to STO with their counts within the limits (R74); every other message is free. -/
def Msg.itemsFit : Msg → Bool
  | .sto (.heater k) => decide (k.failures ≤ 3) && decide (k.overheats ≤ 2)
  | _ => true

/-- A list of messages whose heater items have their counts within the limits. -/
def handsFit (ms : List Msg) : Bool := ms.all Msg.itemsFit

@[simp] theorem itemsFit_chg (e : ChgEv) : (Msg.chg e).itemsFit = true := rfl
@[simp] theorem itemsFit_dmd (e : DmdEv) : (Msg.dmd e).itemsFit = true := rfl
@[simp] theorem itemsFit_htr (e : HtrEv) : (Msg.htr e).itemsFit = true := rfl
@[simp] theorem itemsFit_clr (e : ClrEv) : (Msg.clr e).itemsFit = true := rfl
@[simp] theorem itemsFit_lgt (e : LgtEv) : (Msg.lgt e).itemsFit = true := rfl
@[simp] theorem itemsFit_rcl (e : RclEv) : (Msg.rcl e).itemsFit = true := rfl
@[simp] theorem itemsFit_sch (e : SchEv) : (Msg.sch e).itemsFit = true := rfl
@[simp] theorem itemsFit_alr (e : AlrEv) : (Msg.alr e).itemsFit = true := rfl
@[simp] theorem itemsFit_rpq (e : RpqEv) : (Msg.rpq e).itemsFit = true := rfl
@[simp] theorem itemsFit_lnk (e : LnkEv) : (Msg.lnk e).itemsFit = true := rfl
@[simp] theorem itemsFit_writeState : (Msg.sto .writeState).itemsFit = true := rfl
@[simp] theorem itemsFit_second : (Msg.sto .second).itemsFit = true := rfl
@[simp] theorem itemsFit_post (c : Nat) (d : List Byte) : (post c d).itemsFit = true := rfl
@[simp] theorem itemsFit_answer (st : Status) (b : List Byte) : (answer st b).itemsFit = true := rfl
@[simp] theorem itemsFit_heaterDemand (h : Htr) : (heaterDemand h).itemsFit = true := rfl
@[simp] theorem itemsFit_heater (k : Retained) : (Msg.sto (.heater k)).itemsFit = true ↔ countsFit k := by
  simp [Msg.itemsFit, countsFit]

@[simp] theorem handsFit_nil : handsFit [] = true := rfl
@[simp] theorem handsFit_cons (m : Msg) (ms : List Msg) : handsFit (m :: ms) = (m.itemsFit && handsFit ms) := rfl
@[simp] theorem handsFit_append (a b : List Msg) : handsFit (a ++ b) = (handsFit a && handsFit b) := List.all_append
@[simp] theorem handsFit_msgsIf (c : Bool) (ms : List Msg) : handsFit (msgsIf c ms) = (!c || handsFit ms) := by
  cases c <;> simp [msgsIf]
@[simp] theorem handsFit_ite (c : Prop) [Decidable c] (a b : List Msg) :
    handsFit (if c then a else b) = if c then handsFit a else handsFit b := by split <;> rfl
@[simp] theorem handsFit_ite_snd {α : Type} (c : Prop) [Decidable c] (a b : α × List Msg) :
    handsFit (if c then a else b).2 = if c then handsFit a.2 else handsFit b.2 := by split <;> rfl

/-! ### The invariant of HTR in its parts -/

/-- The states with a flame or a start of one, in which the pump runs (R52). -/
def HeaterState.Burning (x : HeaterState) : Prop := x = .ignite ∨ x = .ramp ∨ x = .run

/-- The level of a state (R52): 1 in RAMP, 1 to 4 in RUN, else 0. -/
def HeaterState.LevelFits (x : HeaterState) (n : Nat) : Prop :=
  match x with
  | .ramp => n = 1
  | .run => 1 ≤ n ∧ n ≤ 4
  | _ => n = 0

/-- LOCKOUT, or a purge bound for it (R75). -/
def LockoutBound (x : HeaterState) (p : Purge) : Prop := x = .lockout ∨ (x = .purge ∧ p.dest = .lockout)

/-- HTR with the outputs and the level of its state (R52), a grant while it burns (R73), the lockout flag in LOCKOUT and the purge
bound for it only (R75), and its counts within their limits (R74). -/
def Htr.Sound (h : Htr) : Prop :=
  h.out = outputsOf h.seq h.table h.level ∧ h.seq.LevelFits h.level ∧ (h.seq.Burning → 1 ≤ h.grant.getD 0) ∧
    (h.keep.lockout = true ↔ LockoutBound h.seq h.purge) ∧ countsFit h.keep

/-- What an event at HTR comes to: HTR sound, and fitting items handed on. -/
def HeaterSafe (r : Htr × List Msg) : Prop := r.1.Sound ∧ handsFit r.2 = true

section Heater

variable {h : Htr} {k : Retained} {r : Htr × List Msg}

theorem Htr.Sound.safe (hs : h.Sound) : HeaterSafe (h, []) := ⟨hs, rfl⟩

/-- Messages handed on before those of a part. -/
theorem HeaterSafe.after {ms : List Msg} (hr : HeaterSafe r) (hm : handsFit ms = true) : HeaterSafe (r.1, ms ++ r.2) :=
  ⟨hr.1, by simp [hm, hr.2]⟩

/-- Messages handed on behind those of a part. -/
theorem HeaterSafe.before {ms : List Msg} (hr : HeaterSafe r) (hm : handsFit ms = true) : HeaterSafe (r.1, r.2 ++ ms) :=
  ⟨hr.1, by simp [hm, hr.2]⟩

theorem Htr.Sound.keep_fits (hs : h.Sound) : countsFit h.keep := by
  obtain ⟨-, -, -, -, hc⟩ := hs
  exact hc

theorem Htr.Sound.lockout_iff (hs : h.Sound) : h.keep.lockout = true ↔ LockoutBound h.seq h.purge := by
  obtain ⟨-, -, -, hl, -⟩ := hs
  exact hl

theorem Htr.Sound.granted (hs : h.Sound) (hb : h.seq.Burning) : 1 ≤ h.grant.getD 0 := by
  obtain ⟨-, -, hg, -, -⟩ := hs
  exact hg hb

theorem Htr.Sound.level_of_run (hs : h.Sound) (hr : h.seq = .run) : 1 ≤ h.level ∧ h.level ≤ 4 := by
  obtain ⟨-, hl, -, -, -⟩ := hs
  rw [hr] at hl
  exact hl

/-- Outside LOCKOUT and PURGE the lockout flag is clear. -/
theorem Htr.Sound.unlocked (hs : h.Sound) (hl : h.seq ≠ .lockout) (hp : h.seq ≠ .purge) : h.keep.lockout = false := by
  rw [← Bool.not_eq_true, hs.lockout_iff]
  rintro (e | ⟨e, -⟩)
  · exact hl e
  · exact hp e

/-! ### The retained items -/

@[simp] theorem recordFault_lockout (f : HeaterFault) (k : Retained) : (recordFault f k).lockout = k.lockout := by
  unfold recordFault
  split <;> rfl

theorem recordFault_fits (f : HeaterFault) (hk : countsFit k) : countsFit (recordFault f k) := by
  unfold recordFault
  split <;> exact hk

@[simp] theorem startKeep_lockout (k : Retained) : (startKeep k).lockout = k.lockout := by
  unfold startKeep
  split <;> rfl

theorem startKeep_fits (hk : countsFit k) : countsFit (startKeep k) := by
  unfold startKeep
  split <;> exact hk

@[simp] theorem endSessionKeep_lockout (n : Nat) (k : Retained) : (endSessionKeep n k).lockout = k.lockout := by
  unfold endSessionKeep
  split <;> rfl

theorem endSessionKeep_fits (n : Nat) (hk : countsFit k) : countsFit (endSessionKeep n k) := by
  unfold endSessionKeep
  split
  · exact ⟨hk.1, Nat.zero_le 2⟩
  · exact hk

theorem countFailure_fits (hk : countsFit k) : countsFit (countFailure k) := ⟨Nat.min_le_left _ _, hk.2⟩

theorem countOverheat_fits (hk : countsFit k) : countsFit (countOverheat k) := ⟨hk.1, Nat.min_le_left _ _⟩

theorem faultDest_eq_lockout (k : Retained) : k.lockout = true ↔ faultDest k = .lockout := by
  unfold faultDest
  cases k.lockout <;> simp

/-! ### A change of state (R53) -/

@[simp] theorem adoptTable_keeps (h : Htr) : (adoptTable h).seq = h.seq ∧ (adoptTable h).level = h.level ∧
    (adoptTable h).purge = h.purge ∧ (adoptTable h).grant = h.grant ∧ (adoptTable h).keep = h.keep := by
  unfold adoptTable
  split <;> exact ⟨rfl, rfl, rfl, rfl, rfl⟩

/-- What an entry to `new` leaves, in terms of the state before. -/
theorem enteredState_keeps (new : HeaterState) (h : Htr) :
    (enteredState new h).seq = new ∧ (enteredState new h).level = entryLevel new h.level ∧
      (enteredState new h).purge = h.purge ∧ (enteredState new h).grant = h.grant ∧ (enteredState new h).keep = h.keep ∧
      (enteredState new h).out = outputsOf new (enteredState new h).table (entryLevel new h.level) := by
  unfold enteredState
  cases new <;> simp [driveHeater, entrySettings]

theorem handsFit_handItems {k' : Retained} (hk : countsFit k') : handsFit (handItems k k') = true := by
  simp [handItems, hk]

theorem entryMsgs_fit {h' : Htr} (r : HeaterReason) (hk : countsFit h'.keep) : handsFit (entryMsgs h h' r) = true := by
  simp [entryMsgs, handsFit_handItems hk]

/-- An entry is safe for items and a grant that suit the new state, whatever state it leaves. -/
theorem enter_safe {new : HeaterState} (r : HeaterReason) (hk : countsFit k)
    (hl : k.lockout = true ↔ LockoutBound new h.purge) (hg : new.Burning → 1 ≤ h.grant.getD 0)
    (hrun : new = .run → 1 ≤ h.level ∧ h.level ≤ 4) : HeaterSafe (enter new r k h) := by
  obtain ⟨seq, level, purge, grant, keep, out⟩ := enteredState_keeps new { h with keep := k }
  refine ⟨?_, entryMsgs_fit r (keep ▸ hk)⟩
  show (enteredState new { h with keep := k }).Sound
  refine ⟨?_, ?_, ?_, ?_, ?_⟩
  · rw [out, seq, level]
  · rw [seq, level]
    cases new <;> first | exact rfl | exact hrun rfl
  · rw [seq, grant]
    exact hg
  · rw [seq, keep, purge]
    exact hl
  · rw [keep]
    exact hk

theorem goTo_of_enter {new : HeaterState} {reason : HeaterReason} (hr : HeaterSafe (enter new reason k h)) :
    HeaterSafe (goTo new reason k h) :=
  hr.before (by simp [frostAtOff])

/-- The same with the frost start of R79. -/
theorem goTo_safe {new : HeaterState} (r : HeaterReason) (hk : countsFit k)
    (hl : k.lockout = true ↔ LockoutBound new h.purge) (hg : new.Burning → 1 ≤ h.grant.getD 0)
    (hrun : new = .run → 1 ≤ h.level ∧ h.level ≤ 4) : HeaterSafe (goTo new r k h) :=
  goTo_of_enter (enter_safe r hk hl hg hrun)

/-- The states that ask for no grant and are not bound for LOCKOUT. -/
def HeaterState.Plain (x : HeaterState) : Prop := x = .off ∨ x = .precheck ∨ x = .preheat ∨ x = .wait

/-- An entry to a plain state is safe with the lockout flag clear. -/
theorem enter_plain_safe {new : HeaterState} (hn : new.Plain) (r : HeaterReason) (hk : countsFit k) (hl : k.lockout = false) :
    HeaterSafe (enter new r k h) := by
  refine enter_safe r hk ?_ ?_ ?_ <;> rcases hn with rfl | rfl | rfl | rfl <;> simp [LockoutBound, HeaterState.Burning, hl]

theorem goTo_off_safe (r : HeaterReason) (hk : countsFit k) (hl : k.lockout = false) : HeaterSafe (goTo .off r k h) :=
  goTo_of_enter (enter_plain_safe (.inl rfl) r hk hl)

/-- A purge is safe when it is bound for LOCKOUT exactly with the lockout flag set. -/
theorem purgeTo_safe {d : PurgeDest} (kind : PurgeKind) (u : Bool) (r : HeaterReason) (hk : countsFit k)
    (hl : k.lockout = true ↔ d = .lockout) : HeaterSafe (purgeTo d kind u r k h) :=
  goTo_safe (h := { h with purge := ⟨d, kind, 0, u⟩ }) r hk (by simpa [LockoutBound] using hl)
    (by simp [HeaterState.Burning]) nofun

/-- A purge bound elsewhere, with the lockout flag clear. -/
theorem purgeTo_unlocked_safe {d : PurgeDest} (kind : PurgeKind) (u : Bool) (r : HeaterReason) (hk : countsFit k)
    (hl : k.lockout = false) (hd : d ≠ .lockout) : HeaterSafe (purgeTo d kind u r k h) :=
  purgeTo_safe kind u r hk (by simp [hl, hd])

/-! ### Starts (R54 to R57, R79) -/

/-- PRECHECK left for OFF by a check that fails (R57). -/
theorem enter_off_failed_safe (f : HeaterFault) (hs : h.Sound) (hp : h.seq = .precheck) :
    HeaterSafe (enter .off .fault (recordFault f h.keep) h) :=
  enter_plain_safe (.inl rfl) _ (recordFault_fits f hs.keep_fits)
    ((recordFault_lockout f _).trans (hs.unlocked (by simp [hp]) (by simp [hp])))

theorem precheckTest_safe (hs : h.Sound) (hp : h.seq = .precheck) : HeaterSafe (precheckTest h) := by
  unfold precheckTest
  split
  · exact goTo_of_enter (enter_off_failed_safe _ hs hp)
  · exact hs.safe

/-- The entry to PRECHECK of a start. -/
theorem enter_precheck_safe (r : HeaterReason) (hk : countsFit k) (hl : k.lockout = false) :
    HeaterSafe (enter .precheck r (startKeep k) h) :=
  enter_plain_safe (.inr (.inl rfl)) r (startKeep_fits hk) (by simpa using hl)

theorem beginStart_safe (r : HeaterReason) (hk : countsFit h.keep) (hl : h.keep.lockout = false) :
    HeaterSafe (beginStart r h) := by
  have started := enter_precheck_safe (h := startSettings h) r hk hl
  exact (precheckTest_safe started.1 rfl).after started.2

theorem requestStart_safe (r : HeaterReason) (s : State) (hs : h.Sound) :
    HeaterSafe ((requestStart r h s).1, (requestStart r h s).2.1) := by
  unfold requestStart
  split
  case h_1 hoff =>
    split
    · exact hs.safe
    · split
      · exact beginStart_safe r hs.keep_fits (hs.unlocked (by simp [hoff]) (by simp [hoff]))
      · exact hs.safe
  all_goals exact hs.safe

theorem frostStart_safe (s : State) (hk : countsFit h.keep) (hl : h.keep.lockout = false) (hs : h.Sound) :
    HeaterSafe (frostStart h s) := by
  have started : HeaterSafe (enter .precheck .frost (startKeep h.keep) (startSettings { h with frostLimited := true })) :=
    enter_precheck_safe .frost hk hl
  unfold frostStart
  split
  · dsimp only
    split
    · next f _ => exact (enter_off_failed_safe f started.1 rfl).after started.2
    · exact started
  · split
    · exact hs.safe
    · exact enter_plain_safe (h := h) (.inl rfl) .noBudget hk hl

theorem frostEvent_safe (s : State) (hs : h.Sound) : HeaterSafe (frostEvent h s) := by
  unfold frostEvent
  split
  · next hc =>
    obtain ⟨-, -, hseq⟩ := hc
    have hl : h.keep.lockout = false := by
      rcases hseq with e | e <;> exact hs.unlocked (by simp [e]) (by simp [e])
    exact frostStart_safe s hs.keep_fits hl hs
  · exact hs.safe

theorem setFrostFlag_safe (b : Bool) (hs : h.Sound) : HeaterSafe (setFrostFlag b h) := by
  cases b <;> exact ⟨hs, rfl⟩

theorem heaterReads_safe (r : HeaterReadings) (hs : h.Sound) : HeaterSafe (heaterReads r h) := by
  unfold heaterReads
  dsimp only
  split
  · exact ⟨hs, by simp [heaterPosts]⟩
  · split
    · exact ⟨hs, rfl⟩
    · exact hs.safe

/-! ### The level in RUN (R61 to R63) -/

theorem effectiveMax_bounds (hf : h.Fits) : 1 ≤ effectiveMax h ∧ effectiveMax h ≤ 4 := by
  obtain ⟨⟨hlo, hhi, -, -⟩, -⟩ := hf
  unfold effectiveMax
  split
  · omega
  · exact ⟨hlo, hhi⟩

theorem levelCap_le (q : Bool) (hf : h.Fits) : levelCap h q ≤ 4 := by
  have hm := effectiveMax_bounds hf
  unfold levelCap
  dsimp only
  split <;> omega

theorem one_le_levelCap (q : Bool) (hf : h.Fits) (hg : 1 ≤ h.grant.getD 0) : 1 ≤ levelCap h q := by
  obtain ⟨hm, -⟩ := effectiveMax_bounds hf
  obtain ⟨⟨-, -, hq, -⟩, -⟩ := hf
  unfold levelCap
  dsimp only
  split <;> omega

/-- RUN at another level of 1 to 4, with the outputs of that level. -/
theorem driveHeater_level_sound {n : Nat} (hs : h.Sound) (hr : h.seq = .run) (hn : 1 ≤ n ∧ n ≤ 4) :
    (driveHeater { h with level := n }).Sound := by
  obtain ⟨-, -, hg, hl, hk⟩ := hs
  refine ⟨rfl, ?_, hg, hl, hk⟩
  show h.seq.LevelFits n
  rw [hr]
  exact hn

theorem recap_sound (q : Bool) (hs : h.Sound) : (recap h q).Sound := by
  unfold recap
  dsimp only
  split
  · next hc =>
    obtain ⟨hr, hcap⟩ := hc
    have hlevel := hs.level_of_run hr
    refine driveHeater_level_sound hs hr ?_
    split <;> omega
  · exact hs

theorem stepLevel_bounds {b : Bias} {n cap : Nat} (hn : 1 ≤ n ∧ n ≤ 4) (hc : cap ≤ 4) :
    1 ≤ stepLevel b n cap ∧ stepLevel b n cap ≤ 4 := by
  unfold stepLevel
  split <;> split <;> omega

theorem controlPeriod_sound (q : Bool) (hs : h.Sound) (hf : h.Fits) : (controlPeriod h q).Sound := by
  unfold controlPeriod stepCounter
  dsimp only
  split
  · next hc =>
    split
    · exact driveHeater_level_sound (h := { h with samples := 0, cold := 0, warm := 0, sc := _, bias := _ }) hs hc.1
        (stepLevel_bounds (hs.level_of_run hc.1) (levelCap_le q hf))
    · exact hs
  · exact hs

theorem thermostatSample_sound (q : Bool) (hs : h.Sound) (hf : h.Fits) : (thermostatSample h q).Sound := by
  unfold thermostatSample
  split
  · exact controlPeriod_sound q (h := { h with samples := _, cold := _, warm := _ }) hs hf
  · exact recap_sound q (h := { h with samples := 0, cold := 0, warm := 0 }) hs

/-! ### Burning (R59, R62 to R65, R71, R72) -/

theorem Htr.Sound.unlocked_of_burning (hs : h.Sound) (hb : h.seq.Burning) : h.keep.lockout = false := by
  rcases hb with e | e | e <;> exact hs.unlocked (by simp [e]) (by simp [e])

theorem failStart_safe (f : HeaterFault) (hs : h.Sound) : HeaterSafe (failStart f h) :=
  purgeTo_safe _ _ _ (countFailure_fits (recordFault_fits f hs.keep_fits)) (faultDest_eq_lockout _)

theorem flameOut_safe (hs : h.Sound) (hb : h.seq.Burning) : HeaterSafe (flameOut h) := by
  unfold flameOut
  dsimp only
  split
  · exact (failStart_safe .f4 hs).after (ms := [_]) rfl
  · exact (purgeTo_unlocked_safe (h := { h with restartUsed := true, attempts := 0 }) (d := .preheat) .normal false .none
      hs.keep_fits (hs.unlocked_of_burning hb) nofun).after (ms := [_]) rfl

theorem burningFault_safe {v : Nat} {r : Htr × List Msg} (hs : h.Sound) (hb : h.seq.Burning)
    (hr : burningFault v h = some r) : HeaterSafe r := by
  have faulted (f : HeaterFault) (kind : PurgeKind) : HeaterSafe (purgeTo .off kind false .fault (recordFault f h.keep) h) :=
    purgeTo_unlocked_safe kind _ _ (recordFault_fits f hs.keep_fits) (by simpa using hs.unlocked_of_burning hb) nofun
  unfold burningFault at hr
  split at hr
  · cases hr; exact faulted _ _
  · cases hr; exact faulted _ _
  · split at hr
    · cases hr
      exact (purgeTo_safe .normal false .fault (countOverheat_fits (recordFault_fits .f5 hs.keep_fits))
        (faultDest_eq_lockout _)).after (ms := [_]) rfl
    · split at hr
      · cases hr; exact faulted _ _
      · cases hr

theorem idleStop_safe (hs : h.Sound) : HeaterSafe (idleStop h) := by
  unfold idleStop
  split
  · next hc =>
    exact purgeTo_unlocked_safe _ _ _ (endSessionKeep_fits _ hs.keep_fits)
      (by simpa using hs.unlocked_of_burning (.inr (.inr hc.1))) nofun
  · exact hs.safe

theorem flameWatch_safe (dt : Nat) {next : Htr → Htr × List Msg} (hs : h.Sound) (hf : h.Fits) (hb : h.seq.Burning)
    (hn : ∀ h : Htr, h.Sound → h.Fits → HeaterSafe (next h)) : HeaterSafe (flameWatch dt h next) := by
  unfold flameWatch
  dsimp only
  split
  · exact flameOut_safe (h := { h with flameLow := _ }) hs hb
  · exact hn { h with flameLow := _ } hs hf

theorem measuredIgnite_safe (v : Nat) (hs : h.Sound) (hi : h.seq = .ignite) : HeaterSafe (measuredIgnite v h) := by
  have hb : h.seq.Burning := .inl hi
  unfold measuredIgnite
  split
  · next r hr => exact burningFault_safe hs hb hr
  · split
    · split
      · exact goTo_safe _ hs.keep_fits (by simp [LockoutBound, hs.unlocked_of_burning hb]) (fun _ => hs.granted hb) nofun
      · exact hs.safe
    · exact hs.safe

theorem measuredRamp_safe (v dt : Nat) (hs : h.Sound) (hf : h.Fits) (hr : h.seq = .ramp) :
    HeaterSafe (measuredRamp v dt h) := by
  have hb : h.seq.Burning := .inr (.inl hr)
  unfold measuredRamp
  split
  · next r hr => exact burningFault_safe hs hb hr
  · exact flameWatch_safe dt hs hf hb fun _ hw _ => hw.safe

theorem measuredRun_safe (v dt : Nat) (q : Bool) (hs : h.Sound) (hf : h.Fits) (hr : h.seq = .run) :
    HeaterSafe (measuredRun v dt q h) := by
  have hb : h.seq.Burning := .inr (.inr hr)
  have counted : ({ h with sessionRun := h.sessionRun + dt } : Htr).Sound := hs
  unfold measuredRun
  dsimp only
  split
  · next r hr => exact burningFault_safe counted hb hr
  · refine flameWatch_safe dt counted hf hb fun h2 hw hwf => ?_
    exact idleStop_safe (h := { thermostatSample h2 q with idle := _ }) (thermostatSample_sound q hw hwf)

/-! ### Purge (R66, R67, R71) -/

theorem endPurge_safe (hs : h.Sound) (hp : h.seq = .purge) : HeaterSafe (endPurge h) := by
  have locked : h.keep.lockout = true ↔ h.purge.dest = .lockout := by
    simpa [LockoutBound, hp] using hs.lockout_iff
  unfold endPurge
  refine goTo_safe _ hs.keep_fits (locked.trans ?_) ?_ ?_ <;> cases h.purge.dest <;>
    simp [PurgeDest.state, LockoutBound, HeaterState.Burning]

theorem purgeOverheat_sound (b : Bool) (hs : h.Sound) (hp : h.seq = .purge) : (purgeOverheat h b).Sound := by
  obtain ⟨ho, hlevel, hg, hl, hk⟩ := hs
  unfold purgeOverheat
  split
  · exact ⟨ho, hlevel, hg, hl, hk⟩
  · refine ⟨ho, hlevel, hg, ?_, recordFault_fits _ hk⟩
    simpa [LockoutBound, hp] using hl

theorem purgeFlame_sound (b : Bool) (hs : h.Sound) (hp : h.seq = .purge) : (purgeFlame h b).Sound := by
  obtain ⟨ho, hlevel, hg, hl, hk⟩ := hs
  unfold purgeFlame
  split
  · exact ⟨ho, hlevel, hg, hl, hk⟩
  · refine ⟨ho, hlevel, hg, ?_, recordFault_fits _ hk⟩
    have other : (if h.purge.dest = .preheat then PurgeDest.off else h.purge.dest) = .lockout ↔ h.purge.dest = .lockout := by
      split <;> simp_all
    simpa [LockoutBound, hp, other] using hl

theorem purgeOverheat_seq (h : Htr) (b : Bool) : (purgeOverheat h b).seq = h.seq := by
  unfold purgeOverheat
  split <;> rfl

theorem purgeFlame_seq (h : Htr) (b : Bool) : (purgeFlame h b).seq = h.seq := by
  unfold purgeFlame
  split <;> rfl

theorem measuredPurge_safe (r : HeaterReadings) (hs : h.Sound) (hp : h.seq = .purge) : HeaterSafe (measuredPurge r h) := by
  have hot := purgeOverheat_sound r.overheatStarting hs hp
  have hotPurge := (purgeOverheat_seq h r.overheatStarting).trans hp
  have blind := purgeFlame_sound r.flameStarting hot hotPurge
  have items := handsFit_handItems (k := h.keep) blind.keep_fits
  unfold measuredPurge
  dsimp only
  split
  · exact (endPurge_safe blind ((purgeFlame_seq _ _).trans hotPurge)).after items
  · exact ⟨blind, items⟩

theorem purgeTimeout_safe (hs : h.Sound) : HeaterSafe (purgeTimeout h) := by
  unfold purgeTimeout
  split
  · exact goTo_safe _ (recordFault_fits .f7 hs.keep_fits) (by simp [LockoutBound]) (by simp [HeaterState.Burning]) nofun
  · exact hs.safe

/-! ### A measurement -/

theorem measuredWait_safe (s : State) (hs : h.Sound) (hw : h.seq = .wait) : HeaterSafe (measuredWait h s) := by
  have hl := hs.unlocked (by simp [hw]) (by simp [hw])
  unfold measuredWait
  split
  · exact hs.safe
  · split
    · split
      · exact beginStart_safe _ hs.keep_fits hl
      · exact goTo_off_safe _ hs.keep_fits hl
    · exact hs.safe

theorem measuredPreheat_safe (hs : h.Sound) (hp : h.seq = .preheat) : HeaterSafe (measuredPreheat h) := by
  have failed (f : HeaterFault) : HeaterSafe (goTo .off .fault (recordFault f h.keep) h) :=
    goTo_off_safe _ (recordFault_fits f hs.keep_fits) (by simpa using hs.unlocked (by simp [hp]) (by simp [hp]))
  unfold measuredPreheat
  split
  · exact failed _
  · split
    · exact failed _
    · exact hs.safe

theorem startUpCheck_safe (r : HeaterReadings) (hs : h.Sound) : HeaterSafe (startUpCheck r h) := by
  unfold startUpCheck
  dsimp only
  split
  · exact hs.safe
  · split
    · split
      · exact ⟨hs, by simp⟩
      · exact purgeTo_safe _ _ _ hs.keep_fits (faultDest_eq_lockout _)
    · refine purgeTo_safe _ _ _ (recordFault_fits _ hs.keep_fits) ?_
      rw [recordFault_lockout]
      exact faultDest_eq_lockout _

theorem measuredState_safe (r : HeaterReadings) (b : Bool) (s : State) (hs : h.Sound) (hf : h.Fits) :
    HeaterSafe (measuredState r b h s) := by
  unfold measuredState
  split
  case h_1 => exact ⟨hs, by simp [frostAtOff]⟩
  case h_2 => exact hs.safe
  case h_3 hw => exact measuredWait_safe s hs hw
  case h_4 hp => exact precheckTest_safe hs hp
  case h_5 hp => exact measuredPreheat_safe hs hp
  case h_6 hi => exact measuredIgnite_safe _ hs hi
  case h_7 hr => exact measuredRamp_safe _ _ hs hf hr
  case h_8 hr => exact measuredRun_safe _ _ _ hs hf hr
  case h_9 hp => exact measuredPurge_safe r hs hp

theorem heaterMeasured_safe (r : HeaterReadings) (s : State) (hs : s.htr.Sound) (hf : s.htr.Fits) :
    HeaterSafe (heaterMeasured r s) := by
  by_cases hd : s.htr.startUpDue = true
  · rw [heaterMeasured_startUp hd]
    exact startUpCheck_safe r (h := takeReadings r s.htr) hs
  · rw [heaterMeasured_eq r (by simpa using hd)]
    have fits : (heaterReads r s.htr).1.Fits := by
      rw [← frostTest_eq]
      exact frostTest_fits (h := takeReadings r s.htr) hf
    have reads := heaterReads_safe r hs
    exact (measuredState_safe r _ s reads.1 fits).after reads.2

/-! ### Timers and grants -/

theorem startExpiry_preheat_safe (hs : h.Sound) : HeaterSafe (startExpiry .precheck .preheat h) := by
  unfold startExpiry
  split
  · next hc =>
    have hl := hs.unlocked (by simp [hc.1]) (by simp [hc.1])
    split
    · exact goTo_off_safe _ (recordFault_fits _ hs.keep_fits) (by simpa using hl)
    · exact goTo_of_enter (enter_plain_safe (.inr (.inr (.inl rfl))) _ hs.keep_fits hl)
  · exact hs.safe

theorem startExpiry_ignite_safe (hs : h.Sound) : HeaterSafe (startExpiry .preheat .ignite h) := by
  unfold startExpiry
  split
  · next hc =>
    have hl := hs.unlocked (by simp [hc.1]) (by simp [hc.1])
    split
    · exact goTo_off_safe _ (recordFault_fits _ hs.keep_fits) (by simpa using hl)
    · next hg => exact goTo_safe _ hs.keep_fits (by simp [LockoutBound, hl]) (fun _ => by omega) nofun
  · exact hs.safe

theorem igniteExpiry_safe (hs : h.Sound) : HeaterSafe (igniteExpiry h) := by
  unfold igniteExpiry
  dsimp only
  split
  · next hc =>
    refine HeaterSafe.after (ms := [_]) ?_ rfl
    split
    · exact failStart_safe _ hs
    · split
      · exact purgeTo_unlocked_safe _ _ .none hs.keep_fits (hs.unlocked_of_burning (.inl hc.1)) nofun
      · exact failStart_safe _ hs
  · exact hs.safe

theorem rampExpiry_safe (q : Bool) (hs : h.Sound) (hf : h.Fits) : HeaterSafe (rampExpiry q h) := by
  unfold rampExpiry
  split
  · next hc =>
    have hb : h.seq.Burning := .inr (.inl hc.1)
    have cap := one_le_levelCap q hf (hs.granted hb)
    refine goTo_safe (h := { h with level := _ }) _ ⟨Nat.zero_le 3, hs.keep_fits.2⟩ ?_ (fun _ => hs.granted hb)
      fun _ => ⟨?_, ?_⟩
    · simp [LockoutBound, hs.unlocked_of_burning hb]
    · show 1 ≤ min 2 (levelCap h q)
      omega
    · show min 2 (levelCap h q) ≤ 4
      omega
  · exact hs.safe

theorem flameOutEvent_safe (hs : h.Sound) : HeaterSafe (flameOutEvent h) := by
  unfold flameOutEvent
  split
  · next hc => exact flameOut_safe hs (.inr hc.1)
  · exact hs.safe

theorem purgeMinimum_safe (hs : h.Sound) : HeaterSafe (purgeMinimum h) := by
  unfold purgeMinimum
  split
  · next hc => exact endPurge_safe hs hc.1
  · exact hs.safe

theorem fixedPurge_safe (hs : h.Sound) : HeaterSafe (fixedPurge h) := by
  unfold fixedPurge
  split
  · next hc => exact endPurge_safe hs hc.1
  · exact hs.safe

/-- A grant in a state that does not burn, or one of 1 or more, is held. -/
theorem granted_sound {n : Nat} (hs : h.Sound) (hn : h.seq.Burning → 1 ≤ n) : ({ h with grant := some n } : Htr).Sound := by
  obtain ⟨ho, hlevel, -, hl, hk⟩ := hs
  exact ⟨ho, hlevel, hn, hl, hk⟩

theorem heaterGrant_safe (n : Nat) (q : Bool) (hs : h.Sound) : HeaterSafe (heaterGrant n q h) := by
  have fits := recordFault_fits .f8 hs.keep_fits
  have unlocked (hl : h.keep.lockout = false) : (recordFault .f8 h.keep).lockout = false := by simpa using hl
  unfold heaterGrant
  dsimp only
  split
  · split
    case h_1 e | h_2 e => exact goTo_off_safe _ fits (unlocked (hs.unlocked (by simp [e]) (by simp [e])))
    case h_3 e | h_4 e | h_5 e =>
      exact purgeTo_unlocked_safe _ _ _ fits (unlocked (hs.unlocked (by simp [e]) (by simp [e]))) nofun
    case h_6 hi hr hu =>
      have idle : ¬h.seq.Burning := by rintro (e | e | e) <;> contradiction
      exact (granted_sound hs fun hb => absurd hb idle).safe
  · exact (recap_sound q (granted_sound hs fun _ => by omega)).safe

/-! ### Requests and actions (R56, R69, R75, R76, R80) -/

theorem handsFit_demandIfMaxChanged (h h' : Htr) : handsFit (demandIfMaxChanged h h') = true := by
  simp [demandIfMaxChanged]

theorem stopHeater_safe (r : HeaterReason) (hs : h.Sound) : HeaterSafe (stopHeater r h) := by
  have fits := endSessionKeep_fits h.sessionRun hs.keep_fits
  have unlocked (hl : h.keep.lockout = false) : (endSessionKeep h.sessionRun h.keep).lockout = false := by simpa using hl
  unfold stopHeater
  dsimp only
  split
  case h_1 e | h_2 e | h_3 e => exact goTo_off_safe _ fits (unlocked (hs.unlocked (by simp [e]) (by simp [e])))
  case h_4 e | h_5 e | h_6 e =>
    exact purgeTo_unlocked_safe _ _ _ fits (unlocked (hs.unlocked (by simp [e]) (by simp [e]))) nofun
  case h_7 e =>
    split
    · next hd =>
      obtain ⟨ho, hlevel, hg, hl, -⟩ := hs
      refine ⟨⟨ho, hlevel, hg, ?_, fits⟩, by simp [handsFit_demandIfMaxChanged, setKeep, handsFit_handItems fits]⟩
      have bound : h.keep.lockout = true ↔ h.purge.dest = .lockout := by simpa [LockoutBound, e] using hl
      rcases hd with hd | hd <;> simp_all [LockoutBound, setKeep]
    · exact ⟨hs, handsFit_demandIfMaxChanged _ _⟩
  case h_8 | h_9 => exact ⟨hs, handsFit_demandIfMaxChanged _ _⟩

theorem applyProfile_safe (p : HeatProfile) (q : Bool) (hs : h.Sound) : HeaterSafe (applyProfile p q h) := by
  have applied : ({ h with profile := p, sc := min h.sc p.mHi } : Htr).Sound := hs
  unfold applyProfile
  dsimp only
  split
  · have freed := setFrostFlag_safe false applied
    exact ⟨recap_sound q freed.1, freed.2⟩
  · exact ⟨recap_sound q applied, handsFit_demandIfMaxChanged _ _⟩

theorem heatSet_safe (x : HeatArgs) (q : Bool) (hs : h.Sound) : HeaterSafe (heatSet x q h) := by
  unfold heatSet
  split
  · exact (applyProfile_safe (clampProfile x) q hs).after (ms := [_]) (by split <;> rfl)
  · exact ⟨hs, rfl⟩

/-- A table written is not the one that drives the outputs (R76). -/
theorem writeTable_safe (t : List LevelRow) (hs : h.Sound) : HeaterSafe (writeTable t h) := by
  obtain ⟨ho, hlevel, hg, hl, hk⟩ := hs
  unfold writeTable
  split
  case h_4 => exact ⟨⟨ho, hlevel, hg, hl, hk⟩, rfl⟩
  all_goals next e =>
    refine ⟨⟨?_, hlevel, hg, hl, hk⟩, rfl⟩
    rw [e] at ho
    show h.out = outputsOf h.seq t h.level
    rw [ho, e]
    rfl

theorem tableWrite_safe (t : List LevelRow) (hs : h.Sound) : HeaterSafe (tableWrite t h) := by
  unfold tableWrite
  split
  · exact (writeTable_safe t hs).after (ms := [_]) rfl
  · exact ⟨hs, rfl⟩

/-- Items replaced with the lockout flag as it was. -/
theorem setKeep_safe (hs : h.Sound) (hk : countsFit k) (hl : k.lockout = h.keep.lockout) : HeaterSafe (setKeep k h) := by
  obtain ⟨ho, hlevel, hg, hb, -⟩ := hs
  exact ⟨⟨ho, hlevel, hg, hl ▸ hb, hk⟩, handsFit_handItems hk⟩

theorem clearLockout_safe (hs : h.Sound) : HeaterSafe (clearLockout h) := by
  have none : countsFit (clearedKeep h.keep) := ⟨Nat.zero_le 3, Nat.zero_le 2⟩
  unfold clearLockout
  split
  · exact (goTo_off_safe .none ⟨Nat.zero_le 3, Nat.zero_le 2⟩ rfl).after (ms := [_]) rfl
  · split
    · exact ⟨hs, rfl⟩
    · exact (setKeep_safe hs none rfl).after (ms := [_]) rfl
  · exact (setKeep_safe hs none rfl).after (ms := [_]) rfl

theorem heaterAction_safe (a : Action) (p : Option Int) (s : State) (hs : s.htr.Sound) : HeaterSafe (heaterAction a p s) := by
  have applied : (applySetpoint p s.htr).Sound := by
    cases p <;> exact hs
  unfold heaterAction
  split
  · exact (requestStart_safe .schedule s applied).before rfl
  · exact (stopHeater_safe .schedule hs).before rfl

end Heater

/-- Every event at HTR is safe. -/
theorem htrHandle_safe (e : HtrEv) (s : State) (hs : s.htr.Sound) (hf : s.htr.Fits) : HeaterSafe (htrHandle e s) := by
  cases e with
  | measured r => exact heaterMeasured_safe r s hs hf
  | second => exact ⟨hs, rfl⟩
  | precheckExpiry => exact startExpiry_preheat_safe hs
  | preheatExpiry => exact startExpiry_ignite_safe hs
  | igniteExpiry => exact igniteExpiry_safe hs
  | rampExpiry => exact rampExpiry_safe _ hs hf
  | controlPeriod => exact (controlPeriod_sound _ hs hf).safe
  | idleStop => exact idleStop_safe hs
  | flameOut => exact flameOutEvent_safe hs
  | purgeMinimum => exact purgeMinimum_safe hs
  | purgeTimeout => exact purgeTimeout_safe hs
  | fixedPurge => exact fixedPurge_safe hs
  | frostRetry =>
    simp only [htrHandle, frostRetry]
    split <;> exact ⟨hs, rfl⟩
  | frostStart => exact frostEvent_safe s hs
  | grant n b => exact heaterGrant_safe n _ hs
  | quiet => exact (recap_sound _ hs).safe
  | start => exact (requestStart_safe .host s hs).after (ms := [_]) rfl
  | stop => exact (stopHeater_safe .host hs).after (ms := [_]) rfl
  | set x => exact heatSet_safe x _ hs
  | tableRead => exact ⟨hs, rfl⟩
  | tableWrite t => exact tableWrite_safe t hs
  | clearLockout => exact clearLockout_safe hs
  | defaults => 
    have applied := applyProfile_safe defaultProfile s.rcl.quiet hs
    exact (writeTable_safe _ applied.1).after applied.2
  | act a p => exact heaterAction_safe a p s hs

end Sys2Proof.Machine

/-! O56, continued: no other block than HTR hands heater items to the store (R74, R197). -/

namespace Sys2Proof.Machine

theorem handsFit_map {α : Type} (f : α → Msg) (l : List α) (h : ∀ x, (f x).itemsFit = true) : handsFit (l.map f) = true := by
  simp [handsFit, h]

/-! ### CHG and DMD -/

@[simp] theorem completeRun_hands (n : Nat) (t : TempInput) : handsFit (completeRun n t).2 = true := by
  simp [completeRun]

@[simp] theorem sampleInput_hands (free n : Nat) (x : Option Int) (t : TempInput) :
    handsFit (sampleInput free n x t).2 = true := by
  unfold sampleInput
  split <;> simp

@[simp] theorem sampleInputs_hands (free n : Nat) (xs : List (Option Int)) (ts : List TempInput) :
    handsFit (sampleInputs free n xs ts).2 = true := by
  induction xs generalizing n ts with
  | nil => rfl
  | cons x xs ih =>
    cases ts with
    | nil => rfl
    | cons t ts => simp [sampleInputs, ih]

@[simp] theorem fullSync_hands (c : Chg) : handsFit (fullSync c).2 = true := by
  simp [fullSync]

@[simp] theorem measureCharge_hands (free : Nat) (m : Samples) (c : Chg) : handsFit (measureCharge free m c).2 = true := by
  simp [measureCharge, syncStep]

@[simp] theorem reviewMode_hands (c : Chg) (s : State) : handsFit (reviewMode c s).2 = true := by
  unfold reviewMode
  split <;> simp

@[simp] theorem enterFloor_hands (c : Chg) (f : Floor) (s : State) : handsFit (enterFloor c f s).2 = true := by
  simp [enterFloor, floorMsgs]

@[simp] theorem handFigures_hands (c : Chg) : handsFit (handFigures c).2 = true := by
  unfold handFigures
  split <;> rfl

@[simp] theorem chgRequest_hands (ok : Bool) (apply : Chg → Chg) (c : Chg) : handsFit (chgRequest ok apply c).2 = true := by
  simp [chgRequest]

theorem chgHandle_hands (e : ChgEv) (s : State) : handsFit (chgHandle e s).2 = true := by
  cases e with
  | sensorValid n =>
    simp only [chgHandle, sensorValidEvent]
    split <;> simp
  | _ => simp [chgHandle, measure, floorEvent, dozeExpiry, ignEvent, stirMode, chgDefaults, setTrim]

@[simp] theorem itemsFit_deliverGrant (n level : Nat) (b : Budget) : (deliverGrant n level b).itemsFit = true := by
  unfold deliverGrant
  split <;> rfl

@[simp] theorem budgetPass_hands (t : Trigger) (d : Dmd) (s : State) : handsFit (budgetPass t d s).2 = true := by
  unfold budgetPass
  split
  · rfl
  · have loads (g : List (Nat × Nat)) (b : Budget) : handsFit (hostReports (presentEntries d) g b) = true :=
      handsFit_map _ _ fun _ => rfl
    simp [fixedDeliveries, budgetReports, loads, handsFit_map]

theorem dmdHandle_hands (e : DmdEv) (s : State) : handsFit (dmdHandle e s).2 = true := by
  cases e with
  | update n u =>
    simp only [dmdHandle, demandUpdate]
    split <;> simp
  | declare x =>
    simp only [dmdHandle, declareEntry]
    split
    · rfl
    · split
      · rfl
      · split <;> simp [declareReply]
  | _ => simp [dmdHandle, releaseEntry]

/-! ### CLR -/

@[simp] theorem handCooler_hands (s : State) (o n : Clr) (ms : List Msg) :
    handsFit (handCooler s o n ms).2 = handsFit ms := by
  simp [handCooler, warmAlert, warmReport]

@[simp] theorem handChange_hands (s : State) (o n : Clr) (r : CoolerReason) : handsFit (handChange s o n r).2 = true := by
  simp [handChange, stateReports, coolerStateReport]

@[simp] theorem conclude_hands (s : State) (o n : Clr) (r : CoolerReason) : handsFit (conclude s o n r).2 = true := by
  simp [conclude, stallAtStart]

@[simp] theorem concludeBlind_hands (s : State) (o m : Clr) : handsFit (concludeBlind s o m).2 = true := by
  have reports (n : Clr) (r : CoolerReason) : handsFit (blindReports o m n r) = true := by
    unfold blindReports
    split <;> simp [stateReports, coolerStateReport]
  simp [concludeBlind, stallAtStart, reports]

@[simp] theorem raiseWarm_hands (c : Clr) (t : Option Int) : handsFit (raiseWarm c t).2 = true := by
  simp [raiseWarm, warmMsgs, warmAlert, warmReport]

@[simp] theorem warmWatch_hands (c : Clr) (dt : Nat) (t : Option Int) : handsFit (warmWatch c dt t).2 = true := by
  unfold warmWatch
  split <;> simp [warmMsgs, warmAlert, warmReport]

@[simp] theorem coolerGrant_hands (n : Nat) (b : Budget) (s : State) : handsFit (coolerGrant n b s).2 = true := by
  unfold coolerGrant
  dsimp only
  split <;> simp

@[simp] theorem coolerAction_hands (a : Action) (p : Option Int) (s : State) : handsFit (coolerAction a p s).2 = true := by
  unfold coolerAction
  dsimp only
  split <;> simp [applyCool]

theorem clrHandle_hands (e : ClrEv) (s : State) : handsFit (clrHandle e s).2 = true := by
  cases e with
  | set x =>
    simp only [clrHandle, coolSet]
    split
    · dsimp only
      split <;> simp [applyCool]
    · rfl
  | _ => simp [clrHandle, coolerMeasured, callRise, coolerExpiry, compFaultEvent, minuteEvent, coolerQuiet, applyCool]

/-! ### LGT -/

@[simp] theorem concludeLights_hands (s : State) (b l : Lgt) : handsFit (concludeLights s b l).2 = true := by
  simp [concludeLights]

@[simp] theorem withoutAnswer_hands (s : State) (l : Lgt) (ms : List Msg) : handsFit (withoutAnswer s l ms).2 = handsFit ms := by
  simp [withoutAnswer]

@[simp] theorem withAnswer_hands (s : State) (l : Lgt) (ms : List Msg) (a : Msg) :
    handsFit (withAnswer s l ms a).2 = (a.itemsFit && handsFit ms) := by
  simp [withAnswer]

@[simp] theorem withDone_hands (s : State) (l : Lgt) : handsFit (withDone s l).2 = true := by
  simp [withDone]

@[simp] theorem pushFrame_hands (o : FrameOwner) (l : Lgt) : handsFit (pushFrame o l).2 = true := by
  simp [pushFrame]

@[simp] theorem startFlash_hands (k a b c : Nat) (l : Lgt) : handsFit (startFlash k a b c l).2 = true := by
  simp [startFlash]

@[simp] theorem longPressed_hands (b : Button) (l : Lgt) (s : State) : handsFit (longPressed b l s).2 = true := by
  unfold longPressed
  dsimp only
  split
  · rfl
  · split <;> simp

theorem lgtHandle_hands (e : LgtEv) (s : State) : handsFit (lgtHandle e s).2 = true := by
  cases e with
  | restore =>
    simp only [lgtHandle, lightRestore]
    split <;> simp
  | act a p => cases a <;> simp [lgtHandle, sceneAction, wakeLight]
  | _ => simp [lgtHandle, cancelFlash, sceneRecall, lightSave]

/-! ### RCL -/

@[simp] theorem warningMsgs_hands (k c : Nat) (b : Bool) (a : Nat) : handsFit (warningMsgs k c b a) = true := rfl

@[simp] theorem testWarnings_hands (r : Rcl) : handsFit (testWarnings r).2 = true := by
  simp [testWarnings, testDue, testOverdue]

@[simp] theorem qualify_hands (b : BreakRun) (m : Marker) (r : Rcl) : handsFit (qualify b m r).2 = true := by
  simp [qualify, clearAccumulator]

@[simp] theorem testFull_hands (r : Rcl) : handsFit (testFull r).2 = true := by
  unfold testFull
  split <;> simp

@[simp] theorem testSplit_hands (r : Rcl) : handsFit (testSplit r).2 = true := by
  unfold testSplit
  split <;> simp

@[simp] theorem setQuiet_hands (b : Bool) (r : Rcl) : handsFit (setQuiet b r).2 = true := by
  simp [setQuiet, quietMsgs]

@[simp] theorem endRun_hands (b : BreakRun) (r : Rcl) : handsFit (endRun b r).2 = true := by
  unfold endRun
  dsimp only
  split <;> simp [closeRecord]

@[simp] theorem changeActivity_hands (a : Activity) (r : Rcl) : handsFit (changeActivity a r).2 = true := by
  unfold changeActivity
  dsimp only
  split
  · split
    · rfl
    · split <;> simp
  · rfl

@[simp] theorem restActivity_hands (r : Rcl) : handsFit (restActivity r).2 = true := by
  simp [restActivity]

theorem rclHandle_hands (e : RclEv) (s : State) : handsFit (rclHandle e s).2 = true := by
  cases e with
  | activity a =>
    simp only [rclHandle, activityRequest]
    split <;> simp [takeActivity, openRecord, openMsgs]
  | restPlan w =>
    simp only [rclHandle, restPlanRequest]
    split
    · rfl
    · split
      · rfl
      · split <;> simp [openRecord, openMsgs]
  | logRead =>
    simp only [rclHandle, logReadRequest]
    split <;> rfl
  | act a =>
    simp only [rclHandle, restAction]
    split <;> simp
  | _ => simp [rclHandle, secondEvent, secondMsgs, testDue, testOverdue, clockRequest, restSettingsRequest, logWindowRequest]

/-! ### SCH -/

@[simp] theorem itemsFit_deliverAction (a : Action) (p : Option Int) : (deliverAction a p).itemsFit = true := by
  cases a <;> rfl

@[simp] theorem itemsFit_firingReport (f : Firing) (n : Nat) (x : Option (Nat × Nat)) (r : Option Refuse) :
    (firingReport f n x r).itemsFit = true := by
  cases r <;> rfl

@[simp] theorem fireHead_hands (b : Bool) (n : Nat) (c : Sch) : handsFit (fireHead b n c).2 = true := by
  unfold fireHead
  split <;> simp

@[simp] theorem derivation_hands (d : Nat) (c : Sch) : handsFit (derivation d c).2 = true := by
  unfold derivation
  split <;> rfl

theorem schHandle_hands (e : SchEv) (s : State) : handsFit (schHandle e s).2 = true := by
  cases e with
  | answer r =>
    simp only [schHandle, finishFiring]
    split <;> simp
  | clockSet x =>
    simp only [schHandle, clockAtSch]
    split <;> simp
  | add x =>
    simp only [schHandle, schedAddRequest]
    split
    · rfl
    · split
      · rfl
      · split <;> rfl
  | remove n =>
    simp only [schHandle, schedRemoveRequest]
    split
    · rfl
    · split <;> rfl
  | _ => simp [schHandle]

/-! ### ALR -/

@[simp] theorem becomeOwner_hands (k : Nat) (a : Alr) : handsFit (becomeOwner k a).2 = true := rfl

@[simp] theorem dropOwner_hands (a : Alr) : handsFit (dropOwner a).2 = true := rfl

@[simp] theorem burstBoundary_hands (a : Alr) : handsFit (burstBoundary a).2 = true := by
  unfold burstBoundary
  split
  · split <;> simp
  · rfl

@[simp] theorem settleAlerts_hands (b a : Alr) : handsFit (settleAlerts b a).2 = true := by
  have owner : handsFit (settleOwner a).2 = true := by
    unfold settleOwner
    split
    · rfl
    · rfl
    · split
      · split <;> simp
      · split <;> rfl
  simp [settleAlerts, alertHands, owner]

@[simp] theorem acknowledge_hands (k n : Nat) (a : Alr) : handsFit (acknowledge k n a).2 = true := by
  simp [acknowledge, changeRecord]

@[simp] theorem setAlertChannel_hands (n : Nat) (a : Alr) : handsFit (setAlertChannel n a).2 = true := by
  simp [setAlertChannel, startFlashMsg]

theorem alrHandle_hands (e : AlrEv) (s : State) : handsFit (alrHandle e s).2 = true := by
  cases e with
  | beepPhase =>
    simp only [alrHandle, beepPhase]
    split <;> simp
  | ack k =>
    simp only [alrHandle, ackRequest]
    split
    · rfl
    · split
      · rfl
      · split <;> simp
  | buttonAck =>
    simp only [alrHandle]
    split <;> simp
  | act a =>
    simp only [alrHandle, alertAction]
    split <;> simp [changeRecord]
  | _ => simp [alrHandle, changeRecord, changeRecords, soundingEnd, resoundEnd, channelRequest]

/-! ### RPQ, LNK and STO -/

@[simp] theorem takeReport_hands (s : State) (q : Rpq) : handsFit (takeReport s q).2 = true := by
  unfold takeReport
  split <;> simp

@[simp] theorem takePost_hands (c : Nat) (d : List Byte) (s : State) (q : Rpq) : handsFit (takePost c d s q).2 = true := by
  unfold takePost
  split <;> simp [capture]

@[simp] theorem itemsFit_captureReadAnswer (n i : Nat) (q : Rpq) : (captureReadAnswer n i q).itemsFit = true := by
  unfold captureReadAnswer
  dsimp only
  split
  · rfl
  · split
    · rfl
    · split <;> rfl

theorem rpqHandle_hands (e : RpqEv) (s : State) : handsFit (rpqHandle e s).2 = true := by
  have effect : handsFit (rpqEffect e s).2 = true := by
    cases e <;> simp [rpqEffect, gateRequest, levelRequest, maskRequest, armRequest, freeRequest]
  simp [rpqHandle, concludeReports, effect]

@[simp] theorem linkError_hands (e : LinkError) (l : Lnk) : handsFit (linkError e l).2 = true := rfl

@[simp] theorem dispatchRequest_hands (code : Nat) (tag : Byte) (r : Option Request) (s : State) (l : Lnk) :
    handsFit (dispatchRequest code tag r s l).2 = true := by
  have routed (r : Request) (l : Lnk) : handsFit (routeRequest r l s).2 = true := by cases r <;> rfl
  unfold dispatchRequest
  dsimp only
  split
  · rfl
  · split
    · rfl
    · split
      · rfl
      · exact routed _ _

@[simp] theorem assemble_hands (b : Byte) (s : State) (l : Lnk) : handsFit (assemble b s l).2 = true := by
  have dispatched (bytes : List Byte) (l : Lnk) : handsFit (dispatchFrame bytes s l).2 = true := by
    unfold dispatchFrame
    split <;> simp
  unfold assemble
  split <;> simp [dispatched]

theorem lnkHandle_hands (e : LnkEv) (s : State) : handsFit (lnkHandle e s).2 = true := by
  cases e with
  | gapExpiry =>
    simp only [lnkHandle, gapExpiry]
    split <;> rfl
  | frameSent =>
    simp only [lnkHandle, frameSent]
    split <;> simp
  | _ => simp [lnkHandle]

theorem stoHandle_hands (e : StoEv) (s : State) : handsFit (stoHandle e s).2 = true := by
  cases e <;> simp [stoHandle, saveRequest, defaultsRequest, defaultMsgs, restartRequest]

end Sys2Proof.Machine

/-! O56, continued: the store, deliveries, resets and steps. -/

namespace Sys2Proof.Machine

/-! ### STO -/

/-- The store with the counts of its items, of the State write in progress and of the State area within the limits (R74, R197). -/
def Sto.CountsFit (t : Sto) : Prop :=
  countsFit t.items ∧ (∀ w, t.writing = some w → countsFit w.heater) ∧ ∀ a, t.stateArea = some a → countsFit a.fields.heater

theorem requestWrite_counts (q : Nat) {t : Sto} (hf : t.CountsFit) : (requestWrite q t).CountsFit := by
  obtain ⟨hi, hw, ha⟩ := hf
  unfold requestWrite
  split
  · exact ⟨hi, hw, ha⟩
  · exact ⟨hi, fun w e => by cases e; exact hi, nofun⟩

theorem completeWrite_counts (q : Nat) {t : Sto} (hf : t.CountsFit) : (completeWrite q t).CountsFit := by
  obtain ⟨hi, hw, ha⟩ := hf
  unfold completeWrite
  split
  · exact ⟨hi, hw, ha⟩
  · next w e =>
    dsimp only
    split
    · exact ⟨hi, fun w e => by cases e; exact hi, nofun⟩
    · exact ⟨hi, nofun, fun a e' => by cases e'; exact hw w e⟩

/-- A fitting event leaves the store's counts within the limits. -/
theorem stoHandle_counts (e : StoEv) (s : State) (he : (Msg.sto e).itemsFit = true) (hf : s.sto.CountsFit) :
    (stoHandle e s).1.CountsFit := by
  cases e with
  | heater k => exact requestWrite_counts _ (t := { s.sto with items := k }) ⟨(itemsFit_heater k).mp he, hf.2⟩
  | writeState => exact requestWrite_counts _ hf
  | saveComplete =>
    simp only [stoHandle, completeSave]
    split <;> exact hf
  | writeComplete => exact completeWrite_counts _ hf
  | hourlyExpiry =>
    simp only [stoHandle]
    split
    · exact requestWrite_counts _ (t := { s.sto with hourly := 3600 }) hf
    · exact hf
  | second | defaults => exact hf
  | save =>
    simp only [stoHandle, saveRequest]
    split <;> exact hf
  | restart =>
    simp only [stoHandle, restartRequest]
    split
    · exact hf
    · exact requestWrite_counts s.chg.q hf

/-! ### A delivery -/

theorem HeaterState.levelFits_iff (x : HeaterState) (n : Nat) :
    x.LevelFits n ↔ (x = .ramp → n = 1) ∧ (x = .run → 1 ≤ n ∧ n ≤ 4) ∧ (x ≠ .ramp → x ≠ .run → n = 0) := by
  cases x <;> simp [HeaterState.LevelFits]

/-- The invariant by blocks: the settings, HTR and the store. -/
theorem heaterInv_iff (s : State) : heaterInv s ↔ settingsInv s ∧ s.htr.Sound ∧ s.sto.CountsFit := by
  have hlevel := s.htr.seq.levelFits_iff s.htr.level
  constructor
  · rintro ⟨hset, hout, hramp, hrun, hother, hg, hbound, hlocked, hpurge, hk, hsto⟩
    refine ⟨hset, ⟨hout.trans ?_, hlevel.mpr ⟨hramp, hrun, hother⟩, hg, ⟨hbound, ?_⟩, hk⟩, hsto⟩
    · cases s.htr.seq <;> rfl
    · rintro (e | ⟨e, hd⟩)
      · exact hlocked e
      · exact hpurge e hd
  · rintro ⟨hset, ⟨hout, hl, hg, hbound, hk⟩, hsto⟩
    obtain ⟨hramp, hrun, hother⟩ := hlevel.mp hl
    refine ⟨hset, hout.trans ?_, hramp, hrun, hother, hg, hbound.mp, fun e => hbound.mpr (.inl e),
      fun e hd => hbound.mpr (.inr ⟨e, hd⟩), hk, hsto⟩
    cases s.htr.seq <;> rfl

/-- A fitting message keeps the invariant and brings about fitting messages. -/
theorem deliver_heaterInv (m : Msg) (s : State) (hm : m.itemsFit = true) (h : heaterInv s) :
    heaterInv (deliver m s).1 ∧ handsFit (deliver m s).2 = true := by
  obtain ⟨hset, hhtr, hsto⟩ := (heaterInv_iff s).mp h
  obtain ⟨-, hfits, -⟩ := (settingsInv_iff s).mp hset
  have hset' := deliver_settingsInv m s hset
  rw [heaterInv_iff]
  cases m with
  | chg e => exact ⟨⟨hset', hhtr, hsto⟩, chgHandle_hands e s⟩
  | dmd e => exact ⟨⟨hset', hhtr, hsto⟩, dmdHandle_hands e s⟩
  | htr e =>
    have safe := htrHandle_safe e s hhtr hfits
    exact ⟨⟨hset', safe.1, hsto⟩, safe.2⟩
  | clr e => exact ⟨⟨hset', hhtr, hsto⟩, clrHandle_hands e s⟩
  | lgt e => exact ⟨⟨hset', hhtr, hsto⟩, lgtHandle_hands e s⟩
  | rcl e => exact ⟨⟨hset', hhtr, hsto⟩, rclHandle_hands e s⟩
  | sch e => exact ⟨⟨hset', hhtr, hsto⟩, schHandle_hands e s⟩
  | alr e => exact ⟨⟨hset', hhtr, hsto⟩, alrHandle_hands e s⟩
  | rpq e => exact ⟨⟨hset', hhtr, hsto⟩, rpqHandle_hands e s⟩
  | lnk e => exact ⟨⟨hset', hhtr, hsto⟩, lnkHandle_hands e s⟩
  | sto e => exact ⟨⟨hset', hhtr, stoHandle_counts e s hm hsto⟩, stoHandle_hands e s⟩

/-! ### Events and resets -/

theorem settle_heaterInv {ms : List Msg} {s : State} (hm : handsFit ms = true) (h : heaterInv s) : heaterInv (settle ms s) :=
  settle_keeps (p := Msg.itemsFit) deliver_heaterInv ms s hm h

theorem event_heaterInv {m : Msg} {s : State} (hm : m.itemsFit = true) (h : heaterInv s) : heaterInv (event m s) := by
  obtain ⟨kept, fit⟩ := deliver_heaterInv m (fresh s) hm h
  exact settle_heaterInv fit kept

theorem events_heaterInv {ms : List Msg} {s : State} (hm : handsFit ms = true) (h : heaterInv s) : heaterInv (events ms s) :=
  settle_heaterInv hm h

theorem request_heaterInv (tag : Byte) (r : Request) {s : State} (h : heaterInv s) : heaterInv (request tag r s) :=
  event_heaterInv rfl (event_heaterInv rfl h)

/-- What a second finds due are expiries, and no items for the store. -/
theorem overdueMsgs_hands (s : State) : handsFit (overdueMsgs s) = true := by
  have alerts : handsFit (alertsDue s.alr) = true := by simp [alertsDue]
  have hourly : (Msg.sto .hourlyExpiry).itemsFit = true := rfl
  simp [overdueMsgs, heaterDue, coolerDue, alerts, hourly]

theorem usedItems_fit {t : Sto} (hf : t.CountsFit) : countsFit (usedItems t) := by
  obtain ⟨-, -, ha⟩ := hf
  unfold usedItems readSaved
  split
  · next a e =>
    split
    · exact ha a e
    · exact ⟨Nat.zero_le 3, Nat.zero_le 2⟩
  · exact ⟨Nat.zero_le 3, Nat.zero_le 2⟩

/-- HTR after a reset is in LOCKOUT or OFF by the lockout flag in use (R82). -/
theorem atReset_sound (x : Settings) {k : Retained} (hk : countsFit k) : (Htr.atReset x k).Sound := by
  unfold Htr.Sound Htr.atReset LockoutBound HeaterState.Burning
  cases hl : k.lockout <;> exact ⟨rfl, rfl, by simp, by simp, hk⟩

theorem blocksAtReset_heaterInv (pins : Pins) (s : State) (h : heaterInv s) : heaterInv (blocksAtReset pins s) := by
  obtain ⟨hset, -, hsto⟩ := (heaterInv_iff s).mp h
  have items := usedItems_fit hsto
  exact (heaterInv_iff _).mpr ⟨blocksAtReset_settingsInv pins s hset, atReset_sound _ items, items, nofun, hsto.2.2⟩

theorem startUp_heaterInv (kind : ResetKind) (pins : Pins) {s : State} (h : heaterInv s) : heaterInv (startUp kind pins s) := by
  obtain ⟨-, -, hsto⟩ := (heaterInv_iff s).mp h
  exact events_heaterInv (by simp [startUpMsgs, usedItems_fit hsto]) (blocksAtReset_heaterInv pins s h)

/-! ### Commands -/

/-- Every command is an event, a request, a reset or two events, each of which keeps the invariant. -/
theorem exec_heaterInv (c : Instr) {s : State} (h : heaterInv s) : ∃ t, exec c s = .next t ∧ heaterInv t := by
  cases c
  case restartReset pins =>
    refine ⟨if restartDue s then startUp .restart pins s else s, rfl, ?_⟩
    split
    · exact startUp_heaterInv _ _ h
    · exact h
  case powerOn pins => exact ⟨_, rfl, startUp_heaterInv _ _ h⟩
  case brownOut pins => exact ⟨_, rfl, startUp_heaterInv _ _ h⟩
  case receiveByte b => exact ⟨_, rfl, event_heaterInv rfl (event_heaterInv rfl h)⟩
  case unknownRequest tag code => exact ⟨_, rfl, event_heaterInv rfl (event_heaterInv rfl h)⟩
  case secondTimer => exact ⟨_, rfl, event_heaterInv rfl (events_heaterInv (overdueMsgs_hands s) h)⟩
  all_goals
    refine ⟨_, rfl, ?_⟩
    with_reducible
      first
      | exact request_heaterInv _ _ h
      | exact event_heaterInv (by with_unfolding_all rfl) h

/-- Settles O56: deliveries keep the invariant, and no message but HTR's hands items to the store. -/
theorem stepKeepsTheHeater : Obligations.StepKeepsTheHeater := by
  intro s t h ht
  unfold step at ht
  split at ht
  · cases ht
    exact h
  · next c rest _ =>
    obtain ⟨u, hu, hinv⟩ := exec_heaterInv c (s := { s with pending := rest }) h
    rw [hu] at ht
    cases ht
    exact hinv

end Sys2Proof.Machine

/-! O20: the expiries of a heater start and its measurements (R57 to R60, R71, R73, R74). -/

namespace Sys2Proof.Machine

/-! ### A command at HTR -/

/-- A command that brings HTR an event, with what that event leaves at HTR and hands on. -/
theorem exec_htr {i : Instr} {e : HtrEv} {s : State} {h : Htr} {ms : List Msg} (he : exec i s = .next (event (.htr e) s))
    (hh : htrHandle e (fresh s) = (h, ms)) : exec i s = .next (settle ms { fresh s with htr := h }) :=
  exec_settle he (deliver_htr_of hh)

/-- A command that brings HTR an event that does nothing there: only the event counter advances. -/
theorem exec_htr_idle {i : Instr} {e : HtrEv} {s : State} (he : exec i s = .next (event (.htr e) s))
    (hh : htrHandle e (fresh s) = (s.htr, [])) : exec i s = .next (fresh s) :=
  exec_quiet he (deliver_htr_of hh)

section Entries

variable {h : Htr}

/-! ### Entries in the words of the statements (R52, R53, R57 to R60) -/

/-- An entry to a state that adopts no table and keeps the frost start limit. -/
theorem enteredState_active {new : HeaterState} (h : Htr) (hn : new ≠ .off ∧ new ≠ .wait ∧ new ≠ .lockout) :
    enteredState new h = driveHeater
      { entrySettings new h with
        seq := new, level := entryLevel new h.level, timer := stateSeconds new, frostRetry := none } := by
  obtain ⟨hoff, hwait, hlock⟩ := hn
  have limited : (h.frostLimited && !(new == .off || new == .lockout)) = h.frostLimited := by
    rw [beq_eq_false_iff_ne.mpr hoff, beq_eq_false_iff_ne.mpr hlock]
    exact Bool.and_true _
  have kept : (entrySettings new h).frostLimited = h.frostLimited := by cases new <;> rfl
  unfold enteredState
  dsimp only
  rw [limited, if_neg hoff, if_neg (not_or.mpr ⟨hoff, hwait⟩), ← kept]

/-- An entry to an active state, the outputs driven by the entered level. -/
theorem goTo_active {new : HeaterState} {h' : Htr} (r : HeaterReason) (k : Retained)
    (hn : new ≠ .off ∧ new ≠ .wait ∧ new ≠ .lockout)
    (e : driveHeater
      { entrySettings new { h with keep := k } with
        seq := new, level := entryLevel new h.level, timer := stateSeconds new, frostRetry := none } = h') :
    goTo new r k h = (h', heaterFollows h h' r.code) :=
  goTo_eq ((enteredState_active _ hn).trans e)

/-- An end in OFF with a fault. -/
theorem goTo_off_fault (f : HeaterFault) (h : Htr) :
    goTo .off .fault (recordFault f h.keep) h =
      (heaterOff (withFault f h.keep) h, heaterFollows h (heaterOff (withFault f h.keep) h) 4) := by
  rw [goTo_off, recordFault_eq]
  rfl

/-- The retained items after a failure counted (R70, R74). -/
def failedKeep (f : HeaterFault) (k : Retained) : Retained :=
  { withFault f k with failures := min 3 (k.failures + 1), lockout := k.lockout || decide (3 ≤ k.failures + 1) }

/-- HTR in the purge that a counted failure begins (R74). -/
def heaterFailed (f : HeaterFault) (h : Htr) : Htr :=
  heaterPurging (if (failedKeep f h.keep).lockout then .lockout else .off) .normal (failedKeep f h.keep) h

theorem failStart_eq (f : HeaterFault) (h : Htr) :
    failStart f h = (heaterFailed f h, heaterFollows h (heaterFailed f h) 4) := by
  have keep : countFailure (recordFault f h.keep) = failedKeep f h.keep := by
    rw [recordFault_eq]
    rfl
  rw [failStart, keep]
  exact purgeTo_eq _ _ _ _ _

/-! ### The expiries -/

theorem startExpiry_refused {seq next : HeaterState} (hs : h.seq = seq) (ht : h.timer = some 0) (hg : h.grant.getD 0 = 0) :
    startExpiry seq next h =
      (heaterOff (withFault .f8 h.keep) h, heaterFollows h (heaterOff (withFault .f8 h.keep) h) 4) := by
  rw [startExpiry, if_pos ⟨hs, ht⟩, if_pos hg, goTo_off_fault]

theorem startExpiry_goes {seq next : HeaterState} (hs : h.seq = seq) (ht : h.timer = some 0) (hg : h.grant.getD 0 ≠ 0) :
    startExpiry seq next h = goTo next .none h.keep h := by
  rw [startExpiry, if_pos ⟨hs, ht⟩, if_neg hg]

theorem startExpiry_idle {seq next : HeaterState} (hn : h.seq ≠ seq ∨ h.timer ≠ some 0) :
    startExpiry seq next h = (h, []) :=
  if_neg fun hc => hn.elim (· hc.1) (· hc.2)

/-- The ignition window ends: one more try, or a failure (R59, R74). -/
theorem igniteExpiry_eq (hs : h.seq = .ignite) (ht : h.timer = some 0) :
    igniteExpiry h =
      let failed := post 6 (u8 h.attempts ++ tempField h.reference)
      let code : HeaterFault := if h.restartUsed then .f4 else .f3
      if h.restartUsed = false ∧ h.attempts ≤ 1 then
        (heaterPurging .preheat .normal h.keep h,
          failed :: heaterFollows h (heaterPurging .preheat .normal h.keep h) 6)
      else (heaterFailed code h, failed :: heaterFollows h (heaterFailed code h) 4) := by
  rw [igniteExpiry, if_pos ⟨hs, ht⟩]
  dsimp only
  cases hr : h.restartUsed with
  | true => simp [failStart_eq]
  | false =>
    by_cases ha : h.attempts ≤ 1
    · simp only [ha, and_self, if_true, Bool.false_eq_true, if_false, purgeTo_eq]
      rfl
    · simp [ha, failStart_eq]

/-! ### The measurements -/

theorem precheckTest_passed (hf : startFault h = none) : precheckTest h = (h, []) := by
  rw [precheckTest, precheckFault_eq, hf]

theorem precheckTest_failed {f : HeaterFault} (hf : startFault h = some f) :
    precheckTest h = (heaterOff (withFault f h.keep) h, heaterFollows h (heaterOff (withFault f h.keep) h) 4) := by
  rw [precheckTest, precheckFault_eq, hf]
  exact goTo_off_fault f h

/-- No fault of R71 and R72. -/
theorem burningFault_of_burnsWell {v : Nat} {f : Int} (hb : BurnsWell v f h) : burningFault v h = none := by
  obtain ⟨hf, ⟨o, ho, hle⟩, n, hn, hv⟩ := hb
  have cool : ¬1200 < o := not_lt.mpr hle
  have full : ¬n < v := not_lt.mpr hv
  rw [burningFault, hf, ho]
  simp [cool, full, hn]

theorem measuredIgnite_of_burnsWell {v : Nat} {f : Int} (hb : BurnsWell v f h) :
    measuredIgnite v h = if (h.reference.any fun ref => decide (ref + 400 ≤ f)) = true then goTo .ramp .none h.keep h
      else (h, []) := by
  rw [measuredIgnite, burningFault_of_burnsWell hb, hb.1]
  cases h.reference <;> simp

end Entries

section States

variable {r : HeaterReadings} {b : Bool} {h : Htr} {s : State}

theorem measuredState_precheck (hs : h.seq = .precheck) : measuredState r b h s = precheckTest h := by
  rw [measuredState, hs]

theorem measuredState_preheat (hs : h.seq = .preheat) : measuredState r b h s = measuredPreheat h := by
  rw [measuredState, hs]

theorem measuredState_ignite (hs : h.seq = .ignite) : measuredState r b h s = measuredIgnite s.chg.battery.vHard h := by
  rw [measuredState, hs]

/-- A measurement whose state's own rule changes nothing. -/
theorem deliver_htr_measured_stays (hd : s.htr.startUpDue = false)
    (hm : measuredState r s.htr.frostDeferred (heaterReads r s.htr).1 s = ((heaterReads r s.htr).1, [])) :
    deliver (.htr (.measured r)) s = ({ s with htr := (heaterReads r s.htr).1 }, (heaterReads r s.htr).2) := by
  rw [deliver_htr_measured hd hm, List.append_nil]

end States

/-- Settles O20: each expiry by its state, timer and grant; each measurement by its state and readings. -/
theorem heaterStartTimersAdvanceTheStart : Obligations.HeaterStartTimersAdvanceTheStart := by
  refine ⟨?_, ?_⟩
  · intro s h row result
    refine ⟨fun ht hseq hg => ⟨?_, ?_⟩, fun ht hs hg => ?_, fun ht hs hg => ?_, fun ht hs => ?_, fun ht hs => ?_, ?_⟩
    · split
      · next hs => exact exec_htr rfl (startExpiry_refused hs ht hg)
      · next hs => exact exec_htr_idle rfl (startExpiry_idle (.inl hs))
    · split
      · next hs => exact exec_htr rfl (startExpiry_refused hs ht hg)
      · next hs => exact exec_htr_idle rfl (startExpiry_idle (.inl hs))
    · exact exec_htr rfl ((startExpiry_goes hs ht hg).trans (goTo_active _ _ (by decide) rfl))
    · exact exec_htr rfl ((startExpiry_goes hs ht hg).trans (goTo_active _ _ (by decide) rfl))
    · intro failed code third k
      have taken := igniteExpiry_eq hs ht
      split
      · next hc => exact exec_htr rfl (taken.trans (if_pos hc))
      · next hc => exact exec_htr rfl (taken.trans (if_neg hc))
    · intro level out
      refine exec_htr rfl ((if_pos ⟨hs, ht⟩).trans ?_)
      exact goTo_active (h := { h with level := level }) _ _ (by decide) rfl
    · rintro c (⟨rfl, hn⟩ | ⟨rfl, hn⟩ | ⟨rfl, hn⟩ | ⟨rfl, hn⟩)
      · exact exec_htr_idle rfl (startExpiry_idle hn)
      · exact exec_htr_idle rfl (startExpiry_idle hn)
      · exact exec_htr_idle rfl (if_neg fun hc => hn.elim (· hc.1) (· hc.2))
      · exact exec_htr_idle rfl (if_neg fun hc => hn.elim (· hc.1) (· hc.2))
  · intro r s hd h first row stays result
    refine ⟨fun hs hf => ?_, fun f hs hf => ?_, fun hs => ⟨fun hf => ?_, fun hf ho => ?_, fun hf ho => ?_⟩,
      fun f ref hs hb href => ⟨fun hle => ?_, fun hlt => ?_⟩, fun f hs hb href => ?_⟩
    · exact deliver_htr_measured_stays hd ((measuredState_precheck hs).trans (precheckTest_passed hf))
    · exact deliver_htr_measured hd ((measuredState_precheck hs).trans (precheckTest_failed hf))
    · refine deliver_htr_measured hd ((measuredState_preheat hs).trans ?_)
      exact (if_pos (by simp [h, hf])).trans (goTo_off_fault _ _)
    · refine deliver_htr_measured hd ((measuredState_preheat hs).trans ?_)
      exact (if_neg (by simpa using hf)).trans ((if_pos (by simp [ho])).trans (goTo_off_fault _ _))
    · refine deliver_htr_measured_stays hd ((measuredState_preheat hs).trans ?_)
      exact (if_neg (by simpa using hf)).trans (if_neg (by simpa using ho))
    · refine deliver_htr_measured hd ((measuredState_ignite hs).trans ((measuredIgnite_of_burnsWell hb).trans ?_))
      exact (if_pos (by simpa [href] using hle)).trans (goTo_active _ _ (by decide) rfl)
    · refine deliver_htr_measured_stays hd ((measuredState_ignite hs).trans ((measuredIgnite_of_burnsWell hb).trans ?_))
      exact if_neg (by simpa [href] using hlt)
    · refine deliver_htr_measured_stays hd ((measuredState_ignite hs).trans ((measuredIgnite_of_burnsWell hb).trans ?_))
      exact if_neg (by simp [href])

end Sys2Proof.Machine

/-! O21: the run marks and the measurements of RAMP and RUN (R60 to R65). -/

namespace Sys2Proof.Machine

section Marks

variable {h : Htr}

/-! ### The marks -/

theorem endSessionKeep_eq (n : Nat) (k : Retained) :
    endSessionKeep n k = { k with overheats := if 1800 ≤ n then 0 else k.overheats } := by
  unfold endSessionKeep
  split <;> rfl

/-- HTR at the start of the purge of an idle stop (R64, R74). -/
def heaterIdled (h : Htr) : Htr :=
  heaterPurging .wait .normal { h.keep with overheats := if 1800 ≤ h.sessionRun then 0 else h.keep.overheats } h

theorem idleStop_eq (hs : h.seq = .run) (hi : 300 ≤ h.idle) :
    idleStop h = (heaterIdled h, heaterFollows h (heaterIdled h) 3) := by
  rw [idleStop, if_pos ⟨hs, hi⟩, endSessionKeep_eq]
  exact purgeTo_eq _ _ _ _ _

theorem idleStop_idle (hn : h.seq ≠ .run ∨ h.idle < 300) : idleStop h = (h, []) :=
  if_neg fun hc => hn.elim (· hc.1) (not_lt.mpr hc.2)

theorem controlPeriod_idle {quiet : Bool} (hn : h.seq ≠ .run ∨ h.samples < 10) : controlPeriod h quiet = h :=
  if_neg fun hc => hn.elim (· hc.1) (not_lt.mpr hc.2)

theorem flameOutEvent_eq (hs : h.seq = .ramp ∨ h.seq = .run) (hl : 15 ≤ h.flameLow) : flameOutEvent h = flamedOut h :=
  (if_pos ⟨hs, hl⟩).trans (flameOut_eq h)

theorem flameOutEvent_idle (hn : (h.seq ≠ .ramp ∧ h.seq ≠ .run) ∨ h.flameLow < 15) : flameOutEvent h = (h, []) :=
  if_neg fun hc => hn.elim (fun hs => hc.1.elim hs.1 hs.2) (not_lt.mpr hc.2)

/-! ### The thermostat at a measurement (R62, R64) -/

/-- A measurement of CABIN counted as a sample (R62). -/
def cabinSampled (c : Int) (h : Htr) : Htr :=
  { h with
    samples := h.samples + 1
    cold := if c < h.profile.setpoint - h.profile.deadband then h.cold + 1 else h.cold
    warm := if h.profile.setpoint + h.profile.deadband < c then h.warm + 1 else h.warm }

/-- HTR in RUN after the thermostat has taken a measurement (R62). -/
def cabinCounted (quiet : Bool) (h : Htr) : Htr :=
  match h.cabin with
  | none => heaterCapped (capOf h quiet) { h with samples := 0, cold := 0, warm := 0 }
  | some c => if 10 ≤ (cabinSampled c h).samples then periodClosed (cabinSampled c h) quiet else cabinSampled c h

theorem cabinCounted_none (quiet : Bool) (hc : h.cabin = none) :
    cabinCounted quiet h = heaterCapped (capOf h quiet) { h with samples := 0, cold := 0, warm := 0 } := by
  unfold cabinCounted
  split
  · rfl
  · next hs => cases hc.symm.trans hs

theorem cabinCounted_some {c : Int} (quiet : Bool) (hc : h.cabin = some c) :
    cabinCounted quiet h =
      if 10 ≤ (cabinSampled c h).samples then periodClosed (cabinSampled c h) quiet else cabinSampled c h := by
  simp only [cabinCounted, hc]

theorem thermostatSample_eq (quiet : Bool) (hs : h.seq = .run) : thermostatSample h quiet = cabinCounted quiet h := by
  unfold thermostatSample
  split
  · next c hc =>
    rw [cabinCounted_some quiet hc]
    by_cases hn : 10 ≤ (cabinSampled c h).samples
    · exact (controlPeriod_eq (cabinSampled c h) _ hs hn).trans (if_pos hn).symm
    · exact (controlPeriod_idle (.inr (not_le.mp hn))).trans (if_neg hn).symm
  · next hc => exact (recap_eq _ _).trans (cabinCounted_none quiet hc).symm

theorem heaterCapped_keeps (cap : Nat) (h : Htr) :
    (heaterCapped cap h).seq = h.seq ∧ (heaterCapped cap h).cabin = h.cabin ∧ (heaterCapped cap h).profile = h.profile := by
  unfold heaterCapped
  dsimp only
  split <;> exact ⟨rfl, rfl, rfl⟩

theorem periodClosed_keeps (quiet : Bool) (h : Htr) :
    (periodClosed h quiet).seq = h.seq ∧ (periodClosed h quiet).cabin = h.cabin ∧
      (periodClosed h quiet).profile = h.profile := by
  unfold periodClosed
  refine ⟨?_, ?_, ?_⟩ <;> exact (apply_ite _ _ _ _).trans (ite_self _)

theorem cabinCounted_keeps (quiet : Bool) (h : Htr) :
    (cabinCounted quiet h).seq = h.seq ∧ (cabinCounted quiet h).cabin = h.cabin ∧
      (cabinCounted quiet h).profile = h.profile := by
  unfold cabinCounted
  split
  · exact heaterCapped_keeps _ _
  · next c _ =>
    split
    · exact periodClosed_keeps quiet (cabinSampled c h)
    · exact ⟨rfl, rfl, rfl⟩

/-- HTR in RUN with the idle time of a measurement counted (R64). -/
def cabinIdled (dt : Nat) (quiet : Bool) (h : Htr) : Htr :=
  let counted := cabinCounted quiet h
  let warmer := counted.level = 1 ∧ (h.cabin.any fun c => decide (h.profile.setpoint + 30 < c)) = true
  { counted with idle := if warmer then counted.idle + dt else 0 }

theorem idleAfter_cabinCounted (dt : Nat) (quiet : Bool) (h : Htr) :
    { cabinCounted quiet h with idle := idleAfter (cabinCounted quiet h) dt } = cabinIdled dt quiet h := by
  obtain ⟨_, hcabin, hprofile⟩ := cabinCounted_keeps quiet h
  have idle : idleAfter (cabinCounted quiet h) dt = (cabinIdled dt quiet h).idle := by
    rw [idleAfter, hcabin, hprofile]
    rfl
  exact congrArg (fun n => { cabinCounted quiet h with idle := n }) idle

theorem cabinIdled_seq (dt : Nat) (quiet : Bool) (h : Htr) : (cabinIdled dt quiet h).seq = h.seq :=
  (cabinCounted_keeps quiet h).1

/-! ### The flame watch (R65) and the measurements of RAMP and RUN -/

/-- HTR with the flame-low time of a measurement (R65). -/
def flameSeen (f : Int) (dt : Nat) (h : Htr) : Htr :=
  { h with flameLow := if f < h.profile.flamePresent then h.flameLow + dt else 0 }

theorem flameWatch_eq {f : Int} {dt : Nat} {next : Htr → Htr × List Msg} (hf : h.flame = some f) :
    flameWatch dt h next =
      if 15 ≤ (flameSeen f dt h).flameLow then flamedOut (flameSeen f dt h) else next (flameSeen f dt h) := by
  have low : flameLowAfter h dt = (flameSeen f dt h).flameLow := by
    rw [flameLowAfter, hf]
    rfl
  have seen : { h with flameLow := flameLowAfter h dt } = flameSeen f dt h :=
    congrArg (fun n => { h with flameLow := n }) low
  rw [flameWatch, seen, flameOut_eq]

theorem measuredRamp_of_burnsWell {v dt : Nat} {f : Int} (hb : BurnsWell v f h) :
    measuredRamp v dt h =
      if 15 ≤ (flameSeen f dt h).flameLow then flamedOut (flameSeen f dt h) else (flameSeen f dt h, []) := by
  rw [measuredRamp, burningFault_of_burnsWell hb]
  exact flameWatch_eq hb.1

/-- HTR in RUN at a measurement, its session time and flame-low time counted. -/
def runSeen (f : Int) (dt : Nat) (h : Htr) : Htr := flameSeen f dt { h with sessionRun := h.sessionRun + dt }

theorem measuredRun_of_burnsWell {v dt : Nat} {f : Int} {quiet : Bool} (hs : h.seq = .run) (hb : BurnsWell v f h) :
    measuredRun v dt quiet h =
      if 15 ≤ (runSeen f dt h).flameLow then flamedOut (runSeen f dt h)
      else idleStop (cabinIdled dt quiet (runSeen f dt h)) := by
  have timed : BurnsWell v f { h with sessionRun := h.sessionRun + dt } := hb
  rw [measuredRun, burningFault_of_burnsWell timed]
  refine (flameWatch_eq timed.1).trans (if_congr Iff.rfl rfl ?_)
  change idleStop { thermostatSample (runSeen f dt h) quiet with
    idle := idleAfter (thermostatSample (runSeen f dt h) quiet) dt } = _
  rw [thermostatSample_eq quiet (h := runSeen f dt h) hs, idleAfter_cabinCounted]

end Marks

section States

variable {r : HeaterReadings} {b : Bool} {h : Htr} {s : State}

theorem measuredState_ramp (hs : h.seq = .ramp) : measuredState r b h s = measuredRamp s.chg.battery.vHard r.dt h := by
  rw [measuredState, hs]

theorem measuredState_run (hs : h.seq = .run) :
    measuredState r b h s = measuredRun s.chg.battery.vHard r.dt s.rcl.quiet h := by
  rw [measuredState, hs]

end States

/-- Settles O21: each mark by its state and count; the measurements of RAMP and RUN by the flame-low time and the idle time. -/
theorem heaterRunMarksActOnTheirCount : Obligations.HeaterRunMarksActOnTheirCount := by
  refine ⟨?_, ?_⟩
  · intro s h result
    refine ⟨fun hs hn => ?_, fun hn => ?_, fun hs hi => ?_, fun hn => ?_, fun hs hl => ?_, fun hn => ?_⟩
    · exact exec_htr (e := .controlPeriod) rfl (congrArg (·, []) (controlPeriod_eq h s.rcl.quiet hs hn))
    · exact exec_htr_idle (e := .controlPeriod) rfl (congrArg (·, []) (controlPeriod_idle (quiet := s.rcl.quiet) hn))
    · exact exec_htr rfl (idleStop_eq hs hi)
    · exact exec_htr_idle rfl (idleStop_idle hn)
    · intro posted k
      have taken := flameOutEvent_eq hs hl
      split
      · next hu => exact exec_htr rfl (taken.trans (if_pos hu))
      · next hu => exact exec_htr rfl (taken.trans (if_neg hu))
    · exact exec_htr_idle rfl (flameOutEvent_idle hn)
  · intro r f s hd h first quiet low seen sampled counted warmer idled stopped hb
    have ramp (hs : h.seq = .ramp) : seen = flameSeen f r.dt h :=
      congrArg (fun n => { flameSeen f r.dt h with sessionRun := n }) (if_neg (by rw [hs]; decide))
    have run (hs : h.seq = .run) : seen = runSeen f r.dt h :=
      congrArg (fun n => { flameSeen f r.dt h with sessionRun := n }) (if_pos hs)
    have rampTaken (hs : h.seq = .ramp) := (measuredState_ramp (b := s.htr.frostDeferred) (r := r) (s := s) hs).trans
      (measuredRamp_of_burnsWell hb)
    have runTaken (hs : h.seq = .run) := (measuredState_run (b := s.htr.frostDeferred) (r := r) (s := s) hs).trans
      (measuredRun_of_burnsWell hs hb)
    have goesOn (hs : h.seq = .run) (hl : low < 15) :
        measuredState r s.htr.frostDeferred h s = idleStop idled := by
      rw [(show idled = cabinIdled r.dt quiet seen from rfl), run hs]
      exact (runTaken hs).trans (if_neg (not_le.mpr hl))
    refine ⟨fun hs hl => deliver_htr_measured hd ?_, fun hs hl => ?_, fun hs hl hi => ?_, fun hs hl hi => ?_⟩
    · rcases hs with hs | hs
      · rw [ramp hs]
        exact (rampTaken hs).trans (if_pos hl)
      · rw [run hs]
        exact (runTaken hs).trans (if_pos hl)
    · refine (deliver_htr_measured hd ?_).trans (congrArg _ (List.append_nil _))
      rw [ramp hs]
      exact (rampTaken hs).trans (if_neg (not_le.mpr hl))
    · refine (deliver_htr_measured hd ?_).trans (congrArg _ (List.append_nil _))
      exact (goesOn hs hl).trans (idleStop_idle (.inr hi))
    · refine deliver_htr_measured hd ((goesOn hs hl).trans (idleStop_eq ?_ hi))
      exact (cabinIdled_seq r.dt quiet seen).trans hs

end Sys2Proof.Machine

/-! O22: the end of a purge and the measurements of PURGE (R66, R67, R71, R75, R79). -/

namespace Sys2Proof.Machine

section Purges

variable {h : Htr}

/-! ### The marks of a purge -/

theorem purgeDone_iff (h : Htr) :
    purgeDone h = true ↔ h.purge.kind = .normal ∧ 120 ≤ h.purge.time ∧ ∃ f, h.flame = some f ∧ f < 600 := by
  simp [purgeDone, and_assoc, Option.any_eq_true]

theorem purgeMinimum_ends (hs : h.seq = .purge) (ht : h.purge.time = 120) (hk : h.purge.kind = .normal)
    (hc : ∃ f, h.flame = some f ∧ f < 600) : purgeMinimum h = (heaterEnds h, heaterFollows h (heaterEnds h) 6) :=
  (if_pos ⟨hs, ht, (purgeDone_iff h).mpr ⟨hk, ht.ge, hc⟩⟩).trans (endPurge_eq h)

theorem purgeMinimum_idle
    (hn : ¬(h.seq = .purge ∧ h.purge.time = 120 ∧ h.purge.kind = .normal ∧ ∃ f, h.flame = some f ∧ f < 600)) :
    purgeMinimum h = (h, []) := by
  refine if_neg fun ⟨hs, ht, hd⟩ => hn ?_
  obtain ⟨hk, _, hc⟩ := (purgeDone_iff h).mp hd
  exact ⟨hs, ht, hk, hc⟩

/-- HTR in LOCKOUT after a purge that timed out (R66, R75). -/
def heaterLockedOut (h : Htr) : Htr :=
  { h with
    seq := .lockout, level := 0, timer := none, frostRetry := none, frostLimited := false, out := ⟨false, 0, 0, 0⟩
    keep := { withFault .f7 h.keep with lockout := true } }

theorem purgeTimeout_eq (hc : h.seq = .purge ∧ h.purge.kind = .normal ∧ 300 ≤ h.purge.time) :
    purgeTimeout h = (heaterLockedOut h, heaterFollows h (heaterLockedOut h) 4) := by
  rw [purgeTimeout, if_pos hc, recordFault_eq]
  refine goTo_eq ?_
  simp [enteredState, entrySettings, entryLevel, stateSeconds, driveHeater, outputsOf, heaterLockedOut]

theorem fixedPurge_eq (hc : h.seq = .purge ∧ h.purge.kind = .fixed ∧ 300 ≤ h.purge.time) :
    fixedPurge h = (heaterEnds h, heaterFollows h (heaterEnds h) 6) :=
  (if_pos hc).trans (endPurge_eq h)

/-! ### A measurement in PURGE -/

theorem purgeOverheat_eq (h : Htr) (starting : Bool) :
    purgeOverheat h starting =
      if h.overheat = none ∧ ¬(h.purge.startUp = true ∧ starting = true) then
        { h with
          keep := withFault .f2 h.keep
          purge := { h.purge with dest := if h.purge.dest = .lockout then .lockout else .off } }
      else h := by
  rw [purgeOverheat, recordFault_eq, ← ite_not]
  exact if_congr (by rw [not_or, Option.not_isSome_iff_eq_none]) rfl rfl

theorem purgeFlame_eq (h : Htr) (starting : Bool) :
    purgeFlame h starting =
      if h.flame = none ∧ ¬(h.purge.startUp = true ∧ starting = true) then
        { h with
          keep := withFault .f1 h.keep
          purge := { h.purge with kind := .fixed, dest := if h.purge.dest = .preheat then .off else h.purge.dest } }
      else h := by
  rw [purgeFlame, recordFault_eq, ← ite_not]
  exact if_congr (by rw [not_or, Option.not_isSome_iff_eq_none]) rfl rfl

theorem purgeOverheat_keeps (h : Htr) (starting : Bool) :
    (purgeOverheat h starting).flame = h.flame ∧ (purgeOverheat h starting).purge.startUp = h.purge.startUp := by
  unfold purgeOverheat
  split <;> exact ⟨rfl, rfl⟩

theorem handItems_eq (before after : Retained) :
    handItems before after = if before = after then [] else [.sto (.heater after)] := by
  unfold handItems msgsIf
  by_cases he : before = after <;> simp [he]

/-- HTR in PURGE with the invalid readings of a measurement taken (R67, R71; log 28). -/
def purgeSeen (r : HeaterReadings) (h : Htr) : Htr := purgeFlame (purgeOverheat h r.overheatStarting) r.flameStarting

theorem measuredPurge_ends {r : HeaterReadings} (hd : purgeDone (purgeSeen r h) = true) :
    measuredPurge r h = (heaterEnds (purgeSeen r h),
      handItems h.keep (purgeSeen r h).keep ++ heaterFollows (purgeSeen r h) (heaterEnds (purgeSeen r h)) 6) := by
  rw [measuredPurge]
  refine (if_pos hd).trans ?_
  rw [endPurge_eq]
  rfl

theorem measuredPurge_goes_on {r : HeaterReadings} (hd : ¬purgeDone (purgeSeen r h) = true) :
    measuredPurge r h = (purgeSeen r h, handItems h.keep (purgeSeen r h).keep) :=
  if_neg hd

/-- What the frost test of a measurement leaves (R78): the state and the session, and the readings. -/
theorem heaterReads_keeps (r : HeaterReadings) (h : Htr) :
    (heaterReads r h).1.seq = h.seq ∧ (heaterReads r h).1.sessionRun = h.sessionRun ∧
      (heaterReads r h).1.flame = r.flame ∧ (heaterReads r h).1.overheat = r.overheat ∧
      (heaterReads r h).1.volts = some r.volts := by
  unfold heaterReads
  dsimp only
  split
  · exact ⟨rfl, rfl, rfl, rfl, rfl⟩
  · split <;> exact ⟨rfl, rfl, rfl, rfl, rfl⟩

end Purges

theorem measuredState_purge {r : HeaterReadings} {b : Bool} {h : Htr} {s : State} (hs : h.seq = .purge) :
    measuredState r b h s = measuredPurge r h := by
  rw [measuredState, hs]

/-- Settles O22: each mark by its state, kind and time; a measurement in PURGE by the readings and the end of the purge. -/
theorem heaterPurgeEnds : Obligations.HeaterPurgeEnds := by
  refine ⟨?_, ?_⟩
  · intro s h result cool
    refine ⟨fun ⟨hs, ht, hk, hc⟩ => ?_, fun hn => ?_, fun hc => ?_, fun hn => ?_, fun hc => ?_, fun hn => ?_, fun hf => ?_,
      fun hf => ?_⟩
    · exact exec_htr rfl (purgeMinimum_ends hs ht hk hc)
    · exact exec_htr_idle rfl (purgeMinimum_idle hn)
    · exact exec_htr rfl (purgeTimeout_eq hc)
    · exact exec_htr_idle rfl (if_neg hn)
    · exact exec_htr rfl (fixedPurge_eq hc)
    · exact exec_htr_idle rfl (if_neg hn)
    · exact exec_htr rfl (if_pos hf)
    · exact exec_htr_idle rfl (if_neg hf)
  · intro r s hd hs h first hot blind items ends
    have dark : purgeOverheat h r.overheatStarting = hot := purgeOverheat_eq h _
    have seen : purgeSeen r h = blind := by
      obtain ⟨hflame, hstart⟩ := purgeOverheat_keeps h r.overheatStarting
      rw [dark] at hflame hstart
      rw [purgeSeen, dark]
      exact (purgeFlame_eq hot _).trans (if_congr (by rw [hflame, hstart]) rfl rfl)
    obtain ⟨hseq, _⟩ := heaterReads_keeps r s.htr
    have taken : measuredState r s.htr.frostDeferred h s = measuredPurge r h :=
      measuredState_purge (hseq.trans hs)
    have done : purgeDone (purgeSeen r h) = true ↔ ends := by
      rw [seen]
      exact purgeDone_iff blind
    have handed : handItems h.keep (purgeSeen r h).keep = items := by
      rw [handItems_eq, seen]
    refine ⟨fun he => ?_, fun he => deliver_htr_measured hd (taken.trans ?_)⟩
    · rw [List.append_assoc, ← handed, ← seen]
      exact deliver_htr_measured hd (taken.trans (measuredPurge_ends (done.mpr he)))
    · rw [← handed, ← seen]
      exact measuredPurge_goes_on fun hp => he (done.mp hp)

end Sys2Proof.Machine

/-! O26: the faults of a measurement while burning, the grants and the quiet flag at HTR (R61, R71 to R74). -/

namespace Sys2Proof.Machine

section Faults

variable {h : Htr} {v : Nat}

/-! ### The faults of a measurement (R71, R72) -/

/-- HTR in the purge of a fault, and what follows. -/
def faultPurge (dest : PurgeDest) (kind : PurgeKind) (k : Retained) (h : Htr) : Htr × List Msg :=
  (heaterPurging dest kind k h, heaterFollows h (heaterPurging dest kind k h) 4)

theorem purgeTo_fault (dest : PurgeDest) (kind : PurgeKind) (f : HeaterFault) (k : Retained) (h : Htr) :
    purgeTo dest kind false .fault (recordFault f k) h = faultPurge dest kind (withFault f k) h := by
  rw [recordFault_eq]
  exact purgeTo_eq _ _ _ _ _

theorem burningFault_flame (hf : h.flame = none) :
    burningFault v h = some (faultPurge .off .fixed (withFault .f1 h.keep) h) := by
  rw [burningFault, hf]
  exact congrArg some (purgeTo_fault _ _ _ _ _)

theorem burningFault_overheat_invalid (hf : h.flame ≠ none) (ho : h.overheat = none) :
    burningFault v h = some (faultPurge .off .fixed (withFault .f2 h.keep) h) := by
  obtain ⟨f, hf⟩ := Option.ne_none_iff_exists'.mp hf
  rw [burningFault, hf, ho]
  exact congrArg some (purgeTo_fault _ _ _ _ _)

/-- The retained items after an overheat counted (R70, R74). -/
def overheatedKeep (k : Retained) : Retained :=
  { withFault .f5 k with overheats := min 2 (k.overheats + 1), lockout := k.lockout || decide (2 ≤ k.overheats + 1) }

/-- HTR in the purge of an overheat, bound for LOCKOUT once the flag is set (R72, R74), and what follows. -/
def heaterOverheated (h : Htr) : Htr × List Msg :=
  faultPurge (if (overheatedKeep h.keep).lockout then .lockout else .off) .normal (overheatedKeep h.keep) h

theorem burningFault_overheat {o : Int} (hf : h.flame ≠ none) (ho : h.overheat = some o) (hot : 1200 < o) :
    burningFault v h = some ((heaterOverheated h).1, post 4 (s16 o) :: (heaterOverheated h).2) := by
  obtain ⟨f, hf⟩ := Option.ne_none_iff_exists'.mp hf
  have keep : countOverheat (recordFault .f5 h.keep) = overheatedKeep h.keep := by
    rw [recordFault_eq]
    rfl
  have purged : purgeTo (faultDest (overheatedKeep h.keep)) .normal false .fault (overheatedKeep h.keep) h =
      heaterOverheated h := purgeTo_eq _ _ _ _ _
  rw [burningFault, hf, ho]
  refine (if_pos hot).trans ?_
  rw [keep]
  dsimp only
  rw [purged]

theorem burningFault_volts {o : Int} {n : Nat} (hf : h.flame ≠ none) (ho : h.overheat = some o) (hot : o ≤ 1200)
    (hn : h.volts = some n) (hv : n < v) : burningFault v h = some (faultPurge .off .normal (withFault .f6 h.keep) h) := by
  obtain ⟨f, hf⟩ := Option.ne_none_iff_exists'.mp hf
  rw [burningFault, hf, ho]
  refine (if_neg (not_lt.mpr hot)).trans ((if_pos (by simp [hn, hv])).trans ?_)
  exact congrArg some (purgeTo_fault _ _ _ _ _)

/-- HTR at a measurement while burning, with the session time counted in RUN (R74). -/
def burningSeen (dt : Nat) (h : Htr) : Htr :=
  { h with sessionRun := if h.seq = .run then h.sessionRun + dt else h.sessionRun }

theorem measuredState_of_burningFault {r : HeaterReadings} {b : Bool} {s : State} {p : Htr × List Msg}
    (hs : h.seq = .ignite ∨ h.seq = .ramp ∨ h.seq = .run)
    (hf : burningFault s.chg.battery.vHard (burningSeen r.dt h) = some p) : measuredState r b h s = p := by
  have idle (hn : h.seq ≠ .run) : burningSeen r.dt h = h :=
    congrArg (fun n => { h with sessionRun := n }) (if_neg hn)
  rcases hs with hs | hs | hs
  · rw [idle (by rw [hs]; decide)] at hf
    rw [measuredState_ignite hs, measuredIgnite, hf]
  · rw [idle (by rw [hs]; decide)] at hf
    rw [measuredState_ramp hs, measuredRamp, hf]
  · have counted : burningSeen r.dt h = { h with sessionRun := h.sessionRun + r.dt } :=
      congrArg (fun n => { h with sessionRun := n }) (if_pos hs)
    rw [counted] at hf
    rw [measuredState_run hs, measuredRun]
    dsimp only
    rw [hf]

/-! ### The grants (R61, R73) -/

theorem heaterGrant_off (quiet : Bool) (hs : h.seq = .precheck ∨ h.seq = .preheat) :
    heaterGrant 0 quiet h =
      (heaterOff (withFault .f8 h.keep) { h with grant := some 0 },
        heaterFollows { h with grant := some 0 } (heaterOff (withFault .f8 h.keep) { h with grant := some 0 }) 4) := by
  have taken := goTo_off_fault .f8 { h with grant := some 0 }
  rw [heaterGrant, if_pos rfl]
  rcases hs with hs | hs <;> rw [hs] at taken ⊢ <;> exact taken

theorem heaterGrant_purge (quiet : Bool) (hs : h.seq = .ignite ∨ h.seq = .ramp ∨ h.seq = .run) :
    heaterGrant 0 quiet h = faultPurge .off .normal (withFault .f8 h.keep) { h with grant := some 0 } := by
  have taken := purgeTo_fault .off .normal .f8 h.keep { h with grant := some 0 }
  rw [heaterGrant, if_pos rfl]
  rcases hs with hs | hs | hs <;> rw [hs] at taken ⊢ <;> exact taken

theorem heaterGrant_held (quiet : Bool) (hs : h.seq = .off ∨ h.seq = .wait ∨ h.seq = .lockout ∨ h.seq = .purge) :
    heaterGrant 0 quiet h = ({ h with grant := some 0 }, []) := by
  rw [heaterGrant, if_pos rfl]
  rcases hs with hs | hs | hs | hs <;> rw [hs]

theorem heaterGrant_caps {level : Nat} (quiet : Bool) (hl : 1 ≤ level) :
    heaterGrant level quiet h =
      (heaterCapped (capOf { h with grant := some level } quiet) { h with grant := some level }, []) := by
  rw [heaterGrant, if_neg (Nat.one_le_iff_ne_zero.mp hl), recap_eq]

end Faults

/-- Settles O26: each fault of a measurement while burning, each grant by its level and state, and the quiet flag. -/
theorem burningFaultsAndGrantsStopTheHeater : Obligations.BurningFaultsAndGrantsStopTheHeater := by
  refine ⟨?_, ?_, ?_⟩
  · intro r s hd hs tested h result
    obtain ⟨hseq, hrun, hflame, hover, hvolts⟩ := heaterReads_keeps r s.htr
    have seen : burningSeen r.dt tested.1 = h :=
      congrArg (fun n => { tested.1 with sessionRun := n }) (by rw [hseq, hrun])
    have stops {h' : Htr} {posted : List Msg}
        (hp : burningFault s.chg.battery.vHard h = some (h', posted ++ heaterFollows h h' 4)) :
        deliver (.htr (.measured r)) s = result h' posted :=
      (deliver_htr_measured hd (measuredState_of_burningFault (hseq ▸ hs) (seen ▸ hp))).trans
        (congrArg _ (List.append_assoc _ _ _).symm)
    refine ⟨fun hf => ?_, fun hf ho => ?_, fun o hf ho hot => ?_, fun o hf ho hot hv => ?_⟩
    · exact stops (burningFault_flame (hflame.trans hf))
    · exact stops (burningFault_overheat_invalid (hflame ▸ hf) (hover.trans ho))
    · exact stops (burningFault_overheat (hflame ▸ hf) (hover.trans ho) hot)
    · exact stops (burningFault_volts (hflame ▸ hf) (hover.trans ho) hot hvolts hv)
  · intro level b s h k
    refine ⟨fun hl hs => ?_, fun hl hs => ?_, fun hl hs => ?_, fun hl => ?_⟩
    · subst hl
      exact deliver_htr_of (heaterGrant_off s.rcl.quiet hs)
    · subst hl
      exact deliver_htr_of (heaterGrant_purge s.rcl.quiet hs)
    · subst hl
      exact deliver_htr_of (heaterGrant_held s.rcl.quiet hs)
    · exact deliver_htr_of (heaterGrant_caps s.rcl.quiet hl)
  · intro s
    exact deliver_htr_of (congrArg (·, []) (recap_eq s.htr s.rcl.quiet))

end Sys2Proof.Machine

/-! O24: HEAT_START, HEAT_STOP and the schedule's actions at HTR (R54 to R57, R69, R74, R79). -/

namespace Sys2Proof.Machine

/-- A request that HTR answers with `body` and hands `ms` on. -/
theorem exec_htrRequest {i : Instr} {tag k : Byte} {r : Request} {e : HtrEv} {s : State} {h : Htr} {st : Status}
    {body : List Byte} {ms : List Msg} (hi : requestOf i = some (tag, r)) (hk : BitVec.ofNat 8 (r.code + 128) = k)
    (hs : HasSlot s) (ht : serviceTier r.code = true → s.lnk.service = true) (ho : r.owner = some (.htr e))
    (hm : (Msg.htr e).rank = 0) (he : htrHandle e (dispatched k tag s) = (h, answer st body :: ms)) :
    exec i s = .next (finish ms (answered k tag st.code body { dispatched k tag s with htr := h })) := by
  rw [exec_requestOf hi]
  exact congrArg _ (request_finish hk hs ht ho hm (deliver_htr_of he) rfl)

section Starts

variable {h : Htr} {s : State} (r : HeaterReason)

/-! ### What a start request comes to (R54, R55, R57) -/

theorem requestStart_admitted (hs : h.seq = .off) (hd : h.startUpDue = false)
    (ha : admits s.dmd s 1000 h.profile.startCharge = true) :
    requestStart r h s = ((beginStart r h).1, (beginStart r h).2, .accepted) := by
  rw [requestStart, hs]
  exact (if_neg (by simp [hd])).trans (if_pos ha)

theorem beginStart_passes (hf : startFault (heaterStarted h) = none) :
    beginStart r h = (heaterStarted h, heaterFollows h (heaterStarted h) r.code) := by
  rw [beginStart_eq, hf]

/-- HTR in OFF after a start whose check failed with `f` (R57). -/
def heaterStartFailed (f : HeaterFault) (h : Htr) : Htr :=
  heaterOff (withFault f (heaterStarted h).keep) (heaterStarted h)

theorem beginStart_fails {f : HeaterFault} (hf : startFault (heaterStarted h) = some f) :
    beginStart r h = (heaterStartFailed f h,
      heaterFollows h (heaterStarted h) r.code ++ heaterFollows (heaterStarted h) (heaterStartFailed f h) 4) := by
  rw [beginStart_eq, hf]
  rfl

theorem requestStart_noBudget (hs : h.seq = .off) (hd : h.startUpDue = false)
    (ha : ¬admits s.dmd s 1000 h.profile.startCharge = true) : requestStart r h s = (h, [], .noBudget) := by
  rw [requestStart, hs]
  exact (if_neg (by simp [hd])).trans (if_neg ha)

/-- The states in which a start is refused (R55). -/
def StartRefused (h : Htr) : Prop :=
  (h.seq = .off ∧ h.startUpDue = true) ∨ h.seq = .lockout ∨
    (h.seq = .purge ∧ (h.purge.dest = .off ∨ h.purge.dest = .lockout))

/-- The states in which a session is on, or comes back after a purge (R55). -/
def SessionOn (h : Htr) : Prop :=
  h.seq = .precheck ∨ h.seq = .preheat ∨ h.seq = .ignite ∨ h.seq = .ramp ∨ h.seq = .run ∨ h.seq = .wait ∨
    (h.seq = .purge ∧ (h.purge.dest = .preheat ∨ h.purge.dest = .wait))

theorem requestStart_refused (hn : StartRefused h) : requestStart r h s = (h, [], .refused) := by
  unfold requestStart
  rcases hn with ⟨hs, hd⟩ | hs | ⟨hs, hd | hd⟩
  · rw [hs]
    exact if_pos hd
  · rw [hs]
  · rw [hs, hd]
    rfl
  · rw [hs, hd]
    rfl

theorem requestStart_already (hn : SessionOn h) : requestStart r h s = (h, [], .already) := by
  unfold requestStart
  rcases hn with hs | hs | hs | hs | hs | hs | ⟨hs, hd | hd⟩
  case' inr.inr.inr.inr.inr.inr.inl | inr.inr.inr.inr.inr.inr.inr => rw [hs, hd]; rfl
  all_goals rw [hs]

end Starts

section Stops

variable {h : Htr} (r : HeaterReason)

/-! ### What a stop does (R69, R74, R79) -/

/-- The retained items at the end of a session (R74). -/
def sessionKeep (h : Htr) : Retained :=
  { h.keep with overheats := if 1800 ≤ h.sessionRun then 0 else h.keep.overheats }

/-- HTR with the frost start limit ended (R79). -/
def unlimited (h : Htr) : Htr := { h with frostLimited := false }

/-- The demand update when the end of the frost start limit moves the effective max level (R77, R79). -/
def unlimitedUpdate (h : Htr) : List Msg :=
  if h.frostLimited = true ∧ h.profile.maxLevel ≠ 1 then [heaterPosts (unlimited h)] else []

theorem demandIfMaxChanged_unlimited {g : Htr} (hg : effectiveMax g = h.profile.maxLevel)
    (hp : heaterPosts g = heaterPosts (unlimited h)) : demandIfMaxChanged h g = unlimitedUpdate h := by
  unfold demandIfMaxChanged unlimitedUpdate msgsIf
  rw [hg, heaterDemand_eq, hp, effectiveMax]
  cases h.frostLimited with
  | false => simp
  | true =>
    by_cases hm : h.profile.maxLevel = 1
    · simp [hm]
    · simp [hm, Ne.symm hm]

theorem stopHeater_off (hs : h.seq = .precheck ∨ h.seq = .preheat ∨ h.seq = .wait) :
    stopHeater r h = (heaterOff (sessionKeep h) (unlimited h),
      heaterFollows (unlimited h) (heaterOff (sessionKeep h) (unlimited h)) r.code) := by
  have taken : goTo .off r (endSessionKeep h.sessionRun h.keep) (unlimited h) = (heaterOff (sessionKeep h) (unlimited h),
      heaterFollows (unlimited h) (heaterOff (sessionKeep h) (unlimited h)) r.code) := by
    rw [endSessionKeep_eq]
    exact goTo_off _ _ _
  cases h with
  | mk seq => rcases hs with rfl | rfl | rfl <;> exact taken

theorem stopHeater_purge (hs : h.seq = .ignite ∨ h.seq = .ramp ∨ h.seq = .run) :
    stopHeater r h = (heaterPurging .off .normal (sessionKeep h) (unlimited h),
      heaterFollows (unlimited h) (heaterPurging .off .normal (sessionKeep h) (unlimited h)) r.code) := by
  have taken : purgeTo .off .normal false r (endSessionKeep h.sessionRun h.keep) (unlimited h) =
      (heaterPurging .off .normal (sessionKeep h) (unlimited h),
        heaterFollows (unlimited h) (heaterPurging .off .normal (sessionKeep h) (unlimited h)) r.code) := by
    rw [endSessionKeep_eq]
    exact purgeTo_eq _ _ _ _ _
  cases h with
  | mk seq => rcases hs with rfl | rfl | rfl <;> exact taken

/-- HTR in a purge that a stop binds for OFF (R69). -/
def stopRedirected (h : Htr) : Htr :=
  { unlimited h with keep := sessionKeep h, purge := { h.purge with dest := .off } }

theorem stopHeater_redirect (hs : h.seq = .purge) (hd : h.purge.dest = .preheat ∨ h.purge.dest = .wait) :
    stopHeater r h = (stopRedirected h,
      unlimitedUpdate h ++ if h.keep = sessionKeep h then [] else [.sto (.heater (sessionKeep h))]) := by
  have taken : (stopRedirected h, demandIfMaxChanged h (stopRedirected h) ++ handItems h.keep (sessionKeep h)) =
      (stopRedirected h,
        unlimitedUpdate h ++ if h.keep = sessionKeep h then [] else [.sto (.heater (sessionKeep h))]) := by
    rw [demandIfMaxChanged_unlimited (h := h) (g := stopRedirected h) rfl rfl, handItems_eq]
  rw [stopHeater, endSessionKeep_eq]
  cases h with
  | mk seq =>
    cases hs
    exact (if_pos hd).trans taken

/-- The states that a stop leaves as they are (R69). -/
def StopStays (h : Htr) : Prop :=
  h.seq = .off ∨ h.seq = .lockout ∨ (h.seq = .purge ∧ (h.purge.dest = .off ∨ h.purge.dest = .lockout))

theorem stopHeater_stays (hs : StopStays h) : stopHeater r h = (unlimited h, unlimitedUpdate h) := by
  have taken : (unlimited h, demandIfMaxChanged h (unlimited h)) = (unlimited h, unlimitedUpdate h) := by
    rw [demandIfMaxChanged_unlimited rfl rfl]
  have bound (hd : h.purge.dest = .off ∨ h.purge.dest = .lockout) : ¬(h.purge.dest = .preheat ∨ h.purge.dest = .wait) := by
    rcases hd with hd | hd <;> simp [hd]
  cases h with
  | mk seq =>
    rcases hs with rfl | rfl | ⟨rfl, hd⟩
    · exact taken
    · exact taken
    · exact (if_neg (bound hd)).trans taken

end Stops

section Requests

variable {tag : Byte} {s : State} {h : Htr} {ms : List Msg}

/-! ### The requests and the actions -/

theorem exec_heatStart {a : StartAnswer} (hs : HasSlot s)
    (he : requestStart .host s.htr (dispatched 0x83#8 tag s) = (h, ms, a)) :
    exec (.heatStart tag) s =
      .next (finish ms (answered 0x83#8 tag a.status.code [] { dispatched 0x83#8 tag s with htr := h })) :=
  exec_htrRequest (e := .start) rfl rfl hs nofun rfl rfl
    (congrArg (fun p : Htr × List Msg × StartAnswer => (p.1, answer p.2.2.status [] :: p.2.1)) he)

theorem exec_heatStop (hs : HasSlot s) (he : stopHeater .host s.htr = (h, ms)) :
    exec (.heatStop tag) s =
      .next (finish ms (answered 0x84#8 tag 0 [] { dispatched 0x84#8 tag s with htr := h })) :=
  exec_htrRequest (e := .stop) (st := .ok) rfl rfl hs nofun rfl rfl
    (congrArg (fun p : Htr × List Msg => (p.1, answer .ok [] :: p.2)) he)

theorem deliver_preheatStart {param : Option Int} {a : StartAnswer}
    (he : requestStart .schedule (applySetpoint param s.htr) s = (h, ms, a)) :
    deliver (.htr (.act .preheatStart param)) s = ({ s with htr := h }, ms ++ [.sch (.answer a.refuse)]) :=
  deliver_htr_of (congrArg (fun p : Htr × List Msg × StartAnswer => (p.1, p.2.1 ++ [.sch (.answer p.2.2.refuse)])) he)

theorem deliver_heatStop {param : Option Int} (he : stopHeater .schedule s.htr = (h, ms)) :
    deliver (.htr (.act .heatStop param)) s = ({ s with htr := h }, ms ++ [.sch (.answer none)]) :=
  deliver_htr_of (congrArg (fun p : Htr × List Msg => (p.1, p.2 ++ [.sch (.answer none)])) he)

end Requests

/-- Settles O24: the start and the stop by the sequencer state, as requests and as actions. -/
theorem heatStartAndStopFollowTheState : Obligations.HeatStartAndStopFollowTheState := by
  refine ⟨?_, ?_, ?_⟩
  · intro tag s slot h u h' admitted
    have begun (hs : h.seq = .off) (hd : h.startUpDue = false) (ha : admitted) :
        requestStart .host h u = ((beginStart .host h).1, (beginStart .host h).2, .accepted) :=
      requestStart_admitted .host hs hd ha
    refine ⟨fun hs hd ha hf => ?_, fun f hs hd ha hf => ?_, fun hs hd ha => ?_, fun hn => ?_, fun hn => ?_⟩
    · exact exec_heatStart slot ((begun hs hd ha).trans (by rw [beginStart_passes _ hf]))
    · exact exec_heatStart slot ((begun hs hd ha).trans (by rw [beginStart_fails _ hf]))
    · exact exec_heatStart slot (requestStart_noBudget .host hs hd ha)
    · exact exec_heatStart slot (requestStart_refused .host hn)
    · exact exec_heatStart slot (requestStart_already .host hn)
  · intro tag s slot u h k result update
    refine ⟨fun hs => ?_, fun hs => ?_, fun hs hd => ?_, fun hs => ?_⟩
    · exact exec_heatStop slot (stopHeater_off .host hs)
    · exact exec_heatStop slot (stopHeater_purge .host hs)
    · exact exec_heatStop slot (stopHeater_redirect .host hs hd)
    · exact exec_heatStop slot (stopHeater_stays .host hs)
  · intro param s h started failed admitted result g k update
    have applied : applySetpoint param s.htr = h := by
      cases param <;> rfl
    have asked {h' : Htr} {ms : List Msg} {a : StartAnswer} (he : requestStart .schedule h s = (h', ms, a)) :
        deliver (.htr (.act .preheatStart param)) s = result h' ms a.refuse :=
      deliver_preheatStart (applied ▸ he)
    have begun (hs : h.seq = .off) (hd : h.startUpDue = false) (ha : admitted) :
        requestStart .schedule h s = ((beginStart .schedule h).1, (beginStart .schedule h).2, .accepted) :=
      requestStart_admitted .schedule hs hd ha
    refine ⟨fun hs hd => ⟨fun ha hf => ?_, fun f ha hf => ?_, fun ha => ?_⟩, fun hn => ?_, fun hn => ?_, fun hs => ?_,
      fun hs => ?_, fun hs hd => ?_, fun hs => ?_⟩
    · exact asked ((begun hs hd ha).trans (by rw [beginStart_passes _ hf]))
    · exact asked ((begun hs hd ha).trans (by rw [beginStart_fails _ hf]))
    · exact asked (requestStart_noBudget .schedule hs hd ha)
    · exact asked (requestStart_refused .schedule hn)
    · exact asked (requestStart_already .schedule hn)
    · exact deliver_heatStop (stopHeater_off .schedule hs)
    · exact deliver_heatStop (stopHeater_purge .schedule hs)
    · exact deliver_heatStop (stopHeater_redirect .schedule hs hd)
    · exact deliver_heatStop (stopHeater_stays .schedule hs)

end Sys2Proof.Machine

/-! O25: HEAT_SET, HEAT_TABLE and HEAT_CLEAR_LOCKOUT (R61, R70, R75, R76, R78, R80). -/

namespace Sys2Proof.Machine

section Settings

variable {h : Htr} {x : HeatArgs} {p : HeatProfile}

/-! ### HEAT_SET (R80) -/

theorem heatInRange_iff (x : HeatArgs) : heatInRange x = true ↔ x.frostGuard ≤ 1 ∧ x.mLo < x.mHi ∧ x.mHi ≤ 255 := by
  simp [heatInRange, and_assoc]

theorem heatExact_iff (x : HeatArgs) :
    heatExact x = true ↔
      (clampProfile x).setpoint = x.setpoint ∧ (clampProfile x).deadband = x.deadband ∧
        (clampProfile x).maxLevel = x.maxLevel ∧ (clampProfile x).quietCap = x.quietCap ∧
        (clampProfile x).frostLimit = x.frostLimit ∧ (clampProfile x).flamePresent = x.flamePresent ∧
        (clampProfile x).vHeat = x.vHeat ∧ (clampProfile x).startCharge = x.startCharge := by
  simp [heatExact, and_assoc]

theorem clampProfile_frostGuard (hr : x.frostGuard ≤ 1) : (clampProfile x).frostGuard = false ↔ x.frostGuard = 0 := by
  have guard : (clampProfile x).frostGuard = (x.frostGuard == 1) := rfl
  rw [guard, beq_eq_false_iff_ne]
  omega

/-- HTR with a profile applied, before the frost flag and the level cap (R80). -/
def profiled (p : HeatProfile) (h : Htr) : Htr := { h with profile := p, sc := min h.sc p.mHi }

/-- HTR with the frost flag released (R78, R79). -/
def frostFreed (h : Htr) : Htr :=
  { h with frostFlag := false, frostLimited := false, frostRetry := none, frostDeferred := false }

theorem applyProfile_released (quiet : Bool) (hg : p.frostGuard = false) (hf : h.frostFlag = true) :
    applyProfile p quiet h =
      (heaterCapped (capOf (frostFreed (profiled p h)) quiet) (frostFreed (profiled p h)),
        [post 30 (u8 0 ++ tempField h.cabin), heaterPosts (frostFreed (profiled p h))]) := by
  rw [← recap_eq, ← heaterDemand_eq]
  exact if_pos ⟨hg, hf⟩

theorem demandIfMaxChanged_eq (h g : Htr) :
    demandIfMaxChanged h g = if effectiveMax h = effectiveMax g then [] else [heaterPosts g] := by
  rw [← heaterDemand_eq]
  unfold demandIfMaxChanged msgsIf
  by_cases hm : effectiveMax h = effectiveMax g <;> simp [hm]

theorem effectiveMax_heaterCapped (cap : Nat) (h : Htr) : effectiveMax (heaterCapped cap h) = effectiveMax h := by
  unfold heaterCapped
  dsimp only
  split <;> rfl

theorem applyProfile_kept (quiet : Bool) (hn : ¬(p.frostGuard = false ∧ h.frostFlag = true)) :
    applyProfile p quiet h =
      (heaterCapped (capOf (profiled p h) quiet) (profiled p h),
        if effectiveMax h = effectiveMax (profiled p h) then []
        else [heaterPosts (heaterCapped (capOf (profiled p h) quiet) (profiled p h))]) := by
  have taken : applyProfile p quiet h =
      (recap (profiled p h) quiet, demandIfMaxChanged h (recap (profiled p h) quiet)) := if_neg hn
  rw [taken, demandIfMaxChanged_eq, recap_eq, effectiveMax_heaterCapped]

theorem exec_heatSet_refused {tag : Byte} {s : State} (slot : HasSlot s) (hr : ¬heatInRange x = true) :
    exec (.heatSet tag x) s = .next (finish [] (answered 0x85#8 tag 3 [] (dispatched 0x85#8 tag s))) :=
  exec_htrRequest (e := .set x) (st := .range) rfl rfl slot nofun rfl rfl (if_neg hr)

/-- HEAT_SET in range: OK, or CLAMPED with the applied profile. -/
theorem exec_heatSet {tag : Byte} {s : State} {ms : List Msg} (slot : HasSlot s) (hr : heatInRange x = true)
    (ha : applyProfile (clampProfile x) s.rcl.quiet s.htr = (h, ms)) :
    exec (.heatSet tag x) s =
      .next (finish ms (answered 0x85#8 tag (if heatExact x = true then 0 else 2)
        (if heatExact x = true then [] else profileBytes (clampProfile x)) { dispatched 0x85#8 tag s with htr := h })) := by
  have taken : heatSet x s.rcl.quiet s.htr =
      (h, (if heatExact x then answer .ok [] else answer .clamped (profileBytes (clampProfile x))) :: ms) := by
    rw [heatSet, if_pos hr, ha]
  by_cases he : heatExact x = true
  · rw [if_pos he] at taken
    rw [if_pos he, if_pos he]
    exact exec_htrRequest (e := .set x) (st := .ok) rfl rfl slot nofun rfl rfl taken
  · rw [if_neg he] at taken
    rw [if_neg he, if_neg he]
    exact exec_htrRequest (e := .set x) (st := .clamped) rfl rfl slot nofun rfl rfl taken

end Settings

section Tables

variable {h : Htr} {t : List LevelRow}

/-! ### HEAT_TABLE (R76) -/

theorem rowsRise_iff : ∀ t : List LevelRow, rowsRise t = true ↔
    ∀ i, i + 1 < t.length → (t.getD i ⟨0, 0, 0, 0⟩).pump ≤ (t.getD (i + 1) ⟨0, 0, 0, 0⟩).pump ∧
      (t.getD i ⟨0, 0, 0, 0⟩).current ≤ (t.getD (i + 1) ⟨0, 0, 0, 0⟩).current
  | [] => by simp [rowsRise]
  | [a] => by simp [rowsRise]
  | a :: b :: l => by
    rw [rowsRise, Bool.and_eq_true, Bool.and_eq_true, decide_eq_true_eq, decide_eq_true_eq, rowsRise_iff (b :: l)]
    refine ⟨fun ⟨first, rest⟩ i hi => ?_, fun all => ⟨all 0 (by simp), fun i hi => all (i + 1) (Nat.succ_lt_succ hi)⟩⟩
    cases i with
    | zero => exact first
    | succ i => exact rest i (Nat.lt_of_succ_lt_succ hi)

theorem rowInRange_iff (r : LevelRow) :
    rowInRange r = true ↔ 50 ≤ r.pump ∧ r.pump ≤ 600 ∧ 200 ≤ r.burner ∧ r.burner ≤ 1000 ∧ 200 ≤ r.air ∧ r.air ≤ 1000 ∧
      20 ≤ r.current ∧ r.current ≤ 1000 := by
  simp [rowInRange, natIn, intIn, and_assoc]

theorem tableInRange_iff (t : List LevelRow) :
    tableInRange t = true ↔ t.length = 4 ∧
      (∀ r ∈ t, 50 ≤ r.pump ∧ r.pump ≤ 600 ∧ 200 ≤ r.burner ∧ r.burner ≤ 1000 ∧ 200 ≤ r.air ∧ r.air ≤ 1000 ∧
        20 ≤ r.current ∧ r.current ≤ 1000) ∧
      ∀ i, i + 1 < t.length → (t.getD i ⟨0, 0, 0, 0⟩).pump ≤ (t.getD (i + 1) ⟨0, 0, 0, 0⟩).pump ∧
        (t.getD i ⟨0, 0, 0, 0⟩).current ≤ (t.getD (i + 1) ⟨0, 0, 0, 0⟩).current := by
  rw [tableInRange, Bool.and_eq_true, Bool.and_eq_true, beq_iff_eq, List.all_eq_true, rowsRise_iff, and_assoc]
  simp only [rowInRange_iff]

theorem writeTable_adopted (hs : h.seq = .off ∨ h.seq = .wait ∨ h.seq = .lockout) :
    writeTable t h = ({ h with table := t, pendingTable := none },
      [post 31 [], heaterPosts { h with table := t, pendingTable := none }]) := by
  rw [← heaterDemand_eq]
  cases h with
  | mk seq => rcases hs with rfl | rfl | rfl <;> rfl

theorem writeTable_waits (hs : ¬(h.seq = .off ∨ h.seq = .wait ∨ h.seq = .lockout)) :
    writeTable t h = ({ h with pendingTable := some t }, []) := by
  unfold writeTable
  split
  · next h0 => exact absurd (.inl h0) hs
  · next h0 => exact absurd (.inr (.inl h0)) hs
  · next h0 => exact absurd (.inr (.inr h0)) hs
  · rfl

theorem exec_tableWrite {tag : Byte} {s : State} {ms : List Msg} (slot : HasSlot s) (hr : tableInRange t = true)
    (hw : writeTable t s.htr = (h, ms)) :
    exec (.heatTableWrite tag t) s =
      .next (finish ms (answered 0x9C#8 tag 0 [] { dispatched 0x9C#8 tag s with htr := h })) := by
  refine exec_htrRequest (e := .tableWrite t) (st := .ok) rfl rfl slot nofun rfl rfl ((if_pos hr).trans ?_)
  exact congrArg (fun p : Htr × List Msg => (p.1, answer .ok [] :: p.2)) hw

/-! ### HEAT_CLEAR_LOCKOUT (R70, R75) -/

theorem clearLockout_lockout (hs : h.seq = .lockout) :
    clearLockout h = (heaterOff ⟨false, 0, 0, none⟩ h,
      answer .ok [] :: heaterFollows h (heaterOff ⟨false, 0, 0, none⟩ h) 6) := by
  rw [clearLockout, hs]
  dsimp only
  rw [goTo_off]
  rfl

theorem clearLockout_refused (hs : h.seq = .purge) (hd : h.purge.dest = .lockout) :
    clearLockout h = (h, [answer .state []]) := by
  rw [clearLockout, hs]
  exact if_pos hd

theorem clearLockout_clears (hs : h.seq ≠ .lockout) (hd : ¬(h.seq = .purge ∧ h.purge.dest = .lockout)) :
    clearLockout h = ({ h with keep := clearedKeep h.keep },
      answer .ok [] :: if h.keep = clearedKeep h.keep then [] else [.sto (.heater (clearedKeep h.keep))]) := by
  rw [← handItems_eq]
  unfold clearLockout
  split
  · next h0 => exact absurd h0 hs
  · next h0 => exact if_neg fun h1 => hd ⟨h0, h1⟩
  · rfl

end Tables

/-- Settles O25: HEAT_SET by its range and the frost flag, HEAT_TABLE and HEAT_CLEAR_LOCKOUT by the state. -/
theorem heaterSettingsTableAndLockout : Obligations.HeaterSettingsTableAndLockout := by
  refine ⟨?_, ?_⟩
  · intro tag x s slot u between betweenNat p ok exactly status body h release freed capped oldMax newMax
    have exactly_iff : heatExact x = true ↔ exactly := heatExact_iff x
    have reply {h' : Htr} {ms : List Msg} (hok : ok) (ha : applyProfile p s.rcl.quiet s.htr = (h', ms)) :
        exec (.heatSet tag x) s = .next (finish ms (answered 0x85#8 tag status body { u with htr := h' })) := by
      have statusIs : (if heatExact x = true then 0 else 2) = status := if_congr exactly_iff rfl rfl
      have bodyIs : (if heatExact x = true then [] else profileBytes (clampProfile x)) = body := if_congr exactly_iff rfl rfl
      rw [← statusIs, ← bodyIs]
      exact exec_heatSet slot ((heatInRange_iff x).mpr hok) ha
    have released (hok : ok) : (p.frostGuard = false ∧ s.htr.frostFlag = true) ↔ release :=
      and_congr_left' (clampProfile_frostGuard hok.1)
    refine ⟨fun hn => ?_, fun hok hn => ?_, fun hok hr => ?_⟩
    · exact exec_heatSet_refused slot (mt (heatInRange_iff x).mp hn)
    · exact reply hok (applyProfile_kept _ (mt (released hok).mp hn))
    · obtain ⟨hg, hf⟩ := (released hok).mpr hr
      exact reply hok (applyProfile_released _ hg hf)
  · intro tag t s slot h u ok
    refine ⟨?_, fun hn => ?_, fun hok hs => ?_, fun hok hs => ?_, fun hsrv => ?_⟩
    · have flag : flagByte h.pendingTable.isSome = if h.pendingTable = none then u8 0 else u8 1 := by
        cases h.pendingTable <;> rfl
      refine exec_htrRequest (e := .tableRead) (st := .ok) rfl rfl slot nofun rfl rfl ?_
      rw [← flag]
      rfl
    · exact exec_htrRequest (e := .tableWrite t) (st := .range) rfl rfl slot nofun rfl rfl
        (if_neg (mt (tableInRange_iff t).mp hn))
    · exact exec_tableWrite slot ((tableInRange_iff t).mpr hok) (writeTable_adopted hs)
    · exact exec_tableWrite slot ((tableInRange_iff t).mpr hok) (writeTable_waits hs)
    · intro u off k
      refine ⟨fun hs => ?_, fun hs hd => ?_, fun hs hd => ?_⟩
      · exact exec_htrRequest (e := .clearLockout) (st := .ok) rfl rfl slot (fun _ => hsrv) rfl rfl (clearLockout_lockout hs)
      · exact exec_htrRequest (e := .clearLockout) (st := .state) rfl rfl slot (fun _ => hsrv) rfl rfl
          (clearLockout_refused hs hd)
      · exact exec_htrRequest (e := .clearLockout) (st := .ok) rfl rfl slot (fun _ => hsrv) rfl rfl
          (clearLockout_clears hs hd)

end Sys2Proof.Machine

/-! O52: saves, State writes, the hourly timer and RESTART (R74, R197 to R199, R202). -/

namespace Sys2Proof.Machine

/-! ### A delivery, a command and a request at STO -/

theorem deliver_sto_of {e : StoEv} {s : State} {t : Sto} {ms : List Msg} (he : stoHandle e s = (t, ms)) :
    deliver (.sto e) s = ({ s with sto := t }, ms) :=
  congrArg (fun p : Sto × List Msg => (({ s with sto := p.1 } : State), p.2)) he

theorem exec_sto {i : Instr} {e : StoEv} {s : State} {t : Sto} (he : exec i s = .next (event (.sto e) s))
    (ht : stoHandle e (fresh s) = (t, [])) : exec i s = .next { fresh s with sto := t } :=
  exec_quiet he (deliver_sto_of ht)

theorem exec_stoRequest {i : Instr} {tag k : Byte} {r : Request} {e : StoEv} {s : State} {t : Sto} {st : Status}
    (hi : requestOf i = some (tag, r)) (hk : BitVec.ofNat 8 (r.code + 128) = k) (hs : HasSlot s)
    (ht : serviceTier r.code = true → s.lnk.service = true) (ho : r.owner = some (.sto e))
    (he : stoHandle e (dispatched k tag s) = (t, [answer st []])) :
    exec i s = .next (finish [] (answered k tag st.code [] { dispatched k tag s with sto := t })) := by
  rw [exec_requestOf hi]
  exact congrArg _ (request_finish hk hs ht ho rfl (deliver_sto_of he) rfl)

section Store

variable {t : Sto} {q : Nat}

/-! ### Saves (R198) -/

theorem completeSave_saves {x : Settings} (hx : t.saving = some x) :
    completeSave t = { t with settingsArea := some ⟨x, crc16 (settingsBytes x)⟩, saving := none } := by
  unfold completeSave
  split
  · next hn => cases hx.symm.trans hn
  · next y hy =>
    cases hx.symm.trans hy
    rfl

theorem completeSave_idle (hn : t.saving = none) : completeSave t = t := by
  rw [completeSave, hn]

theorem saveRequest_busy (s : State) (hn : t.saving ≠ none) : saveRequest s t = (t, [answer .busy []]) :=
  if_pos (Option.isSome_iff_ne_none.mpr hn)

theorem saveRequest_taken (s : State) (hn : t.saving = none) :
    saveRequest s t = ({ t with saving := some (workingSettings s), settingsArea := none }, [answer .accepted []]) :=
  if_neg (by simp [hn])

theorem defaultsRequest_busy (hn : t.saving ≠ none) : defaultsRequest t = [answer .busy []] :=
  if_pos (Option.isSome_iff_ne_none.mpr hn)

/-! ### State writes (R199) -/

/-- A State write requested: it begins, or is pending behind the one in progress. -/
theorem requestWrite_eq (q : Nat) (t : Sto) :
    requestWrite q t =
      if t.writing = none then { t with writing := some ⟨t.items, q⟩, stateArea := none }
      else { t with writeAgain := true } := by
  rw [requestWrite, ← ite_not]
  exact if_congr (by simp) rfl rfl

theorem completeWrite_idle (q : Nat) (hn : t.writing = none) : completeWrite q t = t := by
  rw [completeWrite, hn]

theorem completeWrite_writes {x : Saved} (q : Nat) (hx : t.writing = some x) :
    completeWrite q t =
      if t.writeAgain then
        { t with
          stateArea := none, writing := some ⟨t.items, q⟩, writeAgain := false, restarting := t.restarting.next t.writeAgain }
      else
        { t with
          stateArea := some ⟨x, crc16 (savedBytes x)⟩, writing := none, restarting := t.restarting.next t.writeAgain } := by
  unfold completeWrite
  split
  · next hn => cases hx.symm.trans hn
  · next y hy =>
    cases hx.symm.trans hy
    cases t with
    | mk settingsArea stateArea saving writing writeAgain => cases writeAgain <;> rfl

/-! ### RESTART (R202) -/

theorem restartStage_taken_eq (writing : Bool) (r : RestartStage) :
    r.taken writing = if r = .none then (if writing then .ahead else .own) else r := by
  cases r <;> rfl

theorem restartRequest_busy (q : Nat) (hn : t.saving ≠ none) : restartRequest q t = (t, [answer .busy []]) :=
  if_pos (Option.isSome_iff_ne_none.mpr hn)

theorem restartRequest_taken (q : Nat) (hn : t.saving = none) :
    restartRequest q t =
      (if t.writing = none then
        { t with
          restarting := if t.restarting = .none then .own else t.restarting
          stateArea := none, writing := some ⟨t.items, q⟩ }
      else { t with restarting := if t.restarting = .none then .ahead else t.restarting, writeAgain := true },
        [answer .ok []]) := by
  rw [restartRequest, if_neg (by simp [hn]), requestWrite_eq, restartStage_taken_eq]
  cases t with
  | mk settingsArea stateArea saving writing => cases writing <;> rfl

end Store

/-- Settles O52: the completions, the hourly timer, the requested writes, and the three requests. -/
theorem storeSavesAndWrites : Obligations.StoreSavesAndWrites := by
  refine ⟨?_, ?_, ?_⟩
  · intro s t next current stage
    refine ⟨fun x hx => ?_, fun hn => ?_, fun x hx => ?_, fun hn => ?_, fun h0 => ?_, fun h0 => ?_⟩
    · exact exec_sto (e := .saveComplete) rfl (congrArg (·, []) (completeSave_saves hx))
    · exact exec_sto (e := .saveComplete) rfl (congrArg (·, []) (completeSave_idle hn))
    · have staged : t.restarting.next t.writeAgain = stage := rfl
      rw [← staged]
      exact exec_sto (e := .writeComplete) rfl (congrArg (·, []) (completeWrite_writes s.chg.q hx))
    · exact exec_sto (e := .writeComplete) rfl (congrArg (·, []) (completeWrite_idle s.chg.q hn))
    · exact exec_sto (e := .hourlyExpiry) rfl
        ((if_pos h0).trans (congrArg (·, []) (requestWrite_eq s.chg.q { t with hourly := 3600 })))
    · exact exec_sto (e := .hourlyExpiry) rfl (if_neg h0)
  · intro items s t requested
    exact ⟨deliver_sto_of (congrArg (·, []) (requestWrite_eq s.chg.q { t with items := items })),
      deliver_sto_of (congrArg (·, []) (requestWrite_eq s.chg.q t))⟩
  · intro tag s slot t result working
    refine ⟨fun hn => ?_, fun hn => ?_, fun hn hsrv => ⟨?_, ?_⟩, fun hn hsrv => ?_⟩
    · exact exec_stoRequest (e := .save) (st := .accepted) rfl rfl slot nofun rfl (saveRequest_taken _ hn)
    · exact exec_stoRequest (e := .save) (st := .busy) rfl rfl slot nofun rfl (saveRequest_busy _ hn)
    · exact exec_stoRequest (e := .defaults) (st := .busy) rfl rfl slot (fun _ => hsrv) rfl
        (congrArg (Prod.mk _) (defaultsRequest_busy hn))
    · exact exec_stoRequest (e := .restart) (st := .busy) rfl rfl slot (fun _ => hsrv) rfl (restartRequest_busy _ hn)
    · exact exec_stoRequest (e := .restart) (st := .ok) rfl rfl slot (fun _ => hsrv) rfl (restartRequest_taken _ hn)

end Sys2Proof.Machine

/-! O60: what every step keeps. First the compressor and its timers by the state of the cooler (R84, R89, R93, R94). -/

namespace Sys2Proof.Machine

/-! ### The invariant of CLR in its parts -/

/-- The compressor, its speed and the min-on and min-off timers as the state says, DISABLED only with cooling disabled, and
the counts of stalls and of buckets within their limits. The warm condition is not among them: an event drops it last (R96). -/
def Clr.RunFits (c : Clr) : Prop :=
  c.compEn = decide (c.state = .running) ∧ (c.state ≠ .running → c.speed = 0 ∧ c.minOn = none) ∧
    (c.state = .running → c.minOff = none) ∧ (c.state = .disabled → c.settings.enable = false) ∧
    c.stalls ≤ 5 ∧ (c.state = .faulted → c.stalls = 5) ∧ c.ring.length ≤ 60

/-- No warm condition in DISABLED (R96). -/
def Clr.WarmFits (c : Clr) : Prop := c.state = .disabled → c.warm = false

/-- CLR as every event leaves it. -/
def Clr.Fits (c : Clr) : Prop := c.RunFits ∧ c.WarmFits

theorem coolerInv_iff (s : State) : coolerInv s ↔ s.clr.Fits := by
  constructor
  · rintro ⟨hen, hoff, hon, hdis, hstalls, hfault, hring⟩
    exact ⟨⟨hen, hoff, hon, fun h => (hdis h).1, hstalls, hfault, hring⟩, fun h => (hdis h).2⟩
  · rintro ⟨⟨hen, hoff, hon, hdis, hstalls, hfault, hring⟩, hwarm⟩
    exact ⟨hen, hoff, hon, fun h => ⟨hdis h, hwarm h⟩, hstalls, hfault, hring⟩

section Cooler

variable {c : Clr}

/-! ### Starts, stops and settling -/

/-- A state in which the compressor is off. -/
def Clr.Off (c : Clr) : Prop :=
  c.compEn = false ∧ c.speed = 0 ∧ c.minOn = none ∧ c.stalls ≤ 5 ∧ c.ring.length ≤ 60

theorem Clr.RunFits.toOff (hf : c.RunFits) (hs : c.state ≠ .running) : c.Off := by
  obtain ⟨hen, hoff, -, -, hstalls, -, hring⟩ := hf
  exact ⟨by simp [hen, hs], (hoff hs).1, (hoff hs).2, hstalls, hring⟩

/-- A stop turns the compressor off, whatever the state (R84). -/
theorem Clr.RunFits.stopped (hf : c.RunFits) : (stopCompressor c).Off := by
  obtain ⟨-, -, -, -, hstalls, -, hring⟩ := hf
  exact ⟨rfl, rfl, rfl, hstalls, hring⟩

/-- A cooler at rest whose state asks nothing more than the compressor off. -/
theorem Clr.Off.runFits (ho : c.Off) (hr : c.state ≠ .running) (hd : c.state = .disabled → c.settings.enable = false)
    (hq : c.state = .faulted → c.stalls = 5) : c.RunFits := by
  obtain ⟨hen, hspeed, hmin, hstalls, hring⟩ := ho
  exact ⟨by simp [hen, hr], fun _ => ⟨hspeed, hmin⟩, fun h => absurd h hr, hd, hstalls, hq, hring⟩

theorem settledState_disabled (h : settledState c = .disabled) : c.settings.enable = false := by
  unfold settledState at h
  split at h
  · assumption
  · repeat' (split at h)
    all_goals cases h

theorem settledState_faulted : settledState c ≠ .faulted := by
  unfold settledState
  repeat' split
  all_goals simp

/-- Settling starts the compressor or leaves it off (R88). -/
theorem settleCooler_runFits (q : Bool) (ho : c.Off) : (settleCooler c q).RunFits := by
  unfold settleCooler
  split
  · obtain ⟨-, -, -, hstalls, hring⟩ := ho
    exact ⟨rfl, fun h => absurd rfl h, fun _ => rfl, nofun, hstalls, nofun, hring⟩
  · next hr =>
    exact Clr.Off.runFits (c := { c with state := settledState c }) ho hr settledState_disabled
      fun h => absurd h settledState_faulted

theorem stopAndSettle_runFits (q : Bool) (hf : c.RunFits) : (stopAndSettle c q).RunFits :=
  settleCooler_runFits q (c := { stopCompressor c with state := .idle }) hf.stopped

theorem clearStalls_runFits (hf : c.RunFits) : (clearStalls c).RunFits := by
  unfold clearStalls
  split
  · next h =>
    obtain ⟨hen, hoff, hon, hdis, -, -, hring⟩ := hf
    exact ⟨hen, hoff, hon, hdis, Nat.zero_le 5, fun hs => absurd (h.1.symm.trans hs) nofun, hring⟩
  · exact hf

theorem endQuietRun_runFits (hf : c.RunFits) : (endQuietRun c).RunFits :=
  Clr.Off.runFits hf.stopped nofun nofun nofun

theorem stallCooler_runFits (hf : c.RunFits) : (stallCooler c).RunFits := by
  obtain ⟨hen, hspeed, hmin, -, hring⟩ := (clearStalls_runFits hf).stopped
  unfold stallCooler satAdd
  dsimp only
  split
  · next h => exact Clr.Off.runFits ⟨hen, hspeed, hmin, h.le, hring⟩ nofun nofun fun _ => h
  · exact Clr.Off.runFits ⟨hen, hspeed, hmin, Nat.min_le_left _ _, hring⟩ nofun nofun nofun

theorem driveSpeed_runFits (q : Bool) (hf : c.RunFits) : (driveSpeed c q).RunFits := by
  unfold driveSpeed
  split
  · next h => exact ⟨hf.1, fun hn => absurd h hn, hf.2.2⟩
  · exact hf

/-- The close of an event: a run stops, pauses or goes on, a cooler at rest settles (R88, R89, R91). -/
theorem closeEvent_runFits (q : Bool) (r : CoolerReason) (hf : c.RunFits) : (closeEvent c q r).1.RunFits := by
  have cleared := clearStalls_runFits hf
  unfold closeEvent
  dsimp only
  split
  · split
    · exact stopAndSettle_runFits q cleared
    · split
      · exact endQuietRun_runFits cleared
      · split
        · exact stopAndSettle_runFits q cleared
        · exact cleared
  case h_5 => exact hf
  all_goals next h => exact settleCooler_runFits q (hf.toOff (by simp [h]))

/-! ### The warm condition, which no stop and no start touches -/

@[simp] theorem settleCooler_warm (q : Bool) : (settleCooler c q).warm = c.warm := by
  unfold settleCooler
  split <;> rfl

@[simp] theorem clearStalls_warm : (clearStalls c).warm = c.warm := by
  unfold clearStalls
  split <;> rfl

theorem stallCooler_warm : (stallCooler c).warm = c.warm := by
  unfold stallCooler
  dsimp only
  split <;> exact clearStalls_warm

@[simp] theorem driveSpeed_warm (q : Bool) : (driveSpeed c q).warm = c.warm := by
  unfold driveSpeed
  split <;> rfl

theorem closeEvent_warm (q : Bool) (r : CoolerReason) : (closeEvent c q r).1.warm = c.warm := by
  unfold closeEvent
  dsimp only
  split
  · repeat' split
    all_goals simp [stopAndSettle, endQuietRun, stopCompressor]
  all_goals simp

/-! ### The end of an event -/

/-- An entry to DISABLED drops the warm condition, and a cooler that stays there had none (R96). -/
theorem handCooler_fits (s : State) (ms : List Msg) {o n : Clr} (ho : o.WarmFits) (hn : n.RunFits)
    (hw : n.warm = o.warm) : (handCooler s o n ms).1.Fits := by
  simp only [handCooler, dropWarm]
  split
  · exact ⟨hn, fun _ => rfl⟩
  · next he =>
    refine ⟨hn, fun hd => ?_⟩
    have hod : o.state = .disabled := by simpa [entersDisabled, show n.state = .disabled from hd] using he
    exact hw.trans (ho hod)

theorem handChange_fits (s : State) (r : CoolerReason) {o n : Clr} (ho : o.WarmFits) (hn : n.RunFits)
    (hw : n.warm = o.warm) : (handChange s o n r).1.Fits :=
  handCooler_fits s (stateReports o n r) ho hn hw

theorem stallAtStart_fits (s : State) (o : Clr) {f : Clr × List Msg} (hf : f.1.Fits) : (stallAtStart s o f).1.Fits := by
  unfold stallAtStart
  split
  · exact handChange_fits s .stall hf.2 (stallCooler_runFits hf.1) stallCooler_warm
  · exact hf

theorem conclude_fits (s : State) (r : CoolerReason) {o n : Clr} (ho : o.WarmFits) (hn : n.RunFits)
    (hw : n.warm = o.warm) : (conclude s o n r).1.Fits :=
  stallAtStart_fits s o (handChange_fits s _ ho (closeEvent_runFits _ r hn) ((closeEvent_warm _ r).trans hw))

theorem concludeBlind_fits (s : State) {o m : Clr} (ho : o.WarmFits) (hm : m.RunFits)
    (hw : m.warm = o.warm) : (concludeBlind s o m).1.Fits :=
  stallAtStart_fits s o (handCooler_fits s _ ho (closeEvent_runFits _ _ hm) ((closeEvent_warm _ _).trans hw))

/-! ### Measurements, timers, grants and settings -/

theorem cabinetReading_runFits (t : Option Int) (hf : c.RunFits) : (cabinetReading c t).RunFits := by
  unfold cabinetReading
  split <;> split <;> exact hf

@[simp] theorem cabinetReading_warm (t : Option Int) : (cabinetReading c t).warm = c.warm := by
  unfold cabinetReading
  split <;> split <;> rfl

theorem raiseWarm_fits (t : Option Int) (hf : c.Fits) : (raiseWarm c t).1.Fits := by
  unfold raiseWarm
  split
  · next h => exact ⟨hf.1, fun hd => absurd hd h.2.2⟩
  · exact hf

theorem warmWatch_fits (dt : Nat) (t : Option Int) (hf : c.Fits) : (warmWatch c dt t).1.Fits := by
  unfold warmWatch
  split
  · exact hf
  · split
    · exact hf
    · split
      · exact raiseWarm_fits _ (c := { c with warmTime := _ }) hf
      · split
        · exact ⟨hf.1, fun _ => rfl⟩
        · exact hf

theorem coolerMeasured_fits (dt : Nat) (t : Option Int) (s : State) (hf : s.clr.Fits) : (coolerMeasured dt t s).1.Fits := by
  have read := cabinetReading_runFits t hf.1
  refine warmWatch_fits dt t ?_
  split
  · exact conclude_fits s _ hf.2 read (cabinetReading_warm t)
  · exact concludeBlind_fits s hf.2 (driveSpeed_runFits _ read) (by simp)

/-- The oldest bucket leaves a full ring (R94). -/
theorem minuteEvent_fits (s : State) (hf : s.clr.Fits) : (minuteEvent s).1.Fits := by
  unfold minuteEvent
  dsimp only
  split
  · obtain ⟨⟨hen, hoff, hon, hdis, hstalls, hfault, hring⟩, hwarm⟩ := hf
    refine conclude_fits s .timer hwarm ⟨hen, hoff, hon, hdis, hstalls, hfault, ?_⟩ rfl
    dsimp only
    split <;> simp <;> omega
  · exact hf

theorem coolerSecond_fits (hf : c.Fits) : (coolerSecond c).Fits := by
  obtain ⟨⟨hen, hoff, hon, hkept⟩, hwarm⟩ := hf
  refine ⟨⟨hen, fun h => ⟨(hoff h).1, ?_⟩, fun h => ?_, hkept⟩, hwarm⟩
  · simp [coolerSecond, (hoff h).2, tick]
  · simp [coolerSecond, hon h, tick]

theorem compFaultEvent_fits (b : Bool) (s : State) (hf : s.clr.Fits) : (compFaultEvent b s).1.Fits := by
  unfold compFaultEvent
  dsimp only
  split
  · exact hf
  · split
    · exact handChange_fits s .stall hf.2 (stallCooler_runFits (c := { s.clr with faultPin := b }) hf.1)
        stallCooler_warm
    · exact hf

theorem coolerGrant_fits (n : Nat) (b : Budget) (s : State) (hf : s.clr.Fits) : (coolerGrant n b s).1.Fits := by
  have driven : (driveSpeed { s.clr with grant := some (n, b) } s.rcl.quiet).RunFits := driveSpeed_runFits _ hf.1
  have driven_warm : (driveSpeed { s.clr with grant := some (n, b) } s.rcl.quiet).warm = s.clr.warm := driveSpeed_warm _
  unfold coolerGrant
  dsimp only
  split
  · split
    · exact handChange_fits s _ hf.2 (stopAndSettle_runFits _ (clearStalls_runFits driven))
        (by simp [stopAndSettle, stopCompressor])
    · exact conclude_fits s _ hf.2 driven driven_warm
  · next hp =>
    have paused : (driveSpeed { s.clr with grant := some (n, b) } s.rcl.quiet).state = .pause := by
      simp [driveSpeed, hp]
    split
    · exact handChange_fits s _ hf.2
        (Clr.Off.runFits (driven.toOff (by simp [paused])) nofun nofun nofun) driven_warm
    · exact ⟨driven, fun hd => absurd (paused.symm.trans hd) nofun⟩
  · exact conclude_fits s _ hf.2 driven driven_warm

theorem coolerQuiet_fits (b : Bool) (s : State) (hf : s.clr.Fits) : (coolerQuiet b s).1.Fits := by
  unfold coolerQuiet
  dsimp only
  generalize ht : (if b = true then s.clr else { s.clr with prechill := false }) = told
  have told_keeps : told.RunFits ∧ told.warm = s.clr.warm ∧ told.state = s.clr.state := by
    rw [← ht]
    cases b <;> exact ⟨hf.1, rfl, rfl⟩
  obtain ⟨told_fits, told_warm, told_state⟩ := told_keeps
  have driven := driveSpeed_runFits s.rcl.quiet told_fits
  have driven_warm := (driveSpeed_warm s.rcl.quiet).trans told_warm
  split
  · next h =>
    have paused : told.state = .pause := told_state.trans h.2
    exact conclude_fits s _ hf.2
      (Clr.Off.runFits (driven.toOff (by simp [driveSpeed, paused])) nofun nofun nofun) driven_warm
  · exact conclude_fits s _ hf.2 driven driven_warm

theorem coolerExpiry_fits {due : Bool} {f : Clr → Clr} (r : CoolerReason) (s : State) (hf : s.clr.Fits)
    (hr : due = true → (f s.clr).RunFits) (hw : (f s.clr).warm = s.clr.warm) : (coolerExpiry due f r s).1.Fits := by
  unfold coolerExpiry
  split
  · next h => exact conclude_fits s r hf.2 (hr h) hw
  · exact hf

@[simp] theorem actEnable_warm : (actEnable c).warm = c.warm := by
  unfold actEnable
  repeat' split
  all_goals rfl

/-- New settings, and a state that they end left for IDLE: DISABLED stays only with cooling disabled (R98). -/
theorem actEnable_runFits (p : CoolSettings) (hf : c.RunFits) : (actEnable { c with settings := p }).RunFits := by
  have rest (n : Nat) (t u : Option Nat) (hn : n ≤ 5) (hr : c.state ≠ .running) :
      ({ c with settings := p, stalls := n, pause := t, backoff := u, state := .idle } : Clr).RunFits := by
    obtain ⟨hen, hspeed, hmin, -, hring⟩ := hf.toOff hr
    exact Clr.Off.runFits ⟨hen, hspeed, hmin, hn, hring⟩ nofun nofun nofun
  obtain ⟨hen, hoff, hon, hdis, hstalls, hfault, hring⟩ := hf
  have kept (hd : c.state ≠ .disabled) : ({ c with settings := p } : Clr).RunFits :=
    ⟨hen, hoff, hon, fun h => absurd h hd, hstalls, hfault, hring⟩
  unfold actEnable
  dsimp only
  split
  · next hs =>
    split
    · exact rest _ _ _ hstalls (by simp [hs])
    · next he => exact ⟨hen, hoff, hon, fun _ => by simpa using he, hstalls, hfault, hring⟩
  · next hs => exact rest _ _ _ (Nat.zero_le 5) (by simp [hs])
  case h_5 hd _ _ _ => exact kept hd
  all_goals
    next hs =>
    split
    · exact kept (by simp [hs])
    · exact rest _ _ _ hstalls (by simp [hs])

theorem applyCool_fits (p : CoolSettings) (r : CoolerReason) (s : State) (hf : s.clr.Fits) : (applyCool p r s).1.Fits :=
  conclude_fits s r hf.2 (driveSpeed_runFits _ (actEnable_runFits p hf.1)) (by simp)

theorem coolerAction_inv (a : Action) (p : Option Int) (s : State) (hf : s.clr.Fits) : (coolerAction a p s).1.Fits := by
  unfold coolerAction
  dsimp only
  split
  · split
    · next hs =>
      obtain ⟨⟨hen, hoff, hon, -, hkept⟩, hwarm⟩ := hf
      exact ⟨⟨hen, hoff, hon, fun hd => absurd (hs.symm.trans hd) nofun, hkept⟩, hwarm⟩
    · exact applyCool_fits _ .schedule s hf
  · exact applyCool_fits _ .schedule s hf
  · split <;> exact hf

/-- No event takes the compressor and its timers from what the state says. -/
theorem clrHandle_inv (e : ClrEv) (s : State) (hf : s.clr.Fits) : (clrHandle e s).1.Fits := by
  obtain ⟨⟨hen, hoff, hon, hkept⟩, hwarm⟩ := id hf
  have resting (hs : s.clr.state ≠ .running) (t u v : Option Nat) :
      ({ s.clr with minOff := t, pause := u, backoff := v, state := .idle } : Clr).RunFits :=
    Clr.Off.runFits (c := { s.clr with minOff := t, pause := u, backoff := v, state := .idle }) (hf.1.toOff hs) nofun nofun
      nofun
  cases e with
  | measured dt t => exact coolerMeasured_fits dt t s hf
  | second => exact coolerSecond_fits hf
  | minOnExpiry =>
    simp only [clrHandle]
    exact coolerExpiry_fits .timer s hf (fun _ => ⟨hen, fun h => ⟨(hoff h).1, rfl⟩, hon, hkept⟩) rfl
  | minOffExpiry =>
    simp only [clrHandle]
    exact coolerExpiry_fits .timer s hf (fun _ => ⟨hen, hoff, fun _ => rfl, hkept⟩) rfl
  | quietRunEnd | blindRunEnd | blindOffExpiry =>
    simp only [clrHandle]
    exact coolerExpiry_fits _ s hf (fun _ => hf.1) rfl
  | pauseExpiry | backoffExpiry =>
    simp only [clrHandle]
    refine coolerExpiry_fits _ s hf (fun h => resting (fun hs => ?_) _ _ _) rfl
    simp [hs] at h
  | stallClear =>
    exact ⟨clearStalls_runFits hf.1, fun hd => clearStalls_warm.trans (hwarm (by
      unfold clrHandle clearStalls at hd
      dsimp only at hd
      split at hd <;> exact hd))⟩
  | compFault b => exact compFaultEvent_fits b s hf
  | minuteExpiry => exact minuteEvent_fits s hf
  | warmRaise => exact raiseWarm_fits _ hf
  | grant n b => exact coolerGrant_fits n b s hf
  | quiet b => exact coolerQuiet_fits b s hf
  | restClosed => exact hf
  | set x =>
    simp only [clrHandle, coolSet]
    split
    · exact applyCool_fits _ .host s hf
    · exact hf
  | defaults => exact applyCool_fits _ .host s hf
  | act a p => exact coolerAction_inv a p s hf

end Cooler

theorem deliver_coolerInv (m : Msg) (s : State) (h : coolerInv s) : coolerInv (deliver m s).1 := by
  rw [coolerInv_iff] at h ⊢
  cases m with
  | clr e => exact clrHandle_inv e s h
  | _ => exact h

/-- The compressor is off after a reset, and cooling is disabled as the settings say (R101). -/
theorem blocksAtReset_coolerInv (pins : Pins) (s : State) : coolerInv (blocksAtReset pins s) := by
  rw [coolerInv_iff]
  show (Clr.atReset (usedSettings s.sto) pins).Fits
  generalize usedSettings s.sto = x
  have state : (Clr.atReset x pins).state = if x.cooler.enable then .idle else .disabled := rfl
  have stopped : (Clr.atReset x pins).state ≠ .running ∧ (Clr.atReset x pins).state ≠ .faulted := by
    rw [state]
    split <;> simp
  refine ⟨Clr.Off.runFits ⟨rfl, rfl, rfl, Nat.zero_le 5, Nat.zero_le 60⟩ stopped.1 (fun h => ?_) fun h => absurd h stopped.2,
    fun _ => rfl⟩
  rw [state] at h
  show x.cooler.enable = false
  by_contra he
  rw [if_pos (by simpa using he)] at h
  cases h

end Sys2Proof.Machine

/-! O60, continued: the buzzer, its owner and the pattern (R161, R166, R167). -/

namespace Sys2Proof.Machine

/-! ### The invariant of ALR in its parts -/

/-- An owner exactly while the pattern plays, and the pin on in an on period only (R167). -/
def Alr.PhaseFits (a : Alr) : Prop :=
  (a.owner = none ↔ a.phase = .silent) ∧ (a.buzzer = true ↔ ∃ n, a.phase = .beep n true)

/-- An owner exactly while an alert sounds, and one that sounds itself (R166). -/
def Alr.OwnerFits (a : Alr) : Prop :=
  (a.owner = none ↔ candidate a = none) ∧ ∀ k, a.owner = some k → (a.record k).state = .sounding

/-- ALR as every event leaves it. -/
def Alr.Fits (a : Alr) : Prop := a.records.length = 8 ∧ a.OwnerFits ∧ a.PhaseFits

theorem alertsInv_iff (s : State) : alertsInv s ↔ s.alr.Fits := by
  have sounding : (∀ k, s.alr.owner = some k → sounds s.alr k = true) ↔
      ∀ k, s.alr.owner = some k → (s.alr.record k).state = .sounding := by
    simp only [Laws.sounds_eq, beq_iff_eq]
  constructor
  · rintro ⟨hlen, howner, hsounds, hphase, hbuzzer⟩
    exact ⟨hlen, ⟨howner, sounding.mp hsounds⟩, hphase, hbuzzer⟩
  · rintro ⟨hlen, ⟨howner, hsounds⟩, hphase, hbuzzer⟩
    exact ⟨hlen, howner, sounding.mpr hsounds, hphase, hbuzzer⟩

section Alerts

variable {a : Alr} {k : Nat}

/-! ### The record that comes first (R166) -/

theorem candidate_sounding (h : candidate a = some k) : (a.record k).state = .sounding := by
  simpa using List.find?_some h

/-- With no candidate no record sounds, those beyond the eight included. -/
theorem not_sounding_of_candidate (hlen : a.records.length = 8) (h : candidate a = none) :
    (a.record k).state ≠ .sounding := by
  by_cases hk : k < 8
  · simpa using List.find?_eq_none.mp h k (List.mem_range.mpr hk)
  · rw [Alr.record, List.getD_eq_default _ _ (hlen.trans_le (not_lt.mp hk))]
    exact nofun

theorem candidate_congr {a' : Alr} (h : ∀ k, (a'.record k).state = (a.record k).state) : candidate a' = candidate a := by
  simp only [candidate, h]

/-- ALR with the states of its records, its owner and its pattern as they were. -/
theorem Alr.Fits.of_states {a' : Alr} (hf : a.Fits) (hlen : a'.records.length = a.records.length)
    (hs : ∀ k, (a'.record k).state = (a.record k).state) (ho : a'.owner = a.owner) (hp : a'.PhaseFits) : a'.Fits := by
  obtain ⟨hlen8, ⟨hnone, hsome⟩, -⟩ := hf
  exact ⟨hlen.trans hlen8, ⟨by rw [ho, candidate_congr hs]; exact hnone, fun k hk => (hs k).trans (hsome k (ho ▸ hk))⟩, hp⟩

/-! ### The owner settles (R166 to R168) -/

theorem becomeOwner_fits (hlen : a.records.length = 8) (h : candidate a = some k) : (becomeOwner k a).1.Fits := by
  refine ⟨hlen, ⟨⟨nofun, fun hn => ?_⟩, ?_⟩, ⟨nofun, nofun⟩, fun _ => ⟨1, rfl⟩, fun _ => rfl⟩
  · exact absurd (h.symm.trans hn) nofun
  · rintro k' ⟨⟩
    exact candidate_sounding h

theorem dropOwner_fits (hlen : a.records.length = 8) (h : candidate a = none) : (dropOwner a).1.Fits :=
  ⟨hlen, ⟨⟨fun _ => h, fun _ => rfl⟩, nofun⟩, ⟨fun _ => rfl, fun _ => rfl⟩, nofun, fun ⟨_, hn⟩ => (nomatch hn)⟩

/-- Whatever changed the records, the settling finds an owner that sounds, or none when none sounds. -/
theorem settleOwner_fits (hlen : a.records.length = 8) (hp : a.PhaseFits) : (settleOwner a).1.Fits := by
  unfold settleOwner
  split
  · next hc => exact becomeOwner_fits hlen hc
  · next ho hc => exact ⟨hlen, ⟨⟨fun _ => hc, fun _ => ho⟩, fun k hk => absurd (ho.symm.trans hk) nofun⟩, hp⟩
  · next o ho =>
    split
    · next hs =>
      have stays (hc : candidate a ≠ none) : a.Fits :=
        ⟨hlen, ⟨⟨fun hn => absurd (ho.symm.trans hn) nofun, fun hn => absurd hn hc⟩,
          fun k hk => by rw [ho] at hk; cases hk; exact hs⟩, hp⟩
      split
      · next k hc =>
        split
        · exact becomeOwner_fits hlen hc
        · exact stays (by simp [hc])
      · next hc => exact absurd hs (not_sounding_of_candidate hlen hc)
    · split
      · next hc => exact becomeOwner_fits hlen hc
      · next hc => exact dropOwner_fits hlen hc

/-! ### Records changed (R162 to R165, R169, R171) -/

theorem changeRecord_fits (f : AlertRecord → AlertRecord) (hf : a.Fits) : (changeRecord k f a).1.Fits := by
  obtain ⟨hlen, -, hp⟩ := hf
  exact settleOwner_fits (a := setRecord k (f (a.record k)) a) (by simpa [setRecord] using hlen) hp

theorem changeRecords_fits (f : Nat → AlertRecord → AlertRecord) (hf : a.Fits) : (changeRecords f a).1.Fits := by
  obtain ⟨hlen, -, hp⟩ := hf
  exact settleOwner_fits (a := { a with records := _ }) (by simpa using hlen) hp

theorem record_map_zipIdx (f : Nat → AlertRecord → AlertRecord) (hf : ∀ k r, (f k r).state = r.state) (k : Nat) :
    (({ a with records := a.records.zipIdx.map fun p => f p.2 p.1 } : Alr).record k).state = (a.record k).state := by
  simp only [Alr.record, List.getD_eq_getElem?_getD, List.getElem?_map, List.getElem?_zipIdx]
  cases a.records[k]? with
  | none => rfl
  | some r => exact hf _ r

/-! ### The pattern (R167) -/

theorem lastOff_phase (h : lastOff a = true) : ∃ n, a.phase = .beep n false := by
  unfold lastOff at h
  split at h
  · next n _ hp => exact ⟨n, hp⟩
  · cases h

theorem burstBoundary_fits (hf : a.Fits) : (burstBoundary a).1.Fits := by
  unfold burstBoundary
  split
  · next hl =>
    obtain ⟨n, hn⟩ := lastOff_phase hl
    obtain ⟨hlen, ⟨hnone, hsome⟩, hphase, hbuzzer⟩ := id hf
    have silent : a.buzzer ≠ true := fun hb => by
      obtain ⟨m, hm⟩ := hbuzzer.mp hb
      exact absurd (hn.symm.trans hm) (by simp)
    split
    · next k hc =>
      split
      · next ho =>
        exact hf.of_states rfl (fun _ => rfl) rfl
          ⟨⟨fun h => absurd (ho.trans h) nofun, nofun⟩, fun h => absurd h silent, fun ⟨_, h⟩ => (nomatch h)⟩
      · exact becomeOwner_fits hlen hc
    · next hc => exact dropOwner_fits hlen hc
  · exact hf

/-- While the pattern plays ALR has an owner. -/
theorem Alr.Fits.owned (hf : a.Fits) (hp : a.phase ≠ .silent) : a.owner ≠ none := fun h => hp (hf.2.2.1.mp h)

theorem beepPhase_fits (hf : a.Fits) : (beepPhase a).1.Fits := by
  unfold beepPhase
  split
  · next n hn =>
    have owned := hf.owned (by simp [hn])
    exact hf.of_states rfl (fun _ => rfl) rfl
      ⟨⟨fun h => absurd h owned, nofun⟩, nofun, fun ⟨_, h⟩ => (nomatch h)⟩
  · next n hn =>
    split
    · exact burstBoundary_fits hf
    · have owned := hf.owned (by simp [hn])
      exact hf.of_states rfl (fun _ => rfl) rfl
        ⟨⟨fun h => absurd h owned, nofun⟩, fun _ => ⟨n + 1, rfl⟩, fun _ => rfl⟩
  · exact hf

theorem burstStart_fits (hf : a.Fits) : (burstStart a).Fits := by
  unfold burstStart
  split
  · next o _ ho =>
    exact hf.of_states rfl (fun _ => rfl) rfl
      ⟨⟨fun h => absurd (ho.symm.trans h) nofun, nofun⟩, fun _ => ⟨1, rfl⟩, fun _ => rfl⟩
  · exact hf

/-! ### Events -/

theorem setAlertChannel_fits (n : Nat) (hf : a.Fits) : (setAlertChannel n a).1.Fits := by
  unfold setAlertChannel
  split <;> exact hf

theorem ackRequest_fits (hf : a.Fits) : (ackRequest k a).1.Fits := by
  unfold ackRequest
  split
  · exact hf
  · split
    · exact hf
    · split
      · exact changeRecord_fits _ hf
      · exact hf

/-- No event leaves the buzzer without an alert that sounds, or an alert that sounds without the buzzer. -/
theorem alrHandle_fits (e : AlrEv) (s : State) (hf : s.alr.Fits) : (alrHandle e s).1.Fits := by
  cases e with
  | condition k raised => exact changeRecord_fits _ hf
  | raise k => exact changeRecord_fits _ hf
  | quiet flag => exact changeRecords_fits _ hf
  | second =>
    exact hf.of_states (by simp [alrHandle]) (record_map_zipIdx secondRecord fun _ _ => rfl) rfl hf.2.2
  | soundingExpiry k =>
    simp only [alrHandle, soundingEnd]
    split
    · exact changeRecord_fits _ hf
    · exact hf
  | resoundExpiry k =>
    simp only [alrHandle, resoundEnd]
    split
    · exact changeRecord_fits _ hf
    · exact hf
  | burstStart => exact burstStart_fits hf
  | boundary => exact burstBoundary_fits hf
  | beepPhase => exact beepPhase_fits hf
  | ack k => exact ackRequest_fits hf
  | buttonAck =>
    simp only [alrHandle]
    split
    · exact changeRecord_fits _ hf
    · exact hf
  | channel n =>
    simp only [alrHandle, channelRequest]
    split
    · exact hf
    · exact setAlertChannel_fits n hf
  | defaults => exact setAlertChannel_fits 4 hf
  | act x =>
    simp only [alrHandle, alertAction]
    split <;> exact changeRecord_fits _ hf
  | flashAccepted => exact hf
  | flashEnded k =>
    simp only [alrHandle]
    split <;> exact hf

end Alerts

theorem deliver_alertsInv (m : Msg) (s : State) (h : alertsInv s) : alertsInv (deliver m s).1 := by
  rw [alertsInv_iff] at h ⊢
  cases m with
  | alr e => exact alrHandle_fits e s h
  | _ => exact h

/-- No alert sounds after a reset (R173). -/
theorem blocksAtReset_alertsInv (pins : Pins) (s : State) : alertsInv (blocksAtReset pins s) := by
  rw [alertsInv_iff]
  exact ⟨rfl, ⟨⟨fun _ => rfl, fun _ => rfl⟩, nofun⟩, ⟨fun _ => rfl, fun _ => rfl⟩, nofun, fun ⟨_, h⟩ => (nomatch h)⟩

end Sys2Proof.Machine

/-! O60, continued: the break run, the rest record and the log by the activity (R126, R133, R139, R140). -/

namespace Sys2Proof.Machine

/-! ### The invariant of RCL in its parts -/

/-- A break run is in progress exactly while the activity is one of a break (R126). -/
def Rcl.ActivityFits (r : Rcl) : Prop := r.breakRun.isSome = r.period.activity.breaks

/-- The quiet flag needs an open rest record (R136). -/
def Rcl.QuietFits (r : Rcl) : Prop := r.quiet = true → r.record.isSome = true

/-- A rest record is open in a break run only (R133). -/
def Rcl.RecordFits (r : Rcl) : Prop := r.record.isSome = true → r.breakRun.isSome = true

/-- At most 64 records, and a next serial of 1 to 4,294,967,295 (R139, R140). -/
def Rcl.LogFits (r : Rcl) : Prop := r.log.length ≤ 64 ∧ 1 ≤ r.nextSerial ∧ r.nextSerial ≤ maxCount

/-- RCL as every event leaves it. -/
def Rcl.Fits (r : Rcl) : Prop := r.ActivityFits ∧ r.RecordFits ∧ r.QuietFits ∧ r.LogFits

/-- Sixteen slots and six derived kinds (R145, R155). -/
def Sch.Sized (c : Sch) : Prop := c.slots.length = 16 ∧ c.done.length = 6

theorem activityFits_iff (r : Rcl) :
    r.ActivityFits ↔ (r.breakRun.isSome = true ↔ r.period.activity = .available ∨ r.period.activity = .rest) := by
  unfold Rcl.ActivityFits
  cases r.period.activity <;> simp [Activity.breaks]

theorem clockInv_iff (s : State) :
    clockInv s ↔ s.rcl.Fits ∧ s.sch.Sized ∧ s.dmd.entries.length = 8 ∧ s.lgt.channels.length = 8 := by
  simp only [clockInv, Rcl.Fits, activityFits_iff]
  constructor
  · rintro ⟨hact, hrec, hquiet, hlog, hlo, hhi, hslots, hdone, hentries, hchannels⟩
    exact ⟨⟨hact, hrec, hquiet, hlog, hlo, hhi⟩, ⟨hslots, hdone⟩, hentries, hchannels⟩
  · rintro ⟨⟨hact, hrec, hquiet, hlog, hlo, hhi⟩, ⟨hslots, hdone⟩, hentries, hchannels⟩
    exact ⟨hact, hrec, hquiet, hlog, hlo, hhi, hslots, hdone, hentries, hchannels⟩

section Clock

variable {r : Rcl}

/-! ### The tests and the second (R125, R129, R130, R132) -/

theorem testDue_fits (hf : r.Fits) : (testDue r).1.Fits := by
  unfold testDue
  split <;> exact hf

theorem testOverdue_fits (hf : r.Fits) : (testOverdue r).1.Fits := by
  unfold testOverdue
  split <;> exact hf

theorem testWarnings_fits (hf : r.Fits) : (testWarnings r).1.Fits := testOverdue_fits (testDue_fits hf)

/-- A qualification marks the run in progress (R130). -/
theorem qualify_fits {b : BreakRun} (m : Marker) (hb : r.breakRun = some b) (hf : r.Fits) : (qualify b m r).1.Fits := by
  obtain ⟨hact, -, hquiet, hlog⟩ := hf
  exact ⟨(congrArg Option.isSome hb).symm.trans hact, fun _ => rfl, hquiet, hlog⟩

theorem testFull_fits (hf : r.Fits) : (testFull r).1.Fits := by
  unfold testFull
  split
  · next b hb =>
    split
    · exact qualify_fits .full hb hf
    · exact hf
  · exact hf

theorem testSplit_fits (hf : r.Fits) : (testSplit r).1.Fits := by
  unfold testSplit
  split
  · next b hb =>
    split
    · exact qualify_fits .split hb hf
    · exact hf
  · exact hf

/-- The break run and the rest record changed, but neither begun nor ended. -/
theorem Rcl.Fits.of_isSome {r' : Rcl} (hf : r.Fits) (hb : r'.breakRun.isSome = r.breakRun.isSome)
    (hr : r'.record.isSome = r.record.isSome) (ha : r'.period.activity = r.period.activity) (hq : r'.quiet = r.quiet)
    (hl : r'.log = r.log) (hn : r'.nextSerial = r.nextSerial) : r'.Fits := by
  simpa only [Rcl.Fits, Rcl.ActivityFits, Rcl.RecordFits, Rcl.QuietFits, Rcl.LogFits, hb, hr, ha, hq, hl, hn] using hf

theorem advanceSecond_fits (hf : r.Fits) : (advanceSecond r).Fits :=
  hf.of_isSome Option.isSome_map Option.isSome_map rfl rfl rfl rfl

theorem secondEvent_fits (hf : r.Fits) : (secondEvent r).1.Fits :=
  testWarnings_fits (testSplit_fits (testFull_fits (advanceSecond_fits hf)))

theorem setClock_fits (t : Nat) (hf : r.Fits) : (setClock t r).Fits :=
  hf.of_isSome Option.isSome_map Option.isSome_map rfl rfl rfl rfl

/-! ### The log (R139, R140) -/

theorem serialAfter_bounds {n : Nat} (h : 1 ≤ n ∧ n ≤ maxCount) : 1 ≤ serialAfter n ∧ serialAfter n ≤ maxCount := by
  unfold serialAfter
  split <;> omega

/-- A record appended to a full log takes the place of the oldest. -/
theorem appendRecord_logFits (k : LogKind) (t d : Nat) (hf : r.LogFits) : (appendRecord k t d r).LogFits := by
  obtain ⟨hlen, hserial⟩ := hf
  refine ⟨?_, serialAfter_bounds hserial⟩
  unfold appendRecord
  dsimp only
  split <;> simp <;> omega

/-! ### The activity and the rest record (R127, R131, R133 to R136) -/

theorem setQuiet_fits {b : Bool} (hb : b = true → r.record.isSome = true) (hf : r.Fits) : (setQuiet b r).1.Fits := by
  obtain ⟨hact, hrec, -, hlog⟩ := hf
  exact ⟨hact, hrec, hb, hlog⟩

/-- The end of a break run leaves no run, no rest record and no quiet flag (R131, R135). -/
theorem endRun_leaves (b : BreakRun) (hq : r.QuietFits) (hl : r.LogFits) :
    (endRun b r).1.breakRun = none ∧ (endRun b r).1.record = none ∧ (endRun b r).1.QuietFits ∧ (endRun b r).1.LogFits := by
  have appended (k : LogKind) (x : Bool) :=
    appendRecord_logFits k b.start b.length (r := { r with split := x, breakRun := none }) hl
  unfold endRun
  dsimp only
  split
  · exact ⟨rfl, rfl, nofun, appended _ _⟩
  · next hr => exact ⟨rfl, hr, hq, appended _ _⟩

/-- R127. A transition to a break activity takes a rest record opened just before it along (R133). -/
theorem changeActivity_fits (new : Activity) (ha : r.ActivityFits) (hq : r.QuietFits) (hl : r.LogFits)
    (hr : new.breaks = true ∨ r.RecordFits) : (changeActivity new r).1.Fits := by
  have appended : (appendPeriod r).LogFits := appendRecord_logFits _ _ _ hl
  unfold changeActivity
  dsimp only
  split
  · next hold =>
    split
    · next hnew =>
      have run : r.breakRun.isSome = true := ha.trans hold
      exact ⟨run.trans hnew.symm, fun _ => run, hq, hl⟩
    · next hnew =>
      split
      · next b _ =>
        obtain ⟨hrun, hrec, hquiet, hlog⟩ := endRun_leaves b hq hl
        exact ⟨(congrArg Option.isSome hrun).trans (Bool.eq_false_iff.mpr hnew).symm,
          fun h => absurd ((congrArg Option.isSome hrec).symm.trans h) nofun, hquiet, hlog⟩
      · next hb => exact absurd (ha.trans hold) (by simp [hb])
  · next hold =>
    split
    · next hnew => exact ⟨hnew.symm, fun _ => rfl, hq, appended⟩
    · next hnew =>
      have old : r.period.activity.breaks = new.breaks :=
        (Bool.eq_false_iff.mpr hold).trans (Bool.eq_false_iff.mpr hnew).symm
      exact ⟨ha.trans old, hr.resolve_left hnew, hq, appended⟩

theorem changeActivity_activity (new : Activity) : (changeActivity new r).1.period.activity = new := rfl

/-- A record opened in a break run (R133). -/
theorem openRecord_fits (w : Nat) (p : Bool) (hb : r.breakRun.isSome = true) (hf : r.Fits) : (openRecord w p r).1.Fits := by
  obtain ⟨hact, -, -, hlog⟩ := hf
  exact ⟨hact, fun _ => hb, fun _ => rfl, hlog⟩

theorem takeActivity_fits (new : Activity) (hf : r.Fits) : (takeActivity new r).1.Fits := by
  obtain ⟨hact, hrec, hquiet, hlog⟩ := id hf
  have changed := changeActivity_fits new hact hquiet hlog (.inr hrec)
  unfold takeActivity
  dsimp only
  split
  · exact hf
  · split
    · next h =>
      refine openRecord_fits _ false (changed.1.trans ?_) changed
      rw [changeActivity_activity, h.1]
      rfl
    · exact changed

/-- The activity set to REST for a record that is open, in a break run or not (R133). -/
theorem restActivity_fits (ha : r.ActivityFits) (hq : r.QuietFits) (hl : r.LogFits) : (restActivity r).1.Fits := by
  unfold restActivity
  split
  · next h => exact ⟨ha, fun _ => ha.trans (by rw [h]; rfl), hq, hl⟩
  · exact changeActivity_fits .rest ha hq hl (.inl rfl)

theorem restPlanRequest_fits (w : Nat) (hf : r.Fits) : (restPlanRequest w r).1.Fits := by
  unfold restPlanRequest
  split
  · exact hf
  · split
    · exact hf
    · obtain ⟨hact, -, -, hlog⟩ := hf
      split
      · exact restActivity_fits (r := (openRecord w true r).1) hact (fun _ => rfl) hlog
      · next x _ =>
        exact restActivity_fits (r := { r with record := some { x with wake := w, planned := true } }) hact
          (fun _ => rfl) hlog

/-! ### Events -/

/-- No event leaves RCL with a break run, a rest record or a quiet flag that the activity does not allow. -/
theorem rclHandle_fits (e : RclEv) (s : State) (hf : s.rcl.Fits) : (rclHandle e s).1.Fits := by
  cases e with
  | second => exact secondEvent_fits hf
  | fullQualification => exact testFull_fits hf
  | splitQualification => exact testSplit_fits hf
  | breakDue => exact testDue_fits hf
  | breakOverdue => exact testOverdue_fits hf
  | activity code =>
    simp only [rclHandle, activityRequest]
    split
    · exact hf
    · exact takeActivity_fits _ hf
  | restPlan w => exact restPlanRequest_fits w hf
  | clockSet t => exact setClock_fits t hf
  | settings x =>
    simp only [rclHandle, restSettingsRequest]
    split
    · exact testWarnings_fits (r := { s.rcl with settings := x }) hf
    · exact hf
  | logWindow f l =>
    simp only [rclHandle, logWindowRequest]
    split <;> exact hf
  | logRead =>
    simp only [rclHandle, logReadRequest]
    split <;> exact hf
  | defaults => exact testWarnings_fits (r := { s.rcl with settings := defaultRest }) hf
  | act a =>
    simp only [rclHandle, restAction]
    split
    · split
      · exact hf
      · next hr => exact setQuiet_fits (fun _ => Option.isSome_iff_ne_none.mpr hr) hf
    · exact setQuiet_fits nofun hf

end Clock

/-! ### SCH: the slots and the derived kinds (R145, R155) -/

section Schedule

variable {c : Sch}

theorem placeEntry_sized (n : Nat) (e : SchedEntry) (h : c.Sized) : (placeEntry n e c).Sized :=
  ⟨(List.length_set ..).trans h.1, h.2⟩

theorem deriveKind_sized (i : Nat) (a : Action) (d : Nat) (b : Bool) (h : c.Sized) : (deriveKind i a d b c).Sized := by
  unfold deriveKind
  split
  · exact h
  · split
    · exact ⟨(List.length_set ..).trans h.1, h.2⟩
    · split
      · split
        · exact h
        · exact placeEntry_sized _ _ h
      · exact placeEntry_sized _ _ h

theorem deriveKinds_sized (start wake delay lead : Nat) (h : c.Sized) : (deriveKinds start wake delay lead c).Sized := by
  unfold deriveKinds
  generalize (derivedActions.zip (derivedDues start wake delay lead)).zipIdx = kinds
  induction kinds generalizing c with
  | nil => exact h
  | cons p ps ih => exact ih (deriveKind_sized _ _ _ _ h)

theorem derivation_sized (d : Nat) (h : c.Sized) : (derivation d c).1.Sized := by
  unfold derivation
  split
  · exact deriveKinds_sized _ _ _ _ h
  · exact h

theorem fireHead_sized (b : Bool) (n : Nat) (h : c.Sized) : (fireHead b n c).1.Sized := by
  unfold fireHead
  split
  · exact h
  · split
    · exact ⟨(List.length_set ..).trans h.1, h.2⟩
    · exact h
  · exact h

theorem finishFiring_sized (x : Option Refuse) (n : Nat) (h : c.Sized) : (finishFiring x n c).1.Sized := by
  unfold finishFiring
  split
  · exact h
  · next f _ =>
    have done : ({ c with
        firing := none, done := if 10 ≤ f.slot then c.done.set (f.slot - 10) true else c.done } : Sch).Sized := by
      refine ⟨h.1, ?_⟩
      dsimp only
      split
      · exact (List.length_set ..).trans h.2
      · exact h.2
    dsimp only
    split
    · exact placeEntry_sized _ _ done
    · exact done

theorem schedAddRequest_sized (x : SchedArgs) (n : Nat) (h : c.Sized) : (schedAddRequest x n c).1.Sized := by
  unfold schedAddRequest
  split
  · exact h
  · split
    · exact h
    · split
      · exact h
      · exact placeEntry_sized _ _ h

theorem schedRemoveRequest_sized (n : Nat) (h : c.Sized) : (schedRemoveRequest n c).1.Sized := by
  unfold schedRemoveRequest
  split
  · exact h
  · split
    · exact h
    · refine ⟨(List.length_set ..).trans h.1, ?_⟩
      dsimp only
      split
      · exact (List.length_set ..).trans h.2
      · exact h.2

theorem closeRest_sized (h : c.Sized) : (closeRest c).Sized := ⟨by simp [closeRest, h.1], h.2⟩

/-- No event changes the number of slots or of derived kinds. -/
theorem schHandle_sized (e : SchEv) (s : State) (h : s.sch.Sized) : (schHandle e s).1.Sized := by
  cases e with
  | sweep => exact fireHead_sized true _ h
  | fire => exact fireHead_sized false _ h
  | answer x => exact finishFiring_sized x _ h
  | refreshExpiry =>
    simp only [schHandle]
    split
    · exact derivation_sized _ (c := { s.sch with refresh := some 300 }) h
    · exact h
  | second => exact h
  | outside x => exact h
  | restOpened start wake =>
    exact derivation_sized _
      (c := { s.sch with rest := some (start, wake), done := List.replicate 6 false, refresh := some 300 }) ⟨h.1, rfl⟩
  | restWake wake => exact derivation_sized _ (c := { s.sch with rest := s.sch.rest.map fun r => (r.1, wake) }) h
  | restClosed => exact closeRest_sized h
  | clockSet start =>
    simp only [schHandle, clockAtSch]
    split
    · exact derivation_sized _ (c := { s.sch with rest := _ }) h
    · exact h
  | add x => exact schedAddRequest_sized x _ h
  | remove n => exact schedRemoveRequest_sized n h
  | list n => exact h

end Schedule

/-! ### DMD: the entries (R27) -/

@[simp] theorem budgetPass_entries_length (t : Trigger) (d : Dmd) (s : State) :
    (budgetPass t d s).1.entries.length = d.entries.length := by
  unfold budgetPass
  split
  · rfl
  · simp [applyGrants]

/-- No event changes the number of entries. -/
theorem dmdHandle_entries_length (e : DmdEv) (s : State) : (dmdHandle e s).1.entries.length = s.dmd.entries.length := by
  cases e with
  | update n u =>
    simp only [dmdHandle, demandUpdate]
    split
    · split <;> simp
    · rfl
  | figures a f =>
    simp only [dmdHandle]
    split <;> simp
  | battery | floor | ign | rest => simp [dmdHandle]
  | budgetExpiry =>
    simp only [dmdHandle]
    split <;> simp
  | second | read => rfl
  | declare x =>
    simp only [dmdHandle, declareEntry]
    split
    · rfl
    · split
      · rfl
      · split
        · simp
        · split <;> simp
  | release n =>
    simp only [dmdHandle, releaseEntry]
    split
    · rfl
    · split <;> simp

/-! ### LGT: the channels (R102) -/

@[simp] theorem modifyAt_length {α : Type} (f : α → α) (n : Nat) (l : List α) : (modifyAt f n l).length = l.length :=
  List.length_modify ..

@[simp] theorem writeTarget_channels_length (k t d : Nat) (l : Lgt) :
    (writeTarget k t d l).channels.length = l.channels.length := by
  unfold writeTarget
  split <;> simp [modifyFrame]

@[simp] theorem writeHeld_channels_length (k : Nat) (b : Bool) (l : Lgt) :
    (writeHeld k b l).channels.length = l.channels.length := by
  unfold writeHeld
  split <;> simp [modifyFrame]

theorem foldl_writes_channels_length (f g : Nat → Nat) (b : Nat → Bool) (ks : List Nat) (l : Lgt) :
    (ks.foldl (fun l k => writeHeld k (b k) (writeTarget k (f k) (g k) l)) l).channels.length = l.channels.length := by
  induction ks generalizing l with
  | nil => rfl
  | cons k ks ih => exact (ih _).trans (by simp)

@[simp] theorem lightWrites_channels_length (x : LightArgs) (l : Lgt) :
    (lightWrites x l).channels.length = l.channels.length :=
  foldl_writes_channels_length (fun _ => x.target) (fun _ => x.fade) (fun _ => x.hold == 1) _ l

@[simp] theorem restoreFrame_channels_length (f : Frame) (l : Lgt) :
    (restoreFrame f l).channels.length = l.channels.length :=
  foldl_writes_channels_length (fun k => f.targets.getD k 0) (fun _ => 10) (fun k => f.helds.getD k false) _ l

@[simp] theorem applyItems_channels_length (is : List SceneItem) (l : Lgt) :
    (applyItems is l).1.channels.length = l.channels.length := by
  induction is generalizing l with
  | nil => rfl
  | cons i is ih =>
    unfold applyItems
    split <;> simp [ih]

@[simp] theorem concludeLights_channels_length (s : State) (b l : Lgt) :
    (concludeLights s b l).1.channels.length = l.channels.length := by
  simp [concludeLights, driveLights]

@[simp] theorem pushFrame_channels (o : FrameOwner) (l : Lgt) : (pushFrame o l).1.channels = l.channels := by
  unfold pushFrame
  dsimp only
  split <;> rfl

@[simp] theorem writeStep_channels_length (t d : Nat) (l : Lgt) :
    (writeStep t d l).channels.length = l.channels.length := by
  unfold writeStep
  split <;> simp

@[simp] theorem setButton_channels (l : Lgt) (b : Button) (x : ButtonState) : (l.setButton b x).channels = l.channels := by
  cases b <;> rfl

theorem doorChanged_channels_length (b : Bool) (l : Lgt) : (doorChanged b l).channels.length = l.channels.length := by
  cases b <;> simp [doorChanged]

theorem buttonChanged_channels_length (b : Button) (p : Bool) (l : Lgt) :
    (buttonChanged b p l).channels.length = l.channels.length := by
  unfold buttonChanged
  repeat' split
  all_goals simp [toggleLight]

theorem longPressed_channels_length (b : Button) (l : Lgt) (s : State) :
    (longPressed b l s).1.channels.length = l.channels.length := by
  unfold longPressed
  dsimp only
  repeat' split
  all_goals simp [toggleLight]

theorem startFlash_channels_length (k a b c : Nat) (l : Lgt) :
    (startFlash k a b c l).1.channels.length = l.channels.length := by
  simp only [startFlash, modifyAt_length]
  split <;> simp

theorem cancelFlash_channels_length (k : Nat) (l : Lgt) : (cancelFlash k l).1.channels.length = l.channels.length := by
  unfold cancelFlash
  split <;> simp

/-! The three ends of an event at LGT keep the number of channels. -/

@[simp] theorem withAnswer_channels_length (s : State) (l : Lgt) (ms : List Msg) (m : Msg) :
    (withAnswer s l ms m).1.channels.length = l.channels.length := concludeLights_channels_length s s.lgt l

@[simp] theorem withDone_channels_length (s : State) (l : Lgt) :
    (withDone s l).1.channels.length = l.channels.length := concludeLights_channels_length s s.lgt l

@[simp] theorem withoutAnswer_channels_length (s : State) (l : Lgt) (ms : List Msg) :
    (withoutAnswer s l ms).1.channels.length = l.channels.length := concludeLights_channels_length s s.lgt l

theorem lightGrant_channels (n level : Nat) (b : Budget) (l : Lgt) : (lightGrant n level b l).channels = l.channels := by
  unfold lightGrant
  split <;> rfl

theorem sceneRecall_channels_length (n : Nat) (s : State) :
    (sceneRecall n s).1.channels.length = s.lgt.channels.length := by
  unfold sceneRecall
  repeat' split
  all_goals simp

theorem lightAction_channels_length (a : Action) (p : Option Int) (s : State) :
    (lgtHandle (.act a p) s).1.channels.length = s.lgt.channels.length := by
  simp only [lgtHandle, sceneAction, wakeLight]
  repeat' split
  all_goals simp

/-- No event changes the number of channels. The case left to the end is the recall of a scene, whose constructor's name
cannot stand in a pattern. -/
theorem lgtHandle_channels_length (e : LgtEv) (s : State) :
    (lgtHandle e s).1.channels.length = s.lgt.channels.length := by
  cases e with
  | fadeStep | flashStep | quiet | defaults => simp [lgtHandle]
  | second => rfl
  | door b =>
    simp only [lgtHandle]
    split
    · rfl
    · rw [withoutAnswer_channels_length, doorChanged_channels_length]
  | doorExpiry =>
    simp only [lgtHandle]
    split <;> simp
  | button b p =>
    simp only [lgtHandle]
    split
    · rfl
    · rw [withoutAnswer_channels_length, buttonChanged_channels_length]
  | longPress b => simp only [lgtHandle, withoutAnswer_channels_length, longPressed_channels_length]
  | grant n level b => simp only [lgtHandle, withoutAnswer_channels_length, lightGrant_channels]
  | flashStart k level a b => simp only [lgtHandle, withoutAnswer_channels_length, startFlash_channels_length]
  | flashCancel k => simp only [lgtHandle, withoutAnswer_channels_length, cancelFlash_channels_length]
  | set x =>
    simp only [lgtHandle]
    split <;> simp
  | save => simp [lgtHandle, lightSave]
  | restore =>
    simp only [lgtHandle, lightRestore]
    split <;> simp
  | groupSet | channelSet | sceneStore =>
    simp only [lgtHandle]
    split <;> simp
  | act a p => exact lightAction_channels_length a p s
  | _ => exact sceneRecall_channels_length _ s

/-! ### Deliveries, resets and steps -/

theorem deliver_clockInv (m : Msg) (s : State) (h : clockInv s) : clockInv (deliver m s).1 := by
  rw [clockInv_iff] at h ⊢
  obtain ⟨hrcl, hsch, hdmd, hlgt⟩ := h
  cases m with
  | rcl e => exact ⟨rclHandle_fits e s hrcl, hsch, hdmd, hlgt⟩
  | sch e => exact ⟨hrcl, schHandle_sized e s hsch, hdmd, hlgt⟩
  | dmd e => exact ⟨hrcl, hsch, (dmdHandle_entries_length e s).trans hdmd, hlgt⟩
  | lgt e => exact ⟨hrcl, hsch, hdmd, (lgtHandle_channels_length e s).trans hlgt⟩
  | _ => exact ⟨hrcl, hsch, hdmd, hlgt⟩

/-- A reset begins a break run with the activity AVAILABLE and an empty log (R144). -/
theorem blocksAtReset_clockInv (pins : Pins) (s : State) : clockInv (blocksAtReset pins s) :=
  (clockInv_iff _).mpr
    ⟨⟨rfl, nofun, nofun, Nat.zero_le 64, le_refl 1, show 1 ≤ maxCount by decide⟩, ⟨rfl, rfl⟩, rfl, rfl⟩

/-- Settles O60: deliveries, resets, the event counter and the queue of commands keep each of the three invariants. -/
theorem stepKeepsCoolerAlertsAndClock : Obligations.StepKeepsCoolerAlertsAndClock := by
  intro s t ht
  refine ⟨fun h => ?_, fun h => ?_, fun h => ?_⟩
  · exact step_keeps (P := coolerInv) (fun _ h => h) deliver_coolerInv (fun pins s _ => blocksAtReset_coolerInv pins s)
      (fun _ _ h => h) s t h ht
  · exact step_keeps (P := alertsInv) (fun _ h => h) deliver_alertsInv (fun pins s _ => blocksAtReset_alertsInv pins s)
      (fun _ _ h => h) s t h ht
  · exact step_keeps (P := clockInv) (fun _ h => h) deliver_clockInv (fun pins s _ => blocksAtReset_clockInv pins s)
      (fun _ _ h => h) s t h ht

end Sys2Proof.Machine

/-! O27: the timers of the cooler, its grants and the quiet flag (R84, R86 to R93, R95). First, for O28 and O29 too, a command
and a delivery at CLR, and the close of an event by the state it finds. -/

namespace Sys2Proof.Machine

/-! ### A delivery and a command at CLR -/

theorem deliver_clr_of {e : ClrEv} {s : State} {c : Clr} {ms : List Msg} (he : clrHandle e s = (c, ms)) :
    deliver (.clr e) s = ({ s with clr := c }, ms) := by
  rw [deliver_clr, he]

theorem deliver_clr_changed {e : ClrEv} {s : State} {c : Clr} {r : Nat}
    (he : clrHandle e s = coolerChanged s s.clr c r) :
    deliver (.clr e) s =
      ({ s with clr := (coolerChanged s s.clr c r).1 }, (coolerChanged s s.clr c r).2) :=
  deliver_clr_of he

/-- A command that brings CLR an event, with what that event leaves at CLR and hands on. -/
theorem exec_clr {i : Instr} {e : ClrEv} {s : State} {c : Clr} {ms : List Msg} (he : exec i s = .next (event (.clr e) s))
    (hc : clrHandle e (fresh s) = (c, ms)) : exec i s = .next (settle ms { fresh s with clr := c }) :=
  exec_settle he (deliver_clr_of hc)

/-- A command whose event at CLR ends in `c` with a reason. -/
theorem exec_clr_next {i : Instr} {e : ClrEv} {s : State} {c : Clr} {r : Nat} (he : exec i s = .next (event (.clr e) s))
    (hc : clrHandle e (fresh s) = coolerChanged (fresh s) s.clr c r) : exec i s = .next (coolerNext (fresh s) c r) :=
  exec_clr he hc

/-- A command that brings CLR an event that does nothing there: only the event counter advances. -/
theorem exec_clr_idle {i : Instr} {e : ClrEv} {s : State} (he : exec i s = .next (event (.clr e) s))
    (hc : clrHandle e (fresh s) = (s.clr, [])) : exec i s = .next (fresh s) :=
  exec_quiet he (deliver_clr_of hc)

section Close

variable {c : Clr} {q : Bool} {r : Nat}

/-! ### The close of an event by the state it finds (R88, R89, R91, R93) -/

/-- The held grant is 0 (R88 to R90). -/
def Clr.Shed (c : Clr) : Prop := c.grant.any (fun g => g.1 == 0) = true

/-- A quiet run has reached Q_run (R91). -/
def Clr.QuietDue (c : Clr) (q : Bool) : Prop := q = true ∧ c.settings.enable = true ∧ c.settings.qRun ≤ c.runTime

/-- A run with the stall count cleared once it has reached 300 s (R93). -/
def Clr.ran (c : Clr) : Clr := { c with stalls := if 300 ≤ c.runTime then 0 else c.stalls }

/-- A run that a stop condition ends: the compressor stops and the cooler settles (R84, R88). -/
def Clr.ranOff (c : Clr) (q : Bool) : Clr := coolerSettled { coolerStopped c.ran with state := .idle } q

/-- A quiet run at its end (R91). -/
def Clr.paused (c : Clr) : Clr := { coolerStopped c.ran with state := .pause, pause := some (max c.settings.qPause 180) }

theorem coolerClosed_resting (hs : c.state = .idle ∨ c.state = .waitOff ∨ c.state = .shed) :
    coolerClosed c q r = (coolerSettled c q, r) := by
  unfold coolerClosed
  rcases hs with hs | hs | hs <;> rw [hs]

theorem coolerClosed_waiting (hs : c.state = .pause ∨ c.state = .backoff ∨ c.state = .disabled ∨ c.state = .faulted) :
    coolerClosed c q r = (c, r) := by
  unfold coolerClosed
  rcases hs with hs | hs | hs | hs <;> rw [hs]

theorem coolerClosed_shed (hs : c.state = .running) (hz : c.Shed) (hm : c.minOn = none) :
    coolerClosed c q r = (c.ranOff q, r) := by
  unfold coolerClosed
  rw [hs]
  exact if_pos ⟨hz, hm⟩

theorem coolerClosed_quiet (hs : c.state = .running) (hn : ¬(c.Shed ∧ c.minOn = none)) (hd : c.QuietDue q) :
    coolerClosed c q r = (c.paused, 3) := by
  unfold coolerClosed
  rw [hs]
  exact (if_neg hn).trans (if_pos hd)

theorem coolerClosed_stops (hs : c.state = .running) (hd : ¬c.QuietDue q)
    (hc : c.Shed ∨ c.settings.enable = false ∨ coolerCalls c = false) (hm : c.minOn = none) :
    coolerClosed c q r = (c.ranOff q, r) := by
  by_cases hz : c.Shed
  · exact coolerClosed_shed hs hz hm
  · unfold coolerClosed
    rw [hs]
    exact (if_neg fun h => hz h.1).trans ((if_neg hd).trans (if_pos ⟨hc.resolve_left hz, hm⟩))

theorem coolerClosed_runs (hs : c.state = .running) (hd : ¬c.QuietDue q)
    (hc : ¬(c.Shed ∨ c.settings.enable = false ∨ coolerCalls c = false)) : coolerClosed c q r = (c.ran, r) := by
  unfold coolerClosed
  rw [hs]
  refine (if_neg fun h => hc (.inl h.1)).trans ((if_neg hd).trans (if_neg fun h => hc (.inr h.1))) |>.trans ?_
  rw [← hs]
  rfl

/-- The end of an event whose close is known. -/
theorem coolerEnds_of {s : State} {c' : Clr} {r' : Nat} (h : coolerClosed c s.rcl.quiet r = (c', r')) :
    coolerEnds s c r = coolerNext s c' r' := by
  unfold coolerEnds
  rw [h]

/-- The same as CLR's answer to the event. -/
theorem conclude_of {s : State} {o c' : Clr} {x : CoolerReason} {r' : Nat}
    (h : coolerClosed c s.rcl.quiet x.code = (c', r')) : conclude s o c x = coolerChanged s o c' r' := by
  rw [conclude_eq, h]

/-- A change handed on without a close; no start is among them (R92). -/
theorem handChange_changed (s : State) {o n : Clr} (x : CoolerReason) (h : o.state = .running ∨ n.state ≠ .running) :
    handChange s o n x = coolerChanged s o n x.code := by
  have still : ¬(o.state ≠ .running ∧ n.state = .running ∧ n.faultPin = true) := by
    rintro ⟨ho, hn, -⟩
    exact h.elim ho (· hn)
  rw [handChange_eq, coolerChanged, coolerDone, if_neg still]
  rfl

theorem clearStalls_of_running (hs : c.state = .running) : clearStalls c = c.ran := by
  unfold clearStalls Clr.ran
  by_cases h : 300 ≤ c.runTime
  · rw [if_pos ⟨hs, h⟩, if_pos h]
  · rw [if_neg fun x => h x.2, if_neg h]

theorem coolerDriven_of_running (hs : c.state = .running) :
    coolerDriven c q = { c with speed := max 1 (min (coolerWish c q) ((c.grant.map Prod.fst).getD 0)) } := if_pos hs

theorem coolerDriven_of_not_running (hs : c.state ≠ .running) : coolerDriven c q = c := if_neg hs

/-! ### The expiries -/

theorem ranOut_iff {t : Option Nat} : ranOut t = true ↔ t = some 0 := beq_iff_eq

/-- An expiry that has run out: the changed state is concluded. -/
theorem exec_coolerExpiry {i : Instr} {e : ClrEv} {s : State} {due : Bool} {f : Clr → Clr} {x : CoolerReason}
    (he : exec i s = .next (event (.clr e) s)) (hc : clrHandle e (fresh s) = coolerExpiry due f x (fresh s))
    (hd : due = true) : exec i s = .next (coolerEnds (fresh s) (f s.clr) x.code) :=
  exec_clr_next he (hc.trans ((if_pos hd).trans (conclude_eq _ _ _ _)))

theorem exec_coolerExpiry_idle {i : Instr} {e : ClrEv} {s : State} {due : Bool} {f : Clr → Clr} {x : CoolerReason}
    (he : exec i s = .next (event (.clr e) s)) (hc : clrHandle e (fresh s) = coolerExpiry due f x (fresh s))
    (hd : ¬due = true) : exec i s = .next (fresh s) :=
  exec_clr_idle he (hc.trans (if_neg hd))

end Close

section Timers

variable {s : State}

theorem clrHandle_minOnExpiry (s : State) :
    clrHandle .minOnExpiry s = coolerExpiry (ranOut s.clr.minOn) (fun c => { c with minOn := none }) .timer s := rfl

theorem clrHandle_minOffExpiry (s : State) :
    clrHandle .minOffExpiry s = coolerExpiry (ranOut s.clr.minOff) (fun c => { c with minOff := none }) .timer s := rfl

theorem clrHandle_blindOffExpiry (s : State) :
    clrHandle .blindOffExpiry s = coolerExpiry (ranOut s.clr.blindOff) (fun c => { c with blindOff := none }) .timer s := rfl

theorem clrHandle_pauseExpiry (s : State) :
    clrHandle .pauseExpiry s = coolerExpiry (s.clr.state == .pause && ranOut s.clr.pause) endPause .quiet s := rfl

theorem clrHandle_backoffExpiry (s : State) :
    clrHandle .backoffExpiry s =
      coolerExpiry (s.clr.state == .backoff && ranOut s.clr.backoff)
        (fun c => { c with backoff := none, state := .idle }) .timer s := rfl

theorem exec_minOnExpiry (h : s.clr.minOn = some 0) :
    exec .minOnExpiry s = .next (coolerEnds (fresh s) { s.clr with minOn := none } 5) :=
  exec_coolerExpiry rfl (clrHandle_minOnExpiry _) (ranOut_iff.mpr h)

/-- The min-on timer runs out in an event whose close is known. -/
theorem exec_minOnExpiry_closed {c : Clr} {r : Nat} (h : s.clr.minOn = some 0)
    (hc : coolerClosed { s.clr with minOn := none } s.rcl.quiet 5 = (c, r)) :
    exec .minOnExpiry s = .next (coolerNext (fresh s) c r) := by
  rw [exec_minOnExpiry h, coolerEnds_of (s := fresh s) hc]

theorem exec_minOffExpiry (h : s.clr.minOff = some 0) :
    exec .minOffExpiry s = .next (coolerEnds (fresh s) { s.clr with minOff := none } 5) :=
  exec_coolerExpiry rfl (clrHandle_minOffExpiry _) (ranOut_iff.mpr h)

theorem exec_blindOffExpiry (h : s.clr.blindOff = some 0) :
    exec .blindOffExpiry s = .next (coolerEnds (fresh s) { s.clr with blindOff := none } 5) :=
  exec_coolerExpiry rfl (clrHandle_blindOffExpiry _)
    (ranOut_iff.mpr h)

theorem pauseDue_iff {c : Clr} : (c.state == .pause && ranOut c.pause) = true ↔ c.pause = some 0 ∧ c.state = .pause := by
  rw [Bool.and_eq_true, beq_iff_eq, ranOut_iff, and_comm]

theorem backoffDue_iff {c : Clr} :
    (c.state == .backoff && ranOut c.backoff) = true ↔ c.backoff = some 0 ∧ c.state = .backoff := by
  rw [Bool.and_eq_true, beq_iff_eq, ranOut_iff, and_comm]

theorem endPause_eq (c : Clr) :
    endPause c = { c with pause := none, state := .idle, minOff := if c.minOff = some 0 then none else c.minOff } := by
  simp only [endPause, ranOut_iff]

/-- The pause has run its time: a cooler at rest settles (R91). -/
theorem exec_pauseExpiry (h : s.clr.pause = some 0) (hs : s.clr.state = .pause) :
    exec .pauseExpiry s = .next (coolerNext (fresh s) (coolerSettled
      { s.clr with pause := none, state := .idle, minOff := if s.clr.minOff = some 0 then none else s.clr.minOff }
      s.rcl.quiet) 3) := by
  rw [exec_coolerExpiry rfl (clrHandle_pauseExpiry _) (pauseDue_iff.mpr ⟨h, hs⟩), endPause_eq]
  exact congrArg _ (coolerEnds_of (coolerClosed_resting (.inl rfl)))

theorem exec_backoffExpiry (h : s.clr.backoff = some 0) (hs : s.clr.state = .backoff) :
    exec .backoffExpiry s =
      .next (coolerNext (fresh s) (coolerSettled { s.clr with backoff := none, state := .idle } s.rcl.quiet) 5) := by
  rw [exec_coolerExpiry rfl (clrHandle_backoffExpiry _) (backoffDue_iff.mpr ⟨h, hs⟩)]
  exact congrArg _ (coolerEnds_of (coolerClosed_resting (.inl rfl)))

/-! ### Grants (R87, R90) -/

theorem grantReason_code (level : Nat) (b : Budget) :
    (grantReason level b).code = if level = 0 ∧ b = .cutoff then 2 else 1 := by
  unfold grantReason
  split <;> rfl

/-- CLR with a grant delivered, and the budget state it carries (R90). -/
def Clr.held (c : Clr) (level : Nat) (b : Budget) : Clr := { c with grant := some (level, b) }

variable {level : Nat} {b : Budget}

/-- What a grant does, by the state it finds, with the speed driven in the words of the statements. -/
theorem coolerGrant_eq (level : Nat) (b : Budget) (s : State) :
    coolerGrant level b s =
      match s.clr.state with
      | .running =>
        if level = 0 ∧ b = .cutoff then
          handChange s s.clr (stopAndSettle (clearStalls (coolerDriven (s.clr.held level b) s.rcl.quiet)) s.rcl.quiet)
            (grantReason level b)
        else conclude s s.clr (coolerDriven (s.clr.held level b) s.rcl.quiet) (grantReason level b)
      | .pause =>
        if level = 0 then
          handChange s s.clr { coolerDriven (s.clr.held level b) s.rcl.quiet with state := .shed, pause := none }
            (grantReason level b)
        else (coolerDriven (s.clr.held level b) s.rcl.quiet, [])
      | _ => conclude s s.clr (coolerDriven (s.clr.held level b) s.rcl.quiet) (grantReason level b) := by
  rw [← driveSpeed_eq]
  rfl

/-- A grant of 0 in CUTOFF stops a run at once (R90). -/
theorem coolerGrant_cutoff (hs : s.clr.state = .running) (hl : level = 0) (hb : b = .cutoff) :
    coolerGrant level b s = coolerChanged s s.clr ((s.clr.held level b).ranOff s.rcl.quiet) 2 := by
  have stopped : stopAndSettle (clearStalls (coolerDriven (s.clr.held level b) s.rcl.quiet)) s.rcl.quiet =
      (s.clr.held level b).ranOff s.rcl.quiet := by
    rw [coolerDriven_of_running (c := s.clr.held level b) hs,
      clearStalls_of_running (c := { s.clr.held level b with speed := _ }) hs, stopAndSettle_eq]
    rfl
  rw [coolerGrant_eq, hs]
  dsimp only
  rw [if_pos ⟨hl, hb⟩, handChange_changed s _ (.inl hs), stopped, grantReason_code, if_pos ⟨hl, hb⟩]

/-- Any other grant drives the speed of a run and closes the event (R87, R90). -/
theorem coolerGrant_running (hs : s.clr.state = .running) (hn : ¬(level = 0 ∧ b = .cutoff)) :
    coolerGrant level b s =
      conclude s s.clr
        { s.clr.held level b with speed := max 1 (min (coolerWish s.clr s.rcl.quiet) level) } .grant := by
  rw [coolerGrant_eq, hs]
  dsimp only
  rw [if_neg hn, grantReason, if_neg hn, coolerDriven_of_running (c := s.clr.held level b) hs]
  rfl

/-- Without a run a grant is recorded and the event closes, but for the pause. -/
theorem coolerGrant_off (hr : s.clr.state ≠ .running) (hp : s.clr.state ≠ .pause) :
    coolerGrant level b s = conclude s s.clr (s.clr.held level b) (grantReason level b) := by
  rw [coolerGrant_eq, coolerDriven_of_not_running (c := s.clr.held level b) hr]
  split
  · next h => exact absurd h hr
  · next h => exact absurd h hp
  · rfl

/-- In PAUSE a grant of 0 gives SHED, and the pause runs on under any other (R90). -/
theorem coolerGrant_pause (hs : s.clr.state = .pause) :
    coolerGrant level b s =
      if level = 0 then
        coolerChanged s s.clr { s.clr.held level b with state := .shed, pause := none } (grantReason level b).code
      else (s.clr.held level b, []) := by
  have off : s.clr.state ≠ .running := by simp [hs]
  rw [coolerGrant_eq, coolerDriven_of_not_running (c := s.clr.held level b) off, hs]
  dsimp only
  rw [handChange_changed s _ (.inr (by simp))]

/-! ### The quiet flag (R86, R87, R91, R95) -/

/-- CLR told of the quiet flag: its clearing ends the pre-chill (R86). -/
def Clr.told (c : Clr) (flag : Bool) : Clr := { c with prechill := if flag then c.prechill else false }

theorem coolerQuiet_eq (flag : Bool) (s : State) :
    coolerQuiet flag s =
      if flag = false ∧ s.clr.state = .pause then
        conclude s s.clr { s.clr.told flag with pause := none, state := .idle } .quiet
      else conclude s s.clr (coolerDriven (s.clr.told flag) s.rcl.quiet) .quiet := by
  have told : (if flag then s.clr else { s.clr with prechill := false }) = s.clr.told flag := by
    cases flag <;> rfl
  unfold coolerQuiet
  dsimp only
  rw [told, driveSpeed_eq]
  split
  · next h =>
    have off : (s.clr.told flag).state ≠ .running := fun hr => absurd (h.2.symm.trans hr) nofun
    rw [coolerDriven_of_not_running off]
  · rfl

end Timers

/-- Settles O27: each timer by whether it has run out and by the state, each grant by its level and the state, and the quiet
flag. -/
theorem coolerTimersSettleTheState : Obligations.CoolerTimersSettleTheState := by
  refine ⟨?_, ?_, ?_⟩
  · intro s c q rest shed quietDue stopping run
    refine ⟨fun h hs => ⟨fun hstop => ?_, fun hz hd => ?_, fun hd hc => ?_⟩, fun h hs => ?_, exec_pauseExpiry,
      exec_backoffExpiry, fun h hs => ?_, exec_minOnExpiry, exec_minOffExpiry, exec_blindOffExpiry, fun h => ?_, fun h => ?_,
      fun h => ?_, fun h => ?_, fun h => ?_⟩
    · refine exec_minOnExpiry_closed h ?_
      rcases hstop with hz | ⟨hd, hc⟩
      · exact coolerClosed_shed (c := { c with minOn := none }) hs hz rfl
      · exact coolerClosed_stops (c := { c with minOn := none }) hs hd hc rfl
    · exact exec_minOnExpiry_closed h
        (coolerClosed_quiet (c := { c with minOn := none }) hs (fun x => hz x.1) hd)
    · exact exec_minOnExpiry_closed h (coolerClosed_runs (c := { c with minOn := none }) hs hd hc)
    · rw [exec_minOffExpiry h]
      exact congrArg _ (coolerEnds_of (coolerClosed_resting hs))
    · rw [exec_blindOffExpiry h]
      exact congrArg _ (coolerEnds_of (coolerClosed_resting hs))
    · exact exec_coolerExpiry_idle rfl (clrHandle_minOnExpiry _) (mt ranOut_iff.mp h)
    · exact exec_coolerExpiry_idle rfl (clrHandle_minOffExpiry _) (mt ranOut_iff.mp h)
    · exact exec_coolerExpiry_idle rfl (clrHandle_pauseExpiry _) (mt pauseDue_iff.mp h)
    · exact exec_coolerExpiry_idle rfl (clrHandle_backoffExpiry _) (mt backoffDue_iff.mp h)
    · exact exec_coolerExpiry_idle rfl (clrHandle_blindOffExpiry _) (mt ranOut_iff.mp h)
  · intro level b s c q held run reason changed driven
    have reason_eq : (grantReason level b).code = reason := grantReason_code level b
    refine ⟨fun hs hl hb => ?_, fun hs hn => ?_, fun hs hl => ?_, fun hs hl => ?_, fun hs => ?_, fun hs => ?_⟩
    · exact deliver_clr_changed (coolerGrant_cutoff hs hl hb)
    · exact deliver_clr_changed ((coolerGrant_running hs hn).trans (conclude_eq _ _ _ _))
    · rw [← reason_eq]
      exact deliver_clr_changed ((coolerGrant_pause hs).trans (if_pos hl))
    · exact deliver_clr_of ((coolerGrant_pause hs).trans (if_neg (by omega)))
    · rw [← reason_eq]
      have off : c.state ≠ .running ∧ c.state ≠ .pause := by
        rcases hs with hs | hs | hs <;> simp [hs]
      exact deliver_clr_changed ((coolerGrant_off off.1 off.2).trans (conclude_of (coolerClosed_resting hs)))
    · rw [← reason_eq]
      have off : c.state ≠ .running ∧ c.state ≠ .pause := by
        rcases hs with hs | hs | hs <;> simp [hs]
      exact deliver_clr_changed ((coolerGrant_off off.1 off.2).trans (conclude_of (coolerClosed_waiting (.inr hs))))
  · intro flag s c q told changed driven
    have kept (hn : ¬(flag = false ∧ c.state = .pause)) :
        clrHandle (.quiet flag) s = conclude s c (coolerDriven told q) .quiet :=
      (coolerQuiet_eq flag s).trans (if_neg hn)
    have undriven (hr : c.state ≠ .running) : coolerDriven told q = told := coolerDriven_of_not_running hr
    refine ⟨fun hs => ?_, fun hs hf => ?_, fun hs => ?_, fun hs => ?_, deliver_clr_of rfl⟩
    · refine deliver_clr_changed ((kept (by simp [hs])).trans ?_)
      rw [conclude_eq, coolerDriven_of_running (c := told) hs]
      rfl
    · exact deliver_clr_changed
        (((coolerQuiet_eq flag s).trans (if_pos ⟨hf, hs⟩)).trans (conclude_of (coolerClosed_resting (.inl rfl))))
    · have off : c.state ≠ .running ∧ c.state ≠ .pause := by
        rcases hs with hs | hs | hs <;> simp [hs]
      refine deliver_clr_changed ((kept fun h => off.2 h.2).trans ?_)
      rw [undriven off.1]
      exact conclude_of (coolerClosed_resting hs)
    · have off : c.state ≠ .running ∧ ¬(flag = false ∧ c.state = .pause) := by
        rcases hs with ⟨hs, hf⟩ | hs | hs | hs <;> simp [*]
      refine deliver_clr_changed ((kept off.2).trans ?_)
      rw [undriven off.1]
      exact conclude_of (coolerClosed_waiting (hs.imp_left And.left))

end Sys2Proof.Machine

/-! O28: the cooler's marks, the measurement at CLR and COMP_FAULT (R85, R91 to R97). -/

namespace Sys2Proof.Machine

section Marks

variable {s : State} {c : Clr} {q : Bool}

/-! ### The marks (R91, R93, R94, R96, R97) -/

theorem clrHandle_quietRunEnd (s : State) :
    clrHandle .quietRunEnd s = coolerExpiry (quietRunDue s.clr s.rcl.quiet) id .quiet s := rfl

theorem clrHandle_blindRunEnd (s : State) :
    clrHandle .blindRunEnd s =
      coolerExpiry (s.clr.blind && s.clr.state == .running && decide (600 ≤ s.clr.runTime)) id .thermostat s := rfl

theorem quietRunEndDue_iff :
    quietRunDue c q = true ↔ q = true ∧ c.state = .running ∧ c.settings.enable = true ∧ c.settings.qRun ≤ c.runTime := by
  simp [quietRunDue, and_assoc]

theorem blindRunEndDue_iff :
    (c.blind && c.state == .running && decide (600 ≤ c.runTime)) = true ↔
      c.blind = true ∧ c.state = .running ∧ 600 ≤ c.runTime := by
  simp [and_assoc]

/-- A quiet run of Q_run ends in an event whose close is known (R91). -/
theorem exec_quietRunEnd_closed {c' : Clr} {r : Nat} (h : quietRunDue s.clr s.rcl.quiet = true)
    (hc : coolerClosed s.clr s.rcl.quiet 3 = (c', r)) : exec .quietRunEnd s = .next (coolerNext (fresh s) c' r) :=
  (exec_coolerExpiry rfl (clrHandle_quietRunEnd _) h).trans (congrArg _ (coolerEnds_of (s := fresh s) hc))

theorem exec_blindRunEnd (h : s.clr.blind = true ∧ s.clr.state = .running ∧ 600 ≤ s.clr.runTime) :
    exec .blindRunEnd s = .next (coolerEnds (fresh s) s.clr 0) :=
  exec_coolerExpiry rfl (clrHandle_blindRunEnd _) (blindRunEndDue_iff.mpr h)

/-- A blind run of 600 s has no call (R97). -/
theorem coolerCalls_blindRun (h : c.blind = true ∧ c.state = .running ∧ 600 ≤ c.runTime) : coolerCalls c = false := by
  obtain ⟨hb, hs, ht⟩ := h
  simp [coolerCalls, hb, hs, ht]

/-- The minute's seconds taken into the ring (R94). -/
def Clr.minuteTaken (c : Clr) : Clr :=
  let ring := (if c.ring.length < 60 then c.ring else c.ring.drop 1) ++ [c.secondsOn]
  { c with
    ring := ring, secondsOn := 0, minute := 60
    duty := if ring.length < 15 then 500 else ring.sum * 1000 / (ring.length * 60) }

theorem exec_minuteExpiry (h : s.clr.minute = 0) :
    exec .minuteTimerExpiry s = .next (coolerEnds (fresh s) s.clr.minuteTaken 5) :=
  exec_clr_next (e := .minuteExpiry) rfl ((if_pos h).trans (conclude_eq (fresh s) s.clr s.clr.minuteTaken .timer))

theorem exec_minuteExpiry_closed {c' : Clr} {r : Nat} (h : s.clr.minute = 0)
    (hc : coolerClosed s.clr.minuteTaken s.rcl.quiet 5 = (c', r)) :
    exec .minuteTimerExpiry s = .next (coolerNext (fresh s) c' r) := by
  rw [exec_minuteExpiry h, coolerEnds_of (s := fresh s) hc]

/-! ### COMP_FAULT (R92, R93) -/

theorem compFaultEvent_same {b : Bool} (h : b = s.clr.faultPin) : compFaultEvent b s = (s.clr, []) := if_pos h

/-- COMP_FAULT asserted in RUNNING is a stall; no start follows a stall. -/
theorem compFaultEvent_stall {b : Bool} (hn : b ≠ s.clr.faultPin) (hb : b = true) (hs : s.clr.state = .running) :
    compFaultEvent b s = coolerChanged s s.clr (coolerStalled { s.clr with faultPin := b }) 4 := by
  unfold compFaultEvent
  dsimp only
  rw [if_neg hn, if_pos ⟨hb, hs⟩, handChange_changed s .stall (.inl hs), stallCooler_eq]
  rfl

theorem compFaultEvent_held {b : Bool} (hn : b ≠ s.clr.faultPin) (h : ¬(b = true ∧ s.clr.state = .running)) :
    compFaultEvent b s = ({ s.clr with faultPin := b }, []) := (if_neg hn).trans (if_neg h)

/-! ### A measurement (R85, R96, R97) -/

/-- The call falls at or below the lower limit of the band (R85). -/
theorem nextCall_eq (c : Clr) (t : Int) :
    nextCall c t =
      if c.call then decide (effectiveSetpoint c - c.settings.band.tdiv 2 < t)
      else decide (effectiveSetpoint c + c.settings.band.tdiv 2 ≤ t) := by
  simp only [nextCall, divT, ← decide_not, not_le]

theorem cabinetReading_state (c : Clr) (t : Option Int) : (cabinetReading c t).state = c.state := by
  unfold cabinetReading
  split <;> split <;> rfl

/-- What a rise of the call wakes (R85). -/
theorem callRise_cabinetReading (c : Clr) (t : Option Int) :
    callRise c (cabinetReading c t) =
      if c.call = false ∧ (cabinetReading c t).call = true ∧ c.settings.enable = true ∧ c.state ≠ .faulted then [.chg .wake]
      else [] := by
  simp only [callRise, msgsIf, cabinetReading_settings, cabinetReading_state, Bool.and_eq_true, Bool.not_eq_true',
    bne_iff_ne, and_assoc]

theorem blindCode_iff (x : CoolerReason) : x.code = 6 ↔ x = .blind := by
  cases x <;> simp [CoolerReason.code]

/-- The reports of a change of blind mode (R97; log 14). -/
theorem blindReports_eq (o m n : Clr) (x : CoolerReason) :
    blindReports o m n x =
      if x.code = 6 then [coolerReport o n 6]
      else coolerReport o m 6 :: if m.state = n.state then [] else [coolerReport m n x.code] := by
  simp only [blindReports, blindCode_iff, coolerStateReport_eq, stateReports_eq]
  rfl

/-- The end of a measurement that changed blind mode (R97). -/
theorem concludeBlind_eq (s : State) (o m : Clr) :
    concludeBlind s o m =
      coolerDone s o (coolerClosed m s.rcl.quiet 6).1
        (if (coolerClosed m s.rcl.quiet 6).2 = 6 then [coolerReport o (coolerClosed m s.rcl.quiet 6).1 6]
        else coolerReport o m 6 ::
          if m.state = (coolerClosed m s.rcl.quiet 6).1.state then []
          else [coolerReport m (coolerClosed m s.rcl.quiet 6).1 (coolerClosed m s.rcl.quiet 6).2]) := by
  rw [show coolerClosed m s.rcl.quiet 6 = _ from (closeEvent_eq m s.rcl.quiet .blind).symm]
  unfold concludeBlind
  dsimp only
  rw [stallAtStart_eq, blindReports_eq]

/-- The warm watch of a measurement with the settings before it (R96). -/
def warmWatched (p : CoolSettings) (dt : Nat) (cabinet : Option Int) (c : Clr) : Clr × List Msg :=
  match cabinet with
  | none => (c, [])
  | some t =>
    let time := min 1800 (c.warmTime + dt)
    if c.state = .disabled then (c, [])
    else if p.setpoint + 80 < t then
      if time = 1800 ∧ c.warm = false then
        ({ c with warmTime := time, warm := true }, [.alr (.condition 3 true), post 10 (u8 1 ++ tempField (some t))])
      else ({ c with warmTime := time }, [])
    else if t ≤ p.setpoint + p.band.tdiv 2 ∧ c.warm = true then
      ({ c with warmTime := 0, warm := false }, [.alr (.condition 3 false), post 10 (u8 0 ++ tempField (some t))])
    else ({ c with warmTime := 0 }, [])

theorem warmWatch_eq (dt : Nat) (t : Option Int) (c : Clr) : warmWatch c dt t = warmWatched c.settings dt t c := by
  cases t with
  | none => rfl
  | some t =>
    unfold warmWatch warmWatched
    dsimp only
    split
    · rfl
    · next hd =>
      split
      · have full : 1800 ≤ satAdd 1800 c.warmTime dt ↔ min 1800 (c.warmTime + dt) = 1800 := by
          unfold satAdd
          omega
        simp only [raiseWarm, full, hd, ne_eq, not_false_eq_true, and_true]
        rfl
      · rfl

/-- CLR at a measurement before the warm watch (R85, R97). -/
def measuredCooler (cabinet : Option Int) (s : State) : Clr × List Msg :=
  let read := cabinetReading s.clr cabinet
  if s.clr.blind = read.blind then conclude s s.clr read .thermostat
  else concludeBlind s s.clr (driveSpeed read s.rcl.quiet)

theorem measuredCooler_settings (cabinet : Option Int) (s : State) :
    (measuredCooler cabinet s).1.settings = s.clr.settings := by
  unfold measuredCooler
  dsimp only
  split <;> simp

/-- A measurement at CLR: the call, the close, then the warm watch with the settings, which none of them changes. -/
theorem coolerMeasured_eq (dt : Nat) (cabinet : Option Int) (s : State) :
    coolerMeasured dt cabinet s =
      ((warmWatched s.clr.settings dt cabinet (measuredCooler cabinet s).1).1,
        callRise s.clr (cabinetReading s.clr cabinet) ++ (measuredCooler cabinet s).2 ++
          (warmWatched s.clr.settings dt cabinet (measuredCooler cabinet s).1).2) := by
  rw [← measuredCooler_settings cabinet s, ← warmWatch_eq]
  rfl

end Marks

/-- Settles O28: each mark by whether it is due and by the state; a measurement step by step; COMP_FAULT by its level and the
state. -/
theorem coolerMarksAndFaults : Obligations.CoolerMarksAndFaults := by
  refine ⟨?_, ?_, ?_⟩
  · intro s c q shed quietDue run blindDue ring minute
    have idle_minute (hs : c.minute ≠ 0) : clrHandle .minuteExpiry (fresh s) = (s.clr, []) := if_neg hs
    refine ⟨fun hd hn => ?_, fun hd hz hm => ?_, fun hd => ?_, fun hs ht => ?_, fun hn => ?_, fun hb hd hm => ?_,
      exec_blindRunEnd, fun hb => ?_, fun h0 hr hi hw hsh => ?_, fun h0 hs => ?_, fun h0 hs hd hz he hc => ?_, exec_minuteExpiry, fun h0 => ?_,
      fun ht hw hs => ?_, fun hn => ?_⟩
    · obtain ⟨hq, hs, hdue⟩ := id hd
      exact exec_quietRunEnd_closed (quietRunEndDue_iff.mpr hd) (coolerClosed_quiet hs hn ⟨hq, hdue⟩)
    · obtain ⟨hq, hs, hdue⟩ := id hd
      exact exec_quietRunEnd_closed (quietRunEndDue_iff.mpr hd) (coolerClosed_shed hs hz hm)
    · exact exec_coolerExpiry_idle rfl (clrHandle_quietRunEnd _) (mt quietRunEndDue_iff.mp hd)
    · exact exec_quiet (m := .clr .stallClear) rfl (deliver_clr_of (congrArg (·, []) (if_pos ⟨hs, ht⟩)))
    · refine exec_clr_idle (e := .stallClear) rfl (congrArg (·, []) (if_neg fun h => ?_))
      exact hn.elim (absurd h.1) fun hlt => absurd h.2 (not_le.mpr hlt)
    · rw [exec_blindRunEnd hb]
      have hq : ¬c.QuietDue q := fun h => hd ⟨h.1, hb.2.1, h.2⟩
      have calls : coolerCalls c = false := coolerCalls_blindRun hb
      exact congrArg _ (coolerEnds_of (s := fresh s) (coolerClosed_stops hb.2.1 hq (.inr (.inr calls)) hm))
    · exact exec_coolerExpiry_idle rfl (clrHandle_blindRunEnd _) (mt blindRunEndDue_iff.mp hb)
    · refine exec_minuteExpiry_closed h0 (coolerClosed_waiting (c := s.clr.minuteTaken) ?_)
      show c.state = .pause ∨ c.state = .backoff ∨ c.state = .disabled ∨ c.state = .faulted
      cases hst : c.state <;> simp_all
    · exact exec_minuteExpiry_closed h0 (coolerClosed_resting (c := s.clr.minuteTaken) hs)
    · have hq : ¬s.clr.minuteTaken.QuietDue q := fun h => hd ⟨h.1, hs, h.2⟩
      refine exec_minuteExpiry_closed h0 (coolerClosed_runs (c := s.clr.minuteTaken) hs hq ?_)
      rintro (h | h | h)
      · exact hz h
      · exact absurd (he.symm.trans h) nofun
      · exact absurd (hc.symm.trans h) nofun
    · exact exec_clr_idle (e := .minuteExpiry) rfl (idle_minute h0)
    · exact exec_clr (e := .warmRaise) rfl (if_pos ⟨ht, hw, hs⟩)
    · refine exec_clr_idle (e := .warmRaise) rfl (if_neg fun h => ?_)
      rcases hn with hn | hn | hn
      · exact absurd h.1 (not_le.mpr hn)
      · exact absurd (hn.symm.trans h.2.1) nofun
      · exact h.2.2 hn
  · intro dt cabinet s c q setpoint effective half read wake done watched
    have read_eq : cabinetReading c cabinet = read := by
      cases cabinet with
      | none => rfl
      | some t => simp only [cabinetReading, nextCall_eq]; rfl
    have done_eq : measuredCooler cabinet s = done := by
      unfold measuredCooler
      dsimp only
      rw [read_eq, conclude_eq, concludeBlind_eq, driveSpeed_eq]
      rfl
    refine deliver_clr_of ((coolerMeasured_eq dt cabinet s).trans ?_)
    rw [callRise_cabinetReading, read_eq, done_eq]
    rfl
  · intro b s c
    refine ⟨fun h => ?_, fun hn hb hs => ?_, fun hn h => ?_⟩
    · exact exec_clr_idle (e := .compFault b) rfl (compFaultEvent_same h)
    · exact exec_clr_next (e := .compFault b) rfl (compFaultEvent_stall (s := fresh s) hn hb hs)
    · exact exec_quiet (m := .clr (.compFault b)) rfl (deliver_clr_of (compFaultEvent_held hn h))

end Sys2Proof.Machine

/-! O29: COOL_SET and the schedule's actions at CLR (R98, R99). -/

namespace Sys2Proof.Machine

section Settings

variable {x : CoolArgs} {p : CoolSettings} {c : Clr} {q : Bool} {s : State}

/-! ### The ranges and the clamps (R98) -/

theorem coolInRange_iff (x : CoolArgs) :
    coolInRange x = true ↔
      x.enable ≤ 1 ∧ (x.qPause = 0 ∨ x.qPause = 300 ∨ x.qPause = 600 ∨ x.qPause = 1200) ∧ x.currents.length = 3 ∧
        (∀ i ∈ x.currents, 1 ≤ i ∧ i ≤ 3000) ∧ x.currents.Pairwise (· ≤ ·) := by
  simp [coolInRange, currentsOk, intIn, nonDecreasing_iff, and_assoc]

theorem coolExact_iff (x : CoolArgs) :
    coolExact x = true ↔
      (clampCool x).setpoint = x.setpoint ∧ (clampCool x).band = x.band ∧ (clampCool x).hostMax = x.hostMax ∧
        (clampCool x).offset = x.offset ∧ (clampCool x).qRun = x.qRun := by
  simp [coolExact, and_assoc]

/-- The clamped settings in the words of the statements. -/
theorem clampCool_eq (x : CoolArgs) :
    clampCool x =
      { enable := decide (x.enable = 1), setpoint := clampInt (-200) 100 x.setpoint, band := clampInt 10 60 x.band
        hostMax := clampNat 1 3 x.hostMax, offset := clampInt 0 50 x.offset, qRun := clampNat 300 1800 x.qRun
        qPause := x.qPause, currents := x.currents } := by
  have enable : (x.enable == 1) = decide (x.enable = 1) := by
    rw [Bool.eq_iff_iff, beq_iff_eq, decide_eq_true_eq]
  rw [clampCool, enable]

/-! ### New settings by the state (R98) -/

/-- Settling overwrites the state and reads it only to tell a run (R88). -/
theorem coolerSettled_idle (hs : c.state ≠ .running) : coolerSettled { c with state := .idle } q = coolerSettled c q := by
  have calls : coolerCalls { c with state := .idle } = coolerCalls c := by
    have off : (c.state != .running) = (CoolerState.idle != .running) := bne_iff_ne.mpr hs
    simp only [coolerCalls, off]
  unfold coolerSettled
  rw [calls]
  rfl

/-- CLR with new settings that wake it: a state that they end is left for IDLE (R98). -/
def Clr.woken (c : Clr) (p : CoolSettings) : Clr :=
  { c with
    settings := p
    state := .idle
    stalls := if c.state = .faulted then 0 else c.stalls
    pause := if c.state = .pause ∨ c.state = .backoff then none else c.pause
    backoff := if c.state = .pause ∨ c.state = .backoff then none else c.backoff }

/-- The states that new settings make a cooler at rest of (R98). -/
def Clr.Wakes (c : Clr) (p : CoolSettings) : Prop :=
  c.state = .idle ∨ c.state = .waitOff ∨ c.state = .shed ∨ (c.state = .disabled ∧ p.enable = true) ∨
    c.state = .faulted ∨ ((c.state = .pause ∨ c.state = .backoff) ∧ p.enable = false)

/-- CLR with new settings before the close (R98). -/
def Clr.acted (c : Clr) (p : CoolSettings) : Clr := actEnable { c with settings := p }

theorem coolerSet_eq (p : CoolSettings) (r : Nat) (s : State) :
    coolerSet s p r =
      coolerChanged s s.clr (coolerClosed (coolerDriven (s.clr.acted p) s.rcl.quiet) s.rcl.quiet r).1
        (coolerClosed (coolerDriven (s.clr.acted p) s.rcl.quiet) s.rcl.quiet r).2 := by
  rw [Clr.acted, actEnable_eq]
  rfl

theorem Clr.Wakes.not_running (h : c.Wakes p) : c.state ≠ .running := by
  rcases h with h | h | h | ⟨h, -⟩ | h | ⟨h | h, -⟩ <;> simp [h]

theorem acted_of_resting (hs : c.state = .idle ∨ c.state = .waitOff ∨ c.state = .shed) :
    c.acted p = { c with settings := p } := by
  unfold Clr.acted actEnable
  rcases hs with hs | hs | hs <;> simp only [hs]

theorem woken_of_resting (hs : c.state = .idle ∨ c.state = .waitOff ∨ c.state = .shed) :
    c.woken p = { c with settings := p, state := .idle } := by
  rcases hs with hs | hs | hs <;> simp [Clr.woken, hs]

theorem acted_of_left (hs : (c.state = .disabled ∧ p.enable = true) ∨ c.state = .faulted ∨
    ((c.state = .pause ∨ c.state = .backoff) ∧ p.enable = false)) : c.acted p = c.woken p := by
  unfold Clr.acted actEnable Clr.woken
  rcases hs with ⟨hs, he⟩ | hs | ⟨hs | hs, he⟩ <;> simp [*]

theorem acted_of_kept (hs : (c.state = .disabled ∧ p.enable = false) ∨
    ((c.state = .pause ∨ c.state = .backoff) ∧ p.enable = true)) : c.acted p = { c with settings := p } := by
  unfold Clr.acted actEnable
  rcases hs with ⟨hs, he⟩ | ⟨hs | hs, he⟩ <;> simp [*]

/-- A cooler that new settings wake settles. -/
theorem coolerClosed_woken {r : Nat} (h : c.Wakes p) :
    coolerClosed (coolerDriven (c.acted p) q) q r = (coolerSettled (c.woken p) q, r) := by
  have resting (hs : c.state = .idle ∨ c.state = .waitOff ∨ c.state = .shed) :
      coolerClosed (coolerDriven (c.acted p) q) q r = (coolerSettled (c.woken p) q, r) := by
    rw [acted_of_resting hs, woken_of_resting hs, coolerDriven_of_not_running (c := { c with settings := p }) h.not_running,
      coolerClosed_resting (c := { c with settings := p }) hs,
      ← coolerSettled_idle (c := { c with settings := p }) h.not_running]
  have left (hs : (c.state = .disabled ∧ p.enable = true) ∨ c.state = .faulted ∨
      ((c.state = .pause ∨ c.state = .backoff) ∧ p.enable = false)) :
      coolerClosed (coolerDriven (c.acted p) q) q r = (coolerSettled (c.woken p) q, r) := by
    rw [acted_of_left hs, coolerDriven_of_not_running (by simp [Clr.woken]), coolerClosed_resting (.inl rfl)]
  rcases h with h | h | h | h
  · exact resting (.inl h)
  · exact resting (.inr (.inl h))
  · exact resting (.inr (.inr h))
  · exact left h

/-- In any other state but RUNNING the settings are only held. -/
theorem coolerClosed_unwoken {r : Nat} (h : ¬c.Wakes p) (hs : c.state ≠ .running) :
    coolerClosed (coolerDriven (c.acted p) q) q r = ({ c with settings := p }, r) := by
  have kept : (c.state = .disabled ∧ p.enable = false) ∨ ((c.state = .pause ∨ c.state = .backoff) ∧ p.enable = true) := by
    simp only [Clr.Wakes, not_or, not_and, Bool.not_eq_true, Bool.not_eq_false] at h
    obtain ⟨hidle, hwait, hshed, hdisabled, hfaulted, hleft⟩ := h
    cases hst : c.state with
    | disabled => exact .inl ⟨rfl, hdisabled hst⟩
    | pause => exact .inr ⟨.inl rfl, hleft (.inl hst)⟩
    | backoff => exact .inr ⟨.inr rfl, hleft (.inr hst)⟩
    | idle => exact absurd hst hidle
    | waitOff => exact absurd hst hwait
    | shed => exact absurd hst hshed
    | faulted => exact absurd hst hfaulted
    | running => exact absurd hst hs
  have waiting : c.state = .pause ∨ c.state = .backoff ∨ c.state = .disabled ∨ c.state = .faulted := by
    rcases kept with ⟨hd, -⟩ | ⟨hp | hb, -⟩ <;> simp [*]
  rw [acted_of_kept kept, coolerDriven_of_not_running (c := { c with settings := p }) hs,
    coolerClosed_waiting (c := { c with settings := p }) waiting]

@[simp] theorem coolerSettled_faultPin (c : Clr) (q : Bool) : (coolerSettled c q).faultPin = c.faultPin := by
  unfold coolerSettled
  repeat' split
  all_goals rfl

/-- A change that is no start with COMP_FAULT asserted is handed on as it is (R92). -/
theorem coolerChanged_of_no_stall {o n : Clr} (r : Nat) (h : ¬(n.state = .running ∧ n.faultPin = true)) :
    coolerChanged s o n r = (coolerKept o n s.rcl.quiet, coolerFollows s o n r) := if_neg fun x => h x.2

theorem coolerSet_woken (r : Nat) (h : s.clr.Wakes p)
    (hn : ¬((coolerSettled (s.clr.woken p) s.rcl.quiet).state = .running ∧ s.clr.faultPin = true)) :
    coolerSet s p r =
      (coolerKept s.clr (coolerSettled (s.clr.woken p) s.rcl.quiet) s.rcl.quiet,
        coolerFollows s s.clr (coolerSettled (s.clr.woken p) s.rcl.quiet) r) := by
  rw [coolerSet_eq, coolerClosed_woken h]
  exact coolerChanged_of_no_stall r (by rwa [coolerSettled_faultPin])

theorem coolerSet_unwoken (r : Nat) (h : ¬s.clr.Wakes p) (hs : s.clr.state ≠ .running) :
    coolerSet s p r =
      (coolerKept s.clr { s.clr with settings := p } s.rcl.quiet,
        coolerFollows s s.clr { s.clr with settings := p } r) := by
  rw [coolerSet_eq, coolerClosed_unwoken h hs]
  exact coolerChanged_of_no_stall r fun x => hs x.1

/-! ### COOL_SET as a request (R98) -/

variable {tag : Byte}

/-- A request that CLR answers with `body` and hands `ms` on. -/
theorem exec_clrRequest {i : Instr} {k : Byte} {r : Request} {e : ClrEv} {st : Status} {body : List Byte} {ms : List Msg}
    (hi : requestOf i = some (tag, r)) (hk : BitVec.ofNat 8 (r.code + 128) = k) (hs : HasSlot s)
    (ht : serviceTier r.code = true → s.lnk.service = true) (ho : r.owner = some (.clr e))
    (he : clrHandle e (dispatched k tag s) = (c, answer st body :: ms)) :
    exec i s = .next (finish ms (answered k tag st.code body { dispatched k tag s with clr := c })) := by
  rw [exec_requestOf hi]
  exact congrArg _ (request_finish hk hs ht ho rfl (deliver_clr_of he) rfl)

theorem exec_coolSet_refused (slot : HasSlot s) (hr : ¬coolInRange x = true) :
    exec (.coolSet tag x) s = .next (finish [] (answered 0x86#8 tag 3 [] (dispatched 0x86#8 tag s))) :=
  exec_clrRequest (e := .set x) (st := .range) rfl rfl slot nofun rfl (if_neg hr)

/-- COOL_SET in range: OK, or CLAMPED with the applied settings. -/
theorem exec_coolSet (slot : HasSlot s) (hr : coolInRange x = true) :
    exec (.coolSet tag x) s =
      .next (finish (coolerSet (dispatched 0x86#8 tag s) (clampCool x) 7).2
        (answered 0x86#8 tag (if coolExact x = true then 0 else 2)
          (if coolExact x = true then [] else coolBytes (clampCool x))
          { dispatched 0x86#8 tag s with clr := (coolerSet (dispatched 0x86#8 tag s) (clampCool x) 7).1 })) := by
  have taken (u : State) : coolSet x u =
      ((coolerSet u (clampCool x) 7).1,
        (if coolExact x then answer .ok [] else answer .clamped (coolBytes (clampCool x))) ::
          (coolerSet u (clampCool x) 7).2) := by
    rw [coolSet, if_pos hr, applyCool_eq]
    rfl
  by_cases he : coolExact x = true
  · simp only [he, if_true] at taken ⊢
    exact exec_clrRequest (e := .set x) (st := .ok) rfl rfl slot nofun rfl (taken _)
  · simp only [he] at taken ⊢
    exact exec_clrRequest (e := .set x) (st := .clamped) rfl rfl slot nofun rfl (taken _)

/-! ### The schedule's actions (R99) -/

theorem coolSetpoint_eq (param : Option Int) (p : CoolSettings) :
    coolSetpoint param p = match param with
      | none => p
      | some x => { p with setpoint := if x < -200 then -200 else if 100 < x then 100 else x } := by
  cases param <;> rfl

theorem coolerAction_enable (param : Option Int) (hs : s.clr.state ≠ .faulted) :
    coolerAction .coolEnable param s =
      ((coolerSet s { coolSetpoint param s.clr.settings with enable := true } 8).1,
        (coolerSet s { coolSetpoint param s.clr.settings with enable := true } 8).2 ++ [.sch (.answer none)]) := by
  unfold coolerAction
  dsimp only
  rw [if_neg hs, applyCool_eq]
  rfl

theorem coolerAction_enable_faulted (param : Option Int) (hs : s.clr.state = .faulted) :
    coolerAction .coolEnable param s =
      ({ s.clr with settings := coolSetpoint param s.clr.settings }, [.sch (.answer (some .state))]) := if_pos hs

theorem coolerAction_disable (param : Option Int) :
    coolerAction .coolDisable param s =
      ((coolerSet s { s.clr.settings with enable := false } 8).1,
        (coolerSet s { s.clr.settings with enable := false } 8).2 ++ [.sch (.answer none)]) := by
  unfold coolerAction
  dsimp only
  rw [applyCool_eq]
  rfl

end Settings

/-- Settles O29: COOL_SET by its range and the state it finds, and each action by whether it is refused. -/
theorem coolSetAppliesTheSettings : Obligations.CoolSetAppliesTheSettings := by
  refine ⟨?_, ?_⟩
  · intro tag x s slot u between betweenNat p ok exact status body c rest set woken settled
    have clamped : clampCool x = p := clampCool_eq x
    have status_eq : (if coolExact x = true then 0 else 2) = status :=
      if_congr ((coolExact_iff x).trans (by rw [clamped])) rfl rfl
    have body_eq : (if coolExact x = true then [] else coolBytes (clampCool x)) = body :=
      if_congr ((coolExact_iff x).trans (by rw [clamped])) rfl (congrArg coolBytes clamped)
    have applied (h : ok) : exec (.coolSet tag x) s =
        .next (finish (coolerSet u p 7).2 (answered 0x86#8 tag status body { u with clr := (coolerSet u p 7).1 })) := by
      rw [exec_coolSet slot ((coolInRange_iff x).mpr h), status_eq, body_eq, clamped]
    refine ⟨fun h => ?_, fun h hrest hn => ?_, fun h hrest hs => ?_, applied⟩
    · exact exec_coolSet_refused slot (mt (coolInRange_iff x).mp h)
    · rw [applied h, coolerSet_woken (s := u) 7 hrest hn]
      rfl
    · rw [applied h, coolerSet_unwoken (s := u) 7 hrest hs]
      rfl
  · intro param s c p result
    have carried : coolSetpoint param c.settings = p := coolSetpoint_eq param c.settings
    refine ⟨fun hs => ?_, fun hs => ?_, deliver_clr_of (coolerAction_disable param), fun hs => ?_, fun hf hd => ?_⟩
    · exact deliver_clr_of (carried ▸ coolerAction_enable_faulted param hs)
    · exact deliver_clr_of (carried ▸ coolerAction_enable param hs)
    · exact deliver_clr_of (if_pos hs)
    · exact deliver_clr_of (if_neg fun h => h.elim hf hd)

end Sys2Proof.Machine

/-! LGT in the words of the statements, for O30 to O33 and O39: the close of an event, a command, a request and a delivery at LGT,
target and hold mode writes, and recalls (R102 to R108, R113, R114, R123). -/

namespace Sys2Proof.Machine

section Lights

variable {l : Lgt} {s : State} {k : Nat}

/-! ### The close of an event (R105, R107, R108, R123) -/

theorem msgsIf_bne {α : Type} [BEq α] [LawfulBEq α] [DecidableEq α] (a b : α) (ms : List Msg) :
    msgsIf (a != b) ms = if a = b then [] else ms := by
  by_cases h : a = b
  · rw [h, if_pos rfl, bne_self_eq_false]
    rfl
  · rw [if_neg h, bne_iff_ne.mpr h]
    rfl

theorem isSafety_iff (k : Nat) : isSafety k = true ↔ k = 4 ∨ k = 5 := by
  simp [isSafety]

/-- R105. -/
theorem grantCap_eq (l : Lgt) :
    grantCap l = match l.cabGrant.getD 0 with
      | 0 => 0
      | 1 => 300
      | 2 => 600
      | _ => 1000 := by
  unfold grantCap
  match l.cabGrant with
  | none | some 0 | some 1 | some 2 | some (_ + 3) => rfl

/-- R105: the quiet light limit is a limit on the cap of a flash. -/
theorem channelCap_eq (l : Lgt) (q : Bool) (k : Nat) :
    channelCap l q k = if q = true ∧ k ≠ 4 ∧ k ≠ 5 then min (flashCap l k) l.quietLight else flashCap l k := by
  by_cases hk : k = 4 ∨ k = 5
  · have safety := (isSafety_iff k).mpr hk
    rw [if_neg (by omega), channelCap, flashCap, if_pos safety, if_pos safety]
  · have cab := mt (isSafety_iff k).mp hk
    rw [channelCap, flashCap, if_neg cab, if_neg cab]
    exact if_congr (iff_self_and.mpr fun _ => not_or.mp hk) rfl rfl

/-- R105, R118: the output of a channel. -/
theorem channelOutput_eq (l : Lgt) (q : Bool) (k : Nat) (c : Channel) : channelOutput l q k c = lightOutput l q k c := by
  unfold channelOutput lightOutput
  simp only [channelCap_eq, flashCap, grantCap_eq, safetyCap, isSafety_iff]
  rfl

/-- Driving the outputs changes nothing but the outputs. -/
theorem driveLights_channel (l : Lgt) (q : Bool) (k : Nat) :
    ∃ x, (driveLights l q).channel k = { l.channel k with output := x } := by
  simp only [driveLights, Lgt.channel, List.getD_eq_getElem?_getD, List.getElem?_map, List.getElem?_zipIdx]
  cases l.channels[k]? with
  | none => exact ⟨_, rfl⟩
  | some c => exact ⟨_, rfl⟩

theorem standingTarget_driveLights (l : Lgt) (q : Bool) (k : Nat) : standingTarget (driveLights l q) k = standingTarget l k := by
  obtain ⟨x, hx⟩ := driveLights_channel l q k
  simp only [standingTarget, flashFrame, hx]
  rfl

theorem cabDemand_eq (l : Lgt) : cabDemand l = cabWants l := by
  simp only [cabDemand, cabWants, lightsWant, List.map_cons, List.map_nil, Nat.mul_div_cancel _ (by decide : 0 < 1000)]
  rfl

theorem safetyDemand_eq (l : Lgt) : safetyDemand l = safetyWants l := by
  simp only [safetyDemand, safetyWants, lightsWant, List.map_cons, List.map_nil, Nat.mul_div_cancel _ (by decide : 0 < 1000)]
  rfl

theorem lightsWant_driveLights (l : Lgt) (q : Bool) (ks parts : List Nat) :
    lightsWant (driveLights l q) ks parts = lightsWant l ks parts := by
  simp only [lightsWant, standingTarget_driveLights]
  rfl

theorem lightsDark_eq (l : Lgt) : lightsDark l = allDark l := by
  have dark (c : Channel) : c.dark = decide (c.fine = 0 ∧ c.steps = 0 ∧ c.flash = none) := by
    rw [Bool.eq_iff_iff]
    simp [Channel.dark, and_assoc]
  exact congrArg l.channels.all (funext dark)

theorem lightsDark_driveLights (l : Lgt) (q : Bool) : lightsDark (driveLights l q) = lightsDark l := by
  have map : (driveLights l q).channels.all Channel.dark = (l.channels.zipIdx.map Prod.fst).all Channel.dark := by
    rw [driveLights, List.all_map, List.all_map]
    rfl
  exact map.trans (by rw [List.zipIdx_map_fst]; rfl)

/-- R105, R108, R123: the close of an event leaves LGT and hands on as the statements say. -/
theorem concludeLights_eq (s : State) (before l : Lgt) :
    concludeLights s before l = (lightsKept l s.rcl.quiet, lightsFollow before l) := by
  have cab : cabDemand (driveLights l s.rcl.quiet) = cabWants l := (cabDemand_eq _).trans (lightsWant_driveLights ..)
  have safety : safetyDemand (driveLights l s.rcl.quiet) = safetyWants l :=
    (safetyDemand_eq _).trans (lightsWant_driveLights ..)
  have kept : { driveLights l s.rcl.quiet with postedCab := cabWants l, postedSafety := safetyWants l } =
      lightsKept l s.rcl.quiet := by
    simp only [driveLights, lightsKept, channelOutput_eq]
  have dark : lightsDark (driveLights l s.rcl.quiet) = allDark l := (lightsDark_driveLights ..).trans (lightsDark_eq l)
  simp only [concludeLights, cab, safety, kept, dark, lightsDark_eq before, msgsIf_bne]
  rfl

/-! ### A delivery, a command and a request at LGT -/

theorem withoutAnswer_eq (s : State) (l : Lgt) (ms : List Msg) :
    withoutAnswer s l ms = (lightsKept l s.rcl.quiet, ms ++ lightsFollow s.lgt l) := by
  rw [withoutAnswer, concludeLights_eq]

theorem deliver_lgt_of {e : LgtEv} {ms : List Msg} (he : lgtHandle e s = (l, ms)) :
    deliver (.lgt e) s = ({ s with lgt := l }, ms) := by
  rw [deliver_lgt, he]

/-- An event that takes LGT to `l`, handing `ms` on first. -/
theorem deliver_lgt_lit {e : LgtEv} {ms : List Msg} (he : lgtHandle e s = withoutAnswer s l ms) :
    deliver (.lgt e) s = ({ s with lgt := lightsKept l s.rcl.quiet }, ms ++ lightsFollow s.lgt l) :=
  deliver_lgt_of (he.trans (withoutAnswer_eq s l ms))

/-- A command whose event takes LGT to `l`, handing `ms` on first. -/
theorem exec_lgt_next {i : Instr} {e : LgtEv} {ms : List Msg} (hi : exec i s = .next (event (.lgt e) s))
    (he : lgtHandle e (fresh s) = withoutAnswer (fresh s) l ms) : exec i s = .next (lightsNext (fresh s) l ms) :=
  exec_settle hi (deliver_lgt_lit he)

/-- A command that brings LGT an event that does nothing there: only the event counter advances. -/
theorem exec_lgt_idle {i : Instr} {e : LgtEv} (hi : exec i s = .next (event (.lgt e) s))
    (he : lgtHandle e (fresh s) = (s.lgt, [])) : exec i s = .next (fresh s) :=
  exec_quiet hi (deliver_lgt_of he)

/-- A request that LGT answers with `body` and hands `ms` on. -/
theorem exec_lgtRequest {i : Instr} {tag kind : Byte} {r : Request} {e : LgtEv} {st : Status} {body : List Byte} {ms : List Msg}
    (hi : requestOf i = some (tag, r)) (hk : BitVec.ofNat 8 (r.code + 128) = kind) (hs : HasSlot s)
    (ht : serviceTier r.code = false) (ho : r.owner = some (.lgt e))
    (he : lgtHandle e (dispatched kind tag s) = (l, answer st body :: ms)) :
    exec i s = .next (finish ms (answered kind tag st.code body { dispatched kind tag s with lgt := l })) := by
  rw [exec_requestOf hi]
  exact congrArg _ (request_finish hk hs (fun h => by simp [ht] at h) ho rfl (deliver_lgt_of he) rfl)

/-- A request that takes LGT to `l`, handing `ms` on first. -/
theorem exec_lgtRequest_lit {i : Instr} {tag kind : Byte} {r : Request} {e : LgtEv} {st : Status} {body : List Byte}
    {ms : List Msg} (hi : requestOf i = some (tag, r)) (hk : BitVec.ofNat 8 (r.code + 128) = kind) (hs : HasSlot s)
    (ht : serviceTier r.code = false) (ho : r.owner = some (.lgt e))
    (he : lgtHandle e (dispatched kind tag s) = withAnswer (dispatched kind tag s) l ms (answer st body)) :
    exec i s = .next (finish (ms ++ lightsFollow s.lgt l)
      (answered kind tag st.code body { dispatched kind tag s with lgt := lightsKept l s.rcl.quiet })) :=
  exec_lgtRequest hi hk hs ht ho (he.trans (by rw [withAnswer, concludeLights_eq]; rfl))

/-- A request that takes LGT to `l` and hands nothing of its own on. -/
theorem exec_lgtRequest_follows {i : Instr} {tag kind : Byte} {r : Request} {e : LgtEv} {st : Status} {body : List Byte}
    (hi : requestOf i = some (tag, r)) (hk : BitVec.ofNat 8 (r.code + 128) = kind) (hs : HasSlot s)
    (ht : serviceTier r.code = false) (ho : r.owner = some (.lgt e))
    (he : lgtHandle e (dispatched kind tag s) = withAnswer (dispatched kind tag s) l [] (answer st body)) :
    exec i s = .next (finish (lightsFollow s.lgt l)
      (answered kind tag st.code body { dispatched kind tag s with lgt := lightsKept l s.rcl.quiet })) :=
  exec_lgtRequest_lit (ms := []) hi hk hs ht ho he

/-! ### Standing values and writes (R103, R109, R114) -/

theorem modifyAt_eq_set {α : Type} (f : α → α) {n : Nat} {xs : List α} (d : α) (h : n < xs.length) :
    modifyAt f n xs = xs.set n (f (xs.getD n d)) := by
  rw [modifyAt, List.modify_eq_set_get f h, List.getD_eq_getElem?_getD, List.getElem?_eq_getElem h]
  rfl

theorem flashFrame_of_none (h : (l.channel k).flash = none) : flashFrame l k = none :=
  if_neg (by simp [h])

theorem flashFrame_of_flash (h : (l.channel k).flash ≠ none) : flashFrame l k = l.stack.find? (Frame.isFlashOn k) :=
  if_pos (Option.isSome_iff_ne_none.mpr h)

theorem standing_of_none (h : (l.channel k).flash = none) :
    standingTarget l k = (l.channel k).target ∧ standingHeld l k = (l.channel k).held := by
  simp only [standingTarget, standingHeld, flashFrame_of_none h, and_self]

theorem standing_of_flash {f : Frame} (h : (l.channel k).flash ≠ none) (hf : l.stack.find? (Frame.isFlashOn k) = some f) :
    standingTarget l k = f.targets.getD k 0 ∧ standingHeld l k = f.helds.getD k false := by
  simp only [standingTarget, standingHeld, flashFrame_of_flash h, hf, and_self]

theorem fadeSteps_eq (fade : Nat) : fadeSteps fade = if fade = 0 then 1 else 5 * fade := by
  rw [fadeSteps, Nat.mul_comm]

theorem writeTarget_of_none (target fade : Nat) (hk : k < l.channels.length) (h : (l.channel k).flash = none) :
    writeTarget k target fade l =
      { l with
        channels := l.channels.set k { l.channel k with target := target, steps := if fade = 0 then 1 else 5 * fade } } := by
  rw [writeTarget, if_neg (by simp [h]), modifyAt_eq_set _ restingChannel hk, fadeSteps_eq]
  rfl

theorem writeHeld_of_none (held : Bool) (hk : k < l.channels.length) (h : (l.channel k).flash = none) :
    writeHeld k held l = { l with channels := l.channels.set k { l.channel k with held := held } } := by
  rw [writeHeld, if_neg (by simp [h]), modifyAt_eq_set _ restingChannel hk]
  rfl

theorem modifyFrame_eq (f : Frame → Frame) (k : Nat) (l : Lgt) :
    modifyFrame f k l = { l with stack := l.stack.map fun x => if x.owner = .flash k then f x else x } := by
  simp only [modifyFrame, Frame.isFlashOn, beq_iff_eq]

theorem writeTarget_of_flash (target fade : Nat) (h : (l.channel k).flash ≠ none) :
    writeTarget k target fade l =
      { l with
        stack := l.stack.map fun x => if x.owner = .flash k then { x with targets := x.targets.set k target } else x } := by
  rw [writeTarget, if_pos (Option.isSome_iff_ne_none.mpr h), modifyFrame_eq]

theorem writeHeld_of_flash (held : Bool) (h : (l.channel k).flash ≠ none) :
    writeHeld k held l =
      { l with stack := l.stack.map fun x => if x.owner = .flash k then { x with helds := x.helds.set k held } else x } := by
  rw [writeHeld, if_pos (Option.isSome_iff_ne_none.mpr h), modifyFrame_eq]

/-! ### Recalls (R113) -/

/-- One item of a recall: its channel is written unless it is HELD. -/
def recallItem (l : Lgt) (i : SceneItem) : Lgt :=
  if standingHeld l i.channel then l else writeTarget i.channel i.level i.fade l

/-- One item of a recall, counted: the numbers written and left. -/
def recallCounted (r : Lgt × Nat × Nat) (i : SceneItem) : Lgt × Nat × Nat :=
  if standingHeld r.1 i.channel then (r.1, r.2.1, r.2.2 + 1)
  else (writeTarget i.channel i.level i.fade r.1, r.2.1 + 1, r.2.2)

theorem applyItems_fst (is : List SceneItem) (l : Lgt) : (applyItems is l).1 = is.foldl recallItem l := by
  induction is generalizing l with
  | nil => rfl
  | cons i is ih =>
    rw [applyItems, List.foldl_cons, ← ih, recallItem]
    split <;> rfl

theorem foldl_recallCounted (is : List SceneItem) (l : Lgt) (written left : Nat) :
    is.foldl recallCounted (l, written, left) =
      ((applyItems is l).1, (applyItems is l).2.1 + written, (applyItems is l).2.2 + left) := by
  induction is generalizing l written left with
  | nil => simp [applyItems]
  | cons i is ih =>
    rw [List.foldl_cons, applyItems, recallCounted]
    split <;> simp only [ih, Nat.add_assoc, Nat.add_comm 1]

theorem applyItems_eq (is : List SceneItem) (l : Lgt) : applyItems is l = is.foldl recallCounted (l, 0, 0) :=
  (foldl_recallCounted is l 0 0).symm

end Lights

end Sys2Proof.Machine

/-! O30: target and hold mode writes, LIGHT_SET and SCENE_RECALL (R103, R109, R110, R113, R114). -/

namespace Sys2Proof.Machine

section Requests

variable {s : State} {tag : Byte}

theorem lightInRange_iff (x : LightArgs) :
    lightInRange x = true ↔ x.kind ≤ 1 ∧ x.number ≤ (if x.kind = 0 then 7 else 3) ∧ x.target ≤ 1000 ∧ x.fade ≤ 36000 ∧
      x.hold ≤ 1 := by
  simp only [lightInRange, Bool.and_eq_true, decide_eq_true_eq, and_assoc]

/-- LIGHT_SET in range (R109). -/
theorem exec_lightSet {x : LightArgs} (slot : HasSlot s) (hr : lightInRange x = true) :
    exec (.lightSet tag x) s = .next (finish (lightsFollow s.lgt (lightWrites x s.lgt))
      (answered 0x87#8 tag 0 (u8 (lightMembers s.lgt x).length)
        { dispatched 0x87#8 tag s with lgt := lightsKept (lightWrites x s.lgt) s.rcl.quiet })) :=
  exec_lgtRequest_follows (e := .set x) (st := .ok) rfl rfl slot rfl rfl (if_pos hr)

theorem exec_lightSet_refused {x : LightArgs} (slot : HasSlot s) (hr : ¬lightInRange x = true) :
    exec (.lightSet tag x) s = .next (finish [] (answered 0x87#8 tag 3 [] (dispatched 0x87#8 tag s))) :=
  exec_lgtRequest (e := .set x) (st := .range) rfl rfl slot rfl rfl (if_neg hr)

/-- SCENE_RECALL of a scene that is not empty (R113). -/
theorem exec_sceneRecall {n : Nat} (slot : HasSlot s) (hn : n ≤ 11) (hi : s.lgt.scene n ≠ []) :
    exec (.sceneRecall tag n) s = .next (finish (lightsFollow s.lgt (applyItems (s.lgt.scene n) s.lgt).1)
      (answered 0x88#8 tag 0
        (u8 (applyItems (s.lgt.scene n) s.lgt).2.1 ++ u8 (applyItems (s.lgt.scene n) s.lgt).2.2)
        { dispatched 0x88#8 tag s with lgt := lightsKept (applyItems (s.lgt.scene n) s.lgt).1 s.rcl.quiet })) :=
  exec_lgtRequest_follows (e := .recall n) (st := .ok) rfl rfl slot rfl rfl
    ((if_neg (Nat.not_lt.mpr hn)).trans (if_neg hi))

end Requests

/-- Settles O30: a write by whether its channel flashes, then each request by its range and the scene it finds. -/
theorem lightWritesAndRecalls : Obligations.LightWritesAndRecalls := by
  refine ⟨?_, ?_⟩
  · intro k target fade l hk c frame
    refine ⟨fun held h => ?_, fun held h => ?_, fun h => ?_, fun f h hf => ?_⟩
    · exact writeHeld_of_none held hk h
    · exact writeHeld_of_flash held h
    · exact ⟨writeTarget_of_none target fade hk h, standing_of_none h⟩
    · exact ⟨writeTarget_of_flash target fade h, standing_of_flash h hf⟩
  · intro tag x n s slot l q ok members set items recalled u v
    have writes : lightWrites x l = set := rfl
    have recalls : applyItems (l.scene n) l = recalled := applyItems_eq items l
    refine ⟨fun h => ?_, fun h => ?_, fun h => ?_, fun h hi => ?_, fun h hi => ?_⟩
    · exact exec_lightSet_refused slot (mt (lightInRange_iff x).mp h)
    · exact writes ▸ exec_lightSet slot ((lightInRange_iff x).mpr h)
    · exact exec_lgtRequest (e := .recall n) (st := .range) rfl rfl slot rfl rfl (if_pos h)
    · exact exec_lgtRequest (e := .recall n) (st := .state) rfl rfl slot rfl rfl
        ((if_neg (Nat.not_lt.mpr h)).trans (if_pos hi))
    · exact recalls ▸ exec_sceneRecall slot h hi

end Sys2Proof.Machine

/-! O31: the steps of fades and flashes, the grants and the quiet flag at LGT, and flashes that start and end (R103 to R106, R115,
R117 to R119). -/

namespace Sys2Proof.Machine

section Steps

variable {l : Lgt} {s : State} {k : Nat}

/-! ### The steps of fades and flashes (R103, R104, R118) -/

/-- R103, R104: the statement's two ways to end a fade are one of the model's. -/
theorem fadeChannel_eq (c : Channel) :
    fadeChannel c = if c.steps = 0 ∨ c.flash.isSome = true then c
      else if c.steps = 1 then { c with fine := 1000 * c.target, steps := 0 }
      else if c.fine = 1000 * c.target then { c with steps := 0 }
      else { c with
        fine := ((c.fine : Int) + ((1000 * c.target : Int) - c.fine).tdiv c.steps).toNat, steps := c.steps - 1 } := by
  rw [fadeChannel]
  refine if_congr Iff.rfl rfl ?_
  by_cases last : c.steps = 1
  · rw [if_pos (.inl last), if_pos last]
  · by_cases there : c.fine = 1000 * c.target
    · rw [if_pos (.inr there), if_neg last, if_pos there, ← there]
    · rw [if_neg (not_or.mpr ⟨last, there⟩), if_neg last, if_neg there]

/-- R118. -/
theorem flashPhase_eq (f : Flash) :
    flashPhase f = if 2 ≤ f.left then { f with left := f.left - 1 }
      else { f with onPhase := !f.onPhase, left := if f.onPhase then f.offSteps else f.onSteps } := by
  unfold flashPhase
  cases f.onPhase <;> rfl

theorem flashChannel_eq (c : Channel) :
    flashChannel c = match c.flash with
      | none => c
      | some f =>
        if 2 ≤ f.left then { c with flash := some { f with left := f.left - 1 } }
        else { c with flash := some { f with
          onPhase := !f.onPhase, left := if f.onPhase then f.offSteps else f.onSteps } } := by
  obtain ⟨fine, target, steps, held, flash, output⟩ := c
  cases flash with
  | none => rfl
  | some f =>
    simp only [flashChannel, Option.map_some, flashPhase_eq]
    split <;> rfl

/-! ### Flashes that start and end (R115, R117, R119) -/

theorem pushFrame_room (o : FrameOwner) (h : l.stack.length < 4) :
    pushFrame o l = ({ l with stack := l.stack ++ [newFrame l o] }, []) := if_pos h

theorem pushFrame_full (o : FrameOwner) (h : 4 ≤ l.stack.length) :
    pushFrame o l = ({ l with stack := dropHost l.stack ++ [newFrame l o] },
      [post 29 (u8 o.code ++ u8 (dropHost l.stack ++ [newFrame l o]).length)]) := if_neg (Nat.not_lt.mpr h)

/-- The channels of `l` with a flash of the pattern begun on channel `k` (R117). -/
def flashBegun (k level on off : Nat) (l : Lgt) : List Channel :=
  l.channels.set k { l.channel k with flash := some ⟨level, on, off, true, on⟩ }

theorem startFlash_anew (level on off : Nat) {p : Lgt} {ms : List Msg} (hk : k < l.channels.length)
    (h : (l.channel k).flash = none) (hp : pushFrame (.flash k) l = (p, ms)) :
    startFlash k level on off l = ({ p with channels := flashBegun k level on off l }, ms ++ [.alr .flashAccepted]) := by
  have channels : p.channels = l.channels := by
    rw [← pushFrame_channels (.flash k) l, hp]
  simp only [startFlash, h, Option.isSome_none, Bool.false_eq_true, if_false, hp, channels,
    modifyAt_eq_set _ restingChannel hk]
  rfl

theorem startFlash_replaced (level on off : Nat) (hk : k < l.channels.length) (h : (l.channel k).flash ≠ none) :
    startFlash k level on off l = ({ l with channels := flashBegun k level on off l }, [.alr .flashAccepted]) := by
  simp only [startFlash, Option.isSome_iff_ne_none.mpr h, if_true, modifyAt_eq_set _ restingChannel hk]
  rfl

theorem cancelFlash_none (h : (l.channel k).flash = none) : cancelFlash k l = (l, []) :=
  if_pos (by simp [h])

/-- R119: the channel takes the standing values the frame held, and fades to the target over 1.0 s. -/
theorem cancelFlash_ends (hk : k < l.channels.length) (h : (l.channel k).flash ≠ none) :
    cancelFlash k l =
      ({ l with
          stack := l.stack.filter fun f => decide (f.owner ≠ .flash k)
          channels := l.channels.set k
            { l.channel k with flash := none, held := standingHeld l k, target := standingTarget l k, steps := 50 } },
        [.alr (.flashEnded k)]) := by
  have unflashed : modifyAt (fun c => { c with flash := none, held := standingHeld l k }) k l.channels =
      l.channels.set k { l.channel k with flash := none, held := standingHeld l k } := modifyAt_eq_set _ restingChannel hk
  have others : (l.stack.filter fun f => !f.isFlashOn k) = l.stack.filter fun f => decide (f.owner ≠ .flash k) :=
    congrArg (List.filter · l.stack) (funext fun f => by simp only [Frame.isFlashOn, ne_eq, decide_not]; rfl)
  have channel (stack : List Frame) (c : Channel) :
      Lgt.channel { l with stack := stack, channels := l.channels.set k c } k = c := by
    simp [Lgt.channel, hk]
  rw [cancelFlash, if_neg (by simp [h])]
  dsimp only
  rw [unflashed, others, writeTarget_of_none _ _ (by simpa using hk) (by rw [channel]), channel]
  simp only [List.set_set]
  rfl

theorem lgtHandle_flashStart {level on off : Nat} {p : Lgt} {ms : List Msg} (h : startFlash k level on off s.lgt = (p, ms)) :
    lgtHandle (.flashStart k level on off) s = withoutAnswer s p ms := by
  simp only [lgtHandle, h]

theorem lgtHandle_flashCancel {p : Lgt} {ms : List Msg} (h : cancelFlash k s.lgt = (p, ms)) :
    lgtHandle (.flashCancel k) s = withoutAnswer s p ms := by
  simp only [lgtHandle, h]

end Steps

/-- Settles O31: the two steps channel by channel, the grants and the quiet flag, and a flash by whether the channel has one and
the stack has room. -/
theorem lightStepsMoveEveryChannel : Obligations.LightStepsMoveEveryChannel := by
  refine ⟨?_, ?_, ?_⟩
  · intro s faded flashed
    have fades : { s.lgt with channels := s.lgt.channels.map fadeChannel } = faded :=
      congrArg (fun f => { s.lgt with channels := s.lgt.channels.map f }) (funext fadeChannel_eq)
    have flashes : { s.lgt with channels := s.lgt.channels.map flashChannel } = flashed :=
      congrArg (fun f => { s.lgt with channels := s.lgt.channels.map f }) (funext flashChannel_eq)
    exact ⟨fades ▸ exec_lgt_next (e := .fadeStep) rfl rfl, flashes ▸ exec_lgt_next (e := .flashStep) rfl rfl⟩
  · intro entry level budget s l lit
    exact ⟨deliver_lgt_lit (ms := []) rfl, fun h => deliver_lgt_lit (ms := []) (congrArg (withoutAnswer s · []) (if_neg h)),
      deliver_lgt_lit (ms := []) rfl⟩
  · intro k level on off s hk l c lit ks frame dropped flashing
    have started {p : Lgt} {ms : List Msg} (h : startFlash k level on off l = (p, ms)) :
        deliver (.lgt (.flashStart k level on off)) s = lit p ms := deliver_lgt_lit (lgtHandle_flashStart h)
    have cancelled {p : Lgt} {ms : List Msg} (h : cancelFlash k l = (p, ms)) :
        deliver (.lgt (.flashCancel k)) s = lit p ms := deliver_lgt_lit (lgtHandle_flashCancel h)
    refine ⟨fun h hl => ?_, fun h hl => ?_, fun h => ?_, fun h => ?_, fun h => ?_⟩
    · exact started (startFlash_anew level on off hk h (pushFrame_room (.flash k) hl))
    · exact started (startFlash_anew level on off hk h (pushFrame_full (.flash k) hl))
    · exact started (startFlash_replaced level on off hk h)
    · exact cancelled (cancelFlash_none h)
    · exact cancelled (cancelFlash_ends hk h)

end Sys2Proof.Machine

/-! O32: the door and the buttons (R120, R121). -/

namespace Sys2Proof.Machine

section Buttons

variable {s : State} {b : Button}

/-! ### The buttons (R121) -/

theorem standingTarget_setButton (l : Lgt) (b : Button) (x : ButtonState) (k : Nat) :
    standingTarget (l.setButton b x) k = standingTarget l k := by
  cases b <;> rfl

theorem down_iff (x : ButtonState) : x.down = true ↔ x ≠ .released := by
  cases x <;> simp [ButtonState.down]

/-- R121, log 24: the level held already. -/
theorem lgtHandle_button_same {pressed : Bool} (h : (s.lgt.button b).down = pressed) :
    lgtHandle (.button b pressed) s = (s.lgt, []) := if_pos h

theorem lgtHandle_button {pressed : Bool} (h : (s.lgt.button b).down ≠ pressed) :
    lgtHandle (.button b pressed) s = withoutAnswer s (buttonChanged b pressed s.lgt) [.chg .wake] := if_neg h

theorem buttonChanged_short {l : Lgt} (h : l.button b = .pressed) :
    buttonChanged b false l =
      writeTarget (buttonLight b) (if standingTarget l (buttonLight b) = 0 then 700 else 0) 5 (l.setButton b .released) := by
  rw [buttonChanged, if_neg Bool.false_ne_true, if_pos h, toggleLight, standingTarget_setButton]

theorem buttonChanged_released {l : Lgt} (h : l.button b ≠ .pressed) :
    buttonChanged b false l = l.setButton b .released := by
  rw [buttonChanged, if_neg Bool.false_ne_true, if_neg h]

theorem longPressed_idle {l : Lgt} (h : l.button b ≠ .pressed) : longPressed b l s = (l, []) := if_pos h

theorem longPressed_ack {l : Lgt} (h : l.button .btn1 = .pressed) (ho : s.alr.owner ≠ none) :
    longPressed .btn1 l s = (l.setButton .btn1 .longTaken, [.alr .buttonAck]) := by
  rw [longPressed, if_neg (not_not.mpr h)]
  exact if_pos (Option.isSome_iff_ne_none.mpr ho)

theorem longPressed_night {l : Lgt} (h : l.button .btn1 = .pressed) (ho : s.alr.owner = none) :
    longPressed .btn1 l s =
      (writeTarget 4 (if standingTarget l 4 = 0 then 150 else 0) 10 (l.setButton .btn1 .longTaken), []) := by
  rw [longPressed, if_neg (not_not.mpr h)]
  exact if_neg (by simp [ho])

theorem longPressed_recall {l : Lgt} (h : l.button .btn2 = .pressed) :
    longPressed .btn2 l s = ((l.scene 0).foldl recallItem (l.setButton .btn2 .longTaken), []) := by
  rw [longPressed, if_neg (not_not.mpr h), ← applyItems_fst]
  rfl

theorem lgtHandle_longPress {l : Lgt} {ms : List Msg} (h : longPressed b s.lgt s = (l, ms)) :
    lgtHandle (.longPress b) s = withoutAnswer s l ms := by
  simp only [lgtHandle, h]

/-- LONG_PRESS by what it does at LGT. -/
theorem exec_longPress {l : Lgt} {ms : List Msg} (h : longPressed b s.lgt (fresh s) = (l, ms)) :
    exec (.longPress b) s = .next (lightsNext (fresh s) l ms) :=
  exec_lgt_next (e := .longPress b) rfl (lgtHandle_longPress h)

end Buttons

/-- Settles O32: the door by its level and its timer, a button by what LGT knows of it. -/
theorem doorAndButtonsSwitchTheLights : Obligations.DoorAndButtonsSwitchTheLights := by
  intro isOpen pressed b s l u step known knows side
  have known_eq : l.button b = known := by cases b <;> rfl
  have knows_eq (x : ButtonState) : l.setButton b x = knows x := by cases b <;> rfl
  have side_eq : buttonLight b = side := by cases b <;> rfl
  have door (h : isOpen ≠ l.doorOpen) : lgtHandle (.door isOpen) u = withoutAnswer u (doorChanged isOpen l) [.chg .wake] :=
    if_neg h
  have changed (h : (l.button b).down ≠ pressed) :
      exec (.buttonChange b pressed) s = .next (lightsNext u (buttonChanged b pressed l) [.chg .wake]) :=
    exec_lgt_next (e := .button b pressed) rfl (lgtHandle_button h)
  refine ⟨fun h => ?_, fun h ho => ?_, fun h ho => ?_, fun h => ?_, fun h => ?_, fun h => ?_, fun hp hk => ?_, fun hp hk => ?_,
    fun hp hk => ?_, fun hk hb ho => ?_, fun hk hb ho => ?_, fun hk hb => ?_, fun hk => ?_⟩
  · exact exec_lgt_idle (e := .door isOpen) rfl (if_pos h)
  · subst ho
    exact exec_lgt_next (e := .door true) rfl (door h)
  · subst ho
    exact exec_lgt_next (e := .door false) rfl (door h)
  · exact exec_lgt_next (e := .doorExpiry) rfl (if_pos h)
  · exact exec_lgt_idle (e := .doorExpiry) rfl (if_neg h)
  · refine exec_lgt_idle (e := .button b pressed) rfl (lgtHandle_button_same ?_)
    rw [← known_eq] at h
    rcases h with ⟨rfl, hk⟩ | ⟨rfl, hk⟩
    · exact (down_iff _).mpr hk
    · exact congrArg ButtonState.down hk
  · subst hp
    rw [changed (by rw [known_eq, hk]; decide), ← knows_eq]
    rfl
  · subst hp
    rw [changed (by rw [known_eq, hk]; decide), buttonChanged_short (known_eq.trans hk), knows_eq, side_eq]
  · subst hp
    have up : known ≠ .released ∧ known ≠ .pressed := by
      rcases hk with hk | hk <;> simp [hk]
    rw [← known_eq] at up
    rw [changed (by rw [(down_iff _).mpr up.1]; decide), buttonChanged_released up.2, knows_eq]
  · subst hb
    exact exec_longPress (longPressed_ack hk ho)
  · subst hb
    exact exec_longPress (longPressed_night hk ho)
  · subst hb
    exact exec_longPress (longPressed_recall hk)
  · exact exec_longPress (longPressed_idle (known_eq ▸ hk))

end Sys2Proof.Machine

/-! O33: LIGHT_SAVE, LIGHT_RESTORE, GROUP_SET and SCENE_STORE (R110 to R112, R115, R116). -/

namespace Sys2Proof.Machine

section Settings

variable {s : State} {tag : Byte}

/-! ### The ranges (R111, R112) -/

theorem channelTableInRange_iff (currents : List Int) (cap : Nat) :
    channelTableInRange currents cap = true ↔
      currents.length = 8 ∧ (∀ i ∈ currents, 1 ≤ i ∧ i ≤ 500) ∧ cap ≤ 1000 := by
  simp only [channelTableInRange, intIn, Bool.and_eq_true, beq_iff_eq, List.all_eq_true, decide_eq_true_eq, and_assoc]

theorem sceneInRange_iff (n : Nat) (items : List SceneItem) :
    sceneInRange n items = true ↔
      n ≤ 11 ∧ 1 ≤ items.length ∧ items.length ≤ 8 ∧
        (∀ i ∈ items, i.channel ≤ 7 ∧ i.level ≤ 1000 ∧ i.fade ≤ 36000) ∧ (items.map SceneItem.channel).Nodup := by
  simp only [sceneInRange, natIn, Bool.and_eq_true, List.all_eq_true, decide_eq_true_eq, and_assoc]

/-! ### LIGHT_SAVE and LIGHT_RESTORE (R115, R116) -/

theorem lightSave_eq {l : Lgt} {ms : List Msg} (h : pushFrame .host s.lgt = (l, ms)) :
    lightSave s = withAnswer s l ms (answer .ok (u8 l.stack.length)) := by
  rw [lightSave, h]

/-- LIGHT_SAVE by what the push makes of the stack. -/
theorem exec_lightSave {l : Lgt} {ms : List Msg} (slot : HasSlot s) (h : pushFrame .host s.lgt = (l, ms)) :
    exec (.lightSave tag) s = .next (finish (ms ++ lightsFollow s.lgt l)
      (answered 0x89#8 tag 0 (u8 l.stack.length) { dispatched 0x89#8 tag s with lgt := lightsKept l s.rcl.quiet })) :=
  exec_lgtRequest_lit (e := .save) (st := .ok) rfl rfl slot rfl rfl (lightSave_eq h)

theorem lightRestore_none (h : topHost s.lgt.stack = none) : lightRestore s = (s.lgt, [answer .state []]) := by
  rw [lightRestore, h]

theorem lightRestore_some {f : Frame} (h : topHost s.lgt.stack = some f) :
    lightRestore s = withAnswer s (restoreFrame f { s.lgt with stack := removeTopHost s.lgt.stack }) []
      (answer .ok (u8 (removeTopHost s.lgt.stack).length)) := by
  rw [lightRestore, h]

/-- LIGHT_RESTORE with a HOST frame: the writes made, then the demand once (log 43). -/
theorem exec_lightRestore {f : Frame} {l : Lgt} (slot : HasSlot s) (h : topHost s.lgt.stack = some f)
    (hl : restoreFrame f { s.lgt with stack := removeTopHost s.lgt.stack } = l) :
    exec (.lightRestore tag) s = .next (finish (lightsFollow s.lgt l)
      (answered 0x8A#8 tag 0 (u8 (removeTopHost s.lgt.stack).length)
        { dispatched 0x8A#8 tag s with lgt := lightsKept l s.rcl.quiet })) :=
  exec_lgtRequest_follows (e := .restore) (st := .ok) rfl rfl slot rfl rfl (hl ▸ lightRestore_some h)

end Settings

/-- Settles O33: a save by the room on the stack, a restore by whether a HOST frame is there, the settings by their range. -/
theorem lightStackAndSettings : Obligations.LightStackAndSettings := by
  intro tag g members currents cap n items s slot l q ks frame saved dropped last left u v w x tableOk sceneOk
  have table : channelTableInRange currents cap = true ↔ tableOk := channelTableInRange_iff currents cap
  have scene : sceneInRange n items = true ↔ sceneOk := sceneInRange_iff n items
  refine ⟨fun h => ?_, fun h => ?_, fun h => ?_, fun f h => ?_, ?_, fun h => ?_, fun h => ?_, fun h => ?_, fun h => ?_⟩
  · have push : pushFrame .host l = (saved, []) := pushFrame_room .host h
    have length : saved.stack.length = l.stack.length + 1 := List.length_append
    have step := exec_lightSave (tag := tag) slot push
    rw [List.nil_append, length] at step
    exact step
  · have push : pushFrame .host l = (dropped, [post 29 (u8 0 ++ u8 dropped.stack.length)]) := pushFrame_full .host h
    have step := exec_lightSave (tag := tag) slot push
    rw [List.singleton_append] at step
    exact step
  · exact exec_lgtRequest (e := .restore) (st := .state) rfl rfl slot rfl rfl (lightRestore_none h)
  · intro restored
    exact exec_lightRestore slot h rfl
  · by_cases hg : g ≤ 3
    · rw [if_pos hg]
      exact exec_lgtRequest (e := .groupSet g members) (st := .ok) rfl rfl slot rfl rfl (if_pos hg)
    · rw [if_neg hg]
      exact exec_lgtRequest (e := .groupSet g members) (st := .range) rfl rfl slot rfl rfl (if_neg hg)
  · exact exec_lgtRequest (e := .channelSet currents cap) (st := .range) rfl rfl slot rfl rfl (if_neg (mt table.mp h))
  · exact exec_lgtRequest_follows (e := .channelSet currents cap) (st := .ok) rfl rfl slot rfl rfl
      (if_pos (table.mpr h))
  · exact exec_lgtRequest (e := .sceneStore n items) (st := .range) rfl rfl slot rfl rfl (if_neg (mt scene.mp h))
  · exact exec_lgtRequest (e := .sceneStore n items) (st := .ok) rfl rfl slot rfl rfl (if_pos (scene.mpr h))

end Sys2Proof.Machine

/-! O39: how the owner's answer ends a firing (R145, R152, R153), and the schedule's actions at LGT, RCL and ALR (R122, R136,
R164). -/

namespace Sys2Proof.Machine

/-! ### The end of a firing (R145, R152, R153) -/

/-- R153: the occurrences passed over are the whole periods from the due time to now. -/
theorem nextOccurrence_eq (e : SchedEntry) (now : Nat) :
    nextOccurrence e now = e.period.bind fun p =>
      if e.due + ((now - e.due) / p + 1) * p ≤ 4294967295 then
        some (e.due + ((now - e.due) / p + 1) * p, (now - e.due) / p)
      else none := by
  rw [nextOccurrence]
  cases e.period <;> rfl

theorem schHandle_answer (refused : Option Refuse) (s : State) :
    schHandle (.answer refused) s = finishFiring refused s.rcl.cabTime s.sch := rfl

/-- SCH after a firing of `f` that goes back to its slot at `next`, or does not. -/
def firingEnded (f : Firing) (next : Option (Nat × Nat)) (c : Sch) : Sch :=
  { c with
    firing := none
    done := if 10 ≤ f.slot then c.done.set (f.slot - 10) true else c.done
    slots := match next with
      | none => c.slots
      | some (due, _) => c.slots.set f.slot (some { f.entry with due := due, late := false, insertion := c.counter })
    counter := match next with
      | none => c.counter
      | some _ => c.counter + 1 }

theorem finishFiring_eq {f : Firing} {c : Sch} (refused : Option Refuse) (now : Nat) (h : c.firing = some f) :
    finishFiring refused now c =
      (firingEnded f (nextOccurrence f.entry now) c,
        firingReport f now (nextOccurrence f.entry now) refused ::
          if f.sweep = true ∨ nextOccurrence f.entry now ≠ none then [.sch .sweep] else []) := by
  rw [finishFiring, h]
  dsimp only
  cases nextOccurrence f.entry now with
  | none => cases f.sweep <;> rfl
  | some p => cases f.sweep <;> rfl

section Actions

variable {s : State} {param : Option Int}

/-! ### SCENE and WAKE_LIGHT (R122) -/

theorem withDone_eq (s : State) (l : Lgt) :
    withDone s l = (lightsKept l s.rcl.quiet, lightsFollow s.lgt l ++ [.sch (.answer none)]) := by
  rw [withDone, concludeLights_eq]

theorem deliver_scene_range (h : 11 < (param.getD 0).toNat) :
    deliver (.lgt (.act .scene param)) s = (s, [.sch (.answer (some .range))]) :=
  deliver_lgt_of (if_pos h)

theorem deliver_scene_empty (h : (param.getD 0).toNat ≤ 11) (hi : s.lgt.scene (param.getD 0).toNat = []) :
    deliver (.lgt (.act .scene param)) s = (s, [.sch (.answer (some .state))]) :=
  deliver_lgt_of ((if_neg (Nat.not_lt.mpr h)).trans (if_pos hi))

theorem deliver_scene_recalled (h : (param.getD 0).toNat ≤ 11) (hi : s.lgt.scene (param.getD 0).toNat ≠ []) :
    deliver (.lgt (.act .scene param)) s =
      ({ s with lgt := lightsKept ((s.lgt.scene (param.getD 0).toNat).foldl recallItem s.lgt) s.rcl.quiet },
        lightsFollow s.lgt ((s.lgt.scene (param.getD 0).toNat).foldl recallItem s.lgt) ++ [.sch (.answer none)]) := by
  rw [← applyItems_fst]
  exact deliver_lgt_of (((if_neg (Nat.not_lt.mpr h)).trans (if_neg hi)).trans (withDone_eq s _))

theorem deliver_wakeLight_held (h : standingHeld s.lgt 2 = true) :
    deliver (.lgt (.act .wakeLight param)) s = (s, [.sch (.answer (some .held))]) :=
  deliver_lgt_of (if_pos h)

theorem deliver_wakeLight (h : standingHeld s.lgt 2 = false) :
    deliver (.lgt (.act .wakeLight param)) s =
      ({ s with lgt := lightsKept (writeTarget 2 (param.getD 600).toNat 12000 s.lgt) s.rcl.quiet },
        lightsFollow s.lgt (writeTarget 2 (param.getD 600).toNat 12000 s.lgt) ++ [.sch (.answer none)]) :=
  deliver_lgt_of ((if_neg (ne_true_of_eq_false h)).trans (withDone_eq s _))

/-! ### QUIET_BEGIN and QUIET_END (R136) -/

theorem setQuiet_eq (flag : Bool) (r : Rcl) :
    setQuiet flag r = ({ r with quiet := flag }, if r.quiet = flag then [] else quietMsgs flag) := by
  rw [setQuiet, msgsIf_bne]

theorem deliver_rcl_of {e : RclEv} {r : Rcl} {ms : List Msg} (he : rclHandle e s = (r, ms)) :
    deliver (.rcl e) s = ({ s with rcl := r }, ms) := by
  rw [deliver_rcl, he]

/-- An action at RCL that takes the quiet flag to `flag` is accepted. -/
theorem deliver_quietSet {a : Action} (flag : Bool)
    (h : restAction a s.rcl = ((setQuiet flag s.rcl).1, (setQuiet flag s.rcl).2 ++ [.sch (.answer none)])) :
    deliver (.rcl (.act a)) s =
      ({ s with rcl := { s.rcl with quiet := flag } },
        (if s.rcl.quiet = flag then [] else quietMsgs flag) ++ [.sch (.answer none)]) := by
  rw [setQuiet_eq] at h
  exact deliver_rcl_of h

/-! ### WAKE_ALARM and USER_ALARM (R164, R165) -/

theorem deliver_alr_of {e : AlrEv} {a : Alr} {ms : List Msg} (he : alrHandle e s = (a, ms)) :
    deliver (.alr e) s = ({ s with alr := a }, ms) := by
  rw [deliver_alr, he]

/-- R165: every event alert is one that the quiet flag holds. -/
theorem soundState_event {k : Nat} (hk : 5 ≤ k) (quiet : Bool) : soundState k quiet = if quiet then .held else .sounding := by
  have urgent : 2 ≤ urgency k := by
    match k, hk with
    | 5, _ => decide
    | n + 6, _ => simp [urgency]
  simp [soundState, urgent]

theorem raiseRecord_event {k : Nat} (hk : 5 ≤ k) (quiet : Bool) (r : AlertRecord) :
    raiseRecord k quiet r = match r.state with
      | .inactive => { r with state := if quiet then .held else .sounding, sounding := 0 }
      | .sounding => { r with sounding := 0 }
      | _ => r := by
  cases hr : r.state <;> simp only [raiseRecord, hr, soundState_event hk]

/-- An alert raised is INACTIVE no more. -/
theorem raiseRecord_active {k : Nat} (hk : 5 ≤ k) (quiet : Bool) (r : AlertRecord) :
    (raiseRecord k quiet r).state ≠ .inactive := by
  rw [raiseRecord, soundState_event hk]
  cases hr : r.state with
  | inactive => cases quiet <;> simp
  | sounding | held | silenced => simp [hr]

theorem record_setRecord_self {a : Alr} {k : Nat} (r : AlertRecord) (hk : k < a.records.length) :
    (setRecord k r a).record k = r := by
  simp [Alr.record, setRecord, hk]

theorem record_setRecord_ne {a : Alr} {j k : Nat} (r : AlertRecord) (h : j ≠ k) :
    (setRecord k r a).record j = a.record j := by
  simp [Alr.record, setRecord, List.getElem?_set_ne h.symm]

/-- R172: of the eight alerts only the one set can leave INACTIVE. -/
theorem leavesInactive_setRecord {a : Alr} {k : Nat} {r : AlertRecord} (hlen : a.records.length = 8) (hk : k < 8)
    (hr : r.state ≠ .inactive) :
    ((List.range 8).any fun j => (a.record j).state == .inactive && !((setRecord k r a).record j).state == .inactive) = true ↔
      (a.record k).state = .inactive := by
  simp only [List.any_eq_true, List.mem_range, Bool.and_eq_true, Bool.not_eq_true', beq_iff_eq, beq_eq_false_iff_ne]
  constructor
  · rintro ⟨j, -, before, after⟩
    by_cases h : j = k
    · exact h ▸ before
    · exact absurd ((record_setRecord_ne r h).symm ▸ before) after
  · intro h
    exact ⟨k, hk, h, by rwa [record_setRecord_self r (hlen ▸ hk)]⟩

/-- ALR with the alert of kind `k` raised (R164). -/
def alertRaised (k : Nat) (quiet : Bool) (a : Alr) : Alr := setRecord k (raiseRecord k quiet (a.record k)) a

/-- What raising an event alert leaves and hands on (R164, R166, R172). -/
theorem changeRecord_raiseRecord {a : Alr} {k : Nat} (quiet : Bool) (hlen : a.records.length = 8) (h5 : 5 ≤ k) (h8 : k < 8) :
    changeRecord k (raiseRecord k quiet) a =
      ((ownerSettled (alertRaised k quiet a)).1,
        (if anySounding a = anySounding (alertRaised k quiet a) then [] else [Msg.chg .review]) ++
          (if (a.record k).state = .inactive then [Msg.chg .wake] else []) ++ (ownerSettled (alertRaised k quiet a)).2) := by
  have woken : (if ((List.range 8).any fun j =>
        (a.record j).state == .inactive && !((alertRaised k quiet a).record j).state == .inactive) = true
      then [Msg.chg .wake] else []) = if (a.record k).state = .inactive then [Msg.chg .wake] else [] :=
    if_congr (leavesInactive_setRecord hlen h8 (raiseRecord_active h5 quiet _)) rfl rfl
  rw [changeRecord, Laws.settleAlerts_eq, ← woken]
  rfl

theorem alertState_code (x : AlertState) : x.code = match x with
    | .inactive => 0
    | .sounding => 1
    | .held => 2
    | .silenced => 3 := by
  cases x <;> rfl

/-- The record of an alert raised, after the owner has settled. -/
theorem record_ownerSettled_alertRaised {a : Alr} {k : Nat} (quiet : Bool) (hk : k < a.records.length) :
    (ownerSettled (alertRaised k quiet a)).1.record k = raiseRecord k quiet (a.record k) := by
  rw [Alr.record, Laws.ownerSettled_records]
  exact record_setRecord_self _ hk

theorem alrHandle_wakeAlarm {a : Alr} {ms : List Msg} (h : changeRecord 5 (raiseRecord 5 s.rcl.quiet) s.alr = (a, ms)) :
    alrHandle (.act .wakeAlarm) s =
      (a, ms ++ [.sch (.answer none), post 17 (u32 s.rcl.cabTime ++ u8 (a.record 5).state.code)]) :=
  congrArg (fun p : Alr × List Msg =>
    (p.1, p.2 ++ [.sch (.answer none), post 17 (u32 s.rcl.cabTime ++ u8 (p.1.record 5).state.code)])) h

theorem alrHandle_userAlarm {a : Alr} {ms : List Msg} (h : changeRecord 7 (raiseRecord 7 s.rcl.quiet) s.alr = (a, ms)) :
    alrHandle (.act .userAlarm) s = (a, ms ++ [.sch (.answer none)]) :=
  congrArg (fun p : Alr × List Msg => (p.1, p.2 ++ [.sch (.answer none)])) h

end Actions

/-- Settles O39: the end of a firing by where its entry goes next, and each action by whether its owner refuses it. -/
theorem firingEndsWithTheOwnersAnswer : Obligations.FiringEndsWithTheOwnersAnswer := by
  refine ⟨?_, ?_⟩
  · intro f refused s hf now e passed next data report
    have next_eq : nextOccurrence f.entry now = next := nextOccurrence_eq e now
    have report_eq : firingReport f now next refused = report := by
      cases refused with
      | none => cases hn : next <;> simp only [report, hn] <;> rfl
      | some r => cases r <;> rfl
    have ended := finishFiring_eq refused now hf
    rw [next_eq, report_eq] at ended
    rw [deliver_sch, schHandle_answer, ended]
    rfl
  · intro param s hlen l r scene write refused lit quiet record entered alarm
    have entered_eq {k : Nat} (hk : 5 ≤ k) : raiseRecord k r.quiet (s.alr.record k) = entered k := raiseRecord_event hk ..
    have raised {k : Nat} (h5 : 5 ≤ k) (h8 : k < 8) := changeRecord_raiseRecord (a := s.alr) r.quiet hlen h5 h8
    refine ⟨fun h => ?_, fun h hi => ?_, fun h hi => ?_, fun h => ?_, fun h => ?_, fun h => ?_, fun h => ?_, ?_, ?_, ?_⟩
    · exact deliver_scene_range h
    · exact deliver_scene_empty h hi
    · exact deliver_scene_recalled h hi
    · exact deliver_wakeLight_held h
    · exact deliver_wakeLight h
    · exact deliver_rcl_of (if_pos h)
    · exact deliver_quietSet true (if_neg h)
    · exact deliver_quietSet false rfl
    · have wake := deliver_alr_of (alrHandle_wakeAlarm (raised (by decide) (by decide)))
      rw [record_ownerSettled_alertRaised _ (by omega), alertState_code, alertRaised, entered_eq (by decide)] at wake
      exact wake
    · have user := deliver_alr_of (alrHandle_userAlarm (raised (by decide) (by decide)))
      rw [alertRaised, entered_eq (by decide)] at user
      exact user

end Sys2Proof.Machine

/-! O37: CLOCK_SET, LOG_WINDOW and LOG_READ (R137, R138, R141, R142). First, for O35 and O36 too, a request at RCL. -/

namespace Sys2Proof.Machine

/-! ### A request at RCL -/

/-- A request that RCL answers with `body` and hands `ms` on. -/
theorem exec_rclRequest {i : Instr} {tag k : Byte} {q : Request} {e : RclEv} {s : State} {r : Rcl} {st : Status}
    {body : List Byte} {ms : List Msg} (hi : requestOf i = some (tag, q)) (hk : BitVec.ofNat 8 (q.code + 128) = k)
    (hs : HasSlot s) (ht : serviceTier q.code = false) (ho : q.owner = some (.rcl e))
    (he : rclHandle e (dispatched k tag s) = (r, answer st body :: ms)) :
    exec i s = .next (finish ms (answered k tag st.code body { dispatched k tag s with rcl := r })) := by
  rw [exec_requestOf hi]
  refine congrArg _ (request_finish hk hs (fun h => ?_) ho rfl (deliver_rcl_of he) rfl)
  exact absurd (ht.symm.trans h) Bool.false_ne_true

section ClockAndLog

variable {r : Rcl} {s : State} {tag : Byte}

/-! ### CLOCK_SET (R137, R138) -/

/-- R137: a shifted start stamp stays within 32 bits. -/
theorem shiftStamp_eq (d : Int) (t : Nat) :
    shiftStamp d t = if (t : Int) + d < 0 then 0 else min 4294967295 ((t : Int) + d).toNat := by
  unfold shiftStamp clampInt
  split
  · rfl
  · split <;> omega

/-- R138: the ranges and the relations of the nine settings. -/
theorem restInRange_iff (x : RestSettings) : restInRange x = true ↔
    (300 ≤ x.splitFirst ∧ x.splitFirst ≤ 3600) ∧ (600 ≤ x.splitSecond ∧ x.splitSecond ≤ 7200) ∧
      (900 ≤ x.breakMin ∧ x.breakMin ≤ 10800) ∧ (3600 ≤ x.driveLimit ∧ x.driveLimit ≤ 36000) ∧ x.lead ≤ 3600 ∧
      (3600 ≤ x.reducedMin ∧ x.reducedMin ≤ 86400) ∧ (3600 ≤ x.regularMin ∧ x.regularMin ≤ 86400) ∧ x.quietDelay ≤ 3600 ∧
      (600 ≤ x.hIdle ∧ x.hIdle ≤ 43200) ∧ x.splitFirst < x.breakMin ∧ x.splitSecond < x.breakMin ∧ x.lead < x.driveLimit ∧
      x.breakMin ≤ x.reducedMin ∧ x.reducedMin < x.regularMin := by
  simp only [restInRange, natIn, Bool.and_eq_true, decide_eq_true_eq, and_assoc]

theorem restSettingsRequest_applied {x : RestSettings} (h : restInRange x = true) :
    restSettingsRequest x r = (warned { r with settings := x }, answer .ok [] :: warnedMsgs { r with settings := x }) := by
  rw [restSettingsRequest, if_pos h, testWarnings_eq]

/-! ### LOG_READ (R142, Table 10-4) -/

/-- The planned wake time of a BREAK_RUN record is marked by its presence byte. -/
theorem flagByte_isSome (w : Option Nat) : flagByte w.isSome = if w = none then u8 0 else u8 1 := by
  cases w <;> rfl

theorem logItem_of_none {n : Nat} (h : r.log.find? (fun x => decide (x.serial = n)) = none) :
    logItem r n = u32 n ++ (u8 (if r.nextSerial ≤ n then 255 else 254) ++ List.replicate 26 0) := by
  have none_held : r.log.find? (fun x => x.serial == n) = none := h
  rw [logItem, none_held]
  rfl

theorem logItem_of_some {n : Nat} {x : LogRecord} (h : r.log.find? (fun x => decide (x.serial = n)) = some x) :
    logItem r n = u32 n ++ logFields x := by
  have held : r.log.find? (fun x => x.serial == n) = some x := h
  rw [logItem, held]

theorem readSerials_length (w : Window) : (readSerials w).length = min 4 (w.last + 1 - w.cursor) := List.length_range'

theorem readSerials_eq (w : Window) :
    readSerials w = (List.range (min 4 (w.last + 1 - w.cursor))).map fun k => w.cursor + k :=
  List.range'_eq_map_range

theorem nextCursor_eq (w : Window) :
    nextCursor w =
      if w.last < w.cursor + min 4 (w.last + 1 - w.cursor) then w.first else w.cursor + min 4 (w.last + 1 - w.cursor) := by
  rw [nextCursor, readSerials_length]

theorem logReadRequest_none (h : r.window = none) : logReadRequest r = (r, [answer .state []]) := by
  rw [logReadRequest, h]

theorem logReadRequest_some {w : Window} (h : r.window = some w) :
    logReadRequest r =
      ({ r with window := some { w with cursor := nextCursor w } },
        [answer .ok (u8 (readSerials w).length ++ (readSerials w).flatMap (logItem r))]) := by
  rw [logReadRequest, h]
  rfl

end ClockAndLog

/-- Settles O37: the clock's two forms by the range of the settings, and the log's window and reading by what window is set. -/
theorem clockAndLogRequests : Obligations.ClockAndLogRequests := by
  refine ⟨?_, ?_⟩
  · intro tag time x s slot r u delta shift moved ok
    have inRange : restInRange x = true ↔ ok := restInRange_iff x
    have shifted : setClock time r = moved := by
      have stamp : shiftStamp delta = shift := funext (shiftStamp_eq delta)
      rw [setClock, stamp]
    refine ⟨?_, fun h => ?_, fun h => ?_⟩
    · rw [← shifted]
      exact exec_rclRequest (e := .clockSet time) (st := .ok) rfl rfl slot rfl rfl rfl
    · exact exec_rclRequest (e := .settings x) (st := .range) rfl rfl slot rfl rfl (if_neg (mt inRange.mp h))
    · exact exec_rclRequest (e := .settings x) (st := .ok) rfl rfl slot rfl rfl
        (restSettingsRequest_applied (inRange.mpr h))
  · intro tag first last s slot r u v item
    have items : logItem r = item := by
      funext n
      dsimp only [item]
      split
      · next h => exact logItem_of_none h
      · next x h =>
        rw [logItem_of_some h, logFields]
        cases x.kind with
        | drive acc => rfl
        | work => rfl
        | breakRun rest available cls wake => simp only [flagByte_isSome]
    refine ⟨fun h => ?_, fun hlo hhi => ?_, fun h => ?_, fun w h => ?_⟩
    · exact exec_rclRequest (e := .logWindow first last) (st := .range) rfl rfl slot rfl rfl (if_pos h)
    · exact exec_rclRequest (e := .logWindow first last) (st := .ok) rfl rfl slot rfl rfl (if_neg (by omega))
    · exact exec_rclRequest (e := .logRead) (st := .state) rfl rfl slot rfl rfl (logReadRequest_none h)
    · have read := logReadRequest_some h
      rw [items, readSerials_length, readSerials_eq, nextCursor_eq] at read
      exact exec_rclRequest (e := .logRead) (st := .ok) rfl rfl slot rfl rfl read

end Sys2Proof.Machine

/-! O36: REST_PLAN (R127, R133, R134). First, for O35 too, the transitions between activities. -/

namespace Sys2Proof.Machine

section Transitions

variable {r : Rcl} {new : Activity}

/-! ### Transitions (R127, R128, R139) -/

/-- RCL with a period of `new` begun now (R127). -/
def periodBegun (new : Activity) (r : Rcl) : Rcl := { r with period := ⟨new, r.cabTime, 0⟩ }

/-- RCL with a break run begun now (R128). -/
def runBegun (r : Rcl) : Rcl := { r with breakRun := some ⟨r.cabTime, 0, 0, 0, .none⟩ }

/-- From one break activity to another the run goes on, and nothing is logged. -/
theorem changeActivity_within (ho : r.period.activity.breaks = true) (hn : new.breaks = true) :
    changeActivity new r = (periodBegun new r, []) := by
  simp only [changeActivity, if_pos ho, if_pos hn, periodBegun]

/-- From DRIVE or WORK to a break activity the period is logged and a run begins. -/
theorem changeActivity_begins (ho : r.period.activity.breaks = false) (hn : new.breaks = true) :
    changeActivity new r = (periodBegun new (runBegun (appendPeriod r)), []) := by
  simp only [changeActivity, if_neg (ne_true_of_eq_false ho), if_pos hn]
  rfl

/-- Between DRIVE and WORK the period is logged. -/
theorem changeActivity_working (ho : r.period.activity.breaks = false) (hn : new.breaks = false) :
    changeActivity new r = (periodBegun new (appendPeriod r), []) := by
  simp only [changeActivity, if_neg (ne_true_of_eq_false ho), if_neg (ne_true_of_eq_false hn)]
  rfl

end Transitions

section RestPlan

variable {r : Rcl} {s : State} {tag : Byte} {wake : Nat}

/-! ### The activity set to REST (R133) -/

/-- RCL, not in DRIVE, with its activity set to REST (R127, R133). -/
def rested (r : Rcl) : Rcl :=
  match r.period.activity with
  | .rest => r
  | .available => periodBegun .rest r
  | _ => periodBegun .rest (runBegun (logged .work r.period.start r.period.duration r))

/-- Out of DRIVE, REST is reached without a message. -/
theorem restActivity_eq (h : r.period.activity ≠ .drive) : restActivity r = (rested r, []) := by
  unfold rested
  cases ha : r.period.activity with
  | drive => exact absurd ha h
  | work =>
    have logs : appendPeriod r = logged .work r.period.start r.period.duration r := by
      rw [appendPeriod, if_neg h]
      rfl
    rw [restActivity, if_neg (by simp [ha]), changeActivity_begins (by rw [ha]; rfl) rfl, logs]
  | available => rw [restActivity, if_neg (by simp [ha]), changeActivity_within (by rw [ha]; rfl) rfl]
  | rest => rw [restActivity, if_pos ha]

/-! ### REST_PLAN by its checks and by the record (R134) -/

theorem natIn_eq_false_iff {lo hi x : Nat} : natIn lo hi x = false ↔ ¬(lo ≤ x ∧ x ≤ hi) := by
  rw [← Bool.not_eq_true, natIn, Bool.and_eq_true, decide_eq_true_eq, decide_eq_true_eq]

theorem restPlanRequest_driving (h : r.period.activity = .drive) :
    restPlanRequest wake r = (r, [answer .state []]) := if_pos h

theorem restPlanRequest_refused (h : r.period.activity ≠ .drive)
    (hw : ¬(r.cabTime + 900 ≤ wake ∧ wake ≤ r.cabTime + 86400)) :
    restPlanRequest wake r = (r, [answer .range []]) :=
  (if_neg h).trans (if_pos (natIn_eq_false_iff.mpr hw))

/-- Without a record a planned one opens now. -/
theorem restPlanRequest_opens (h : r.period.activity ≠ .drive) (hw : r.cabTime + 900 ≤ wake ∧ wake ≤ r.cabTime + 86400)
    (hr : r.record = none) :
    restPlanRequest wake r =
      (rested { r with record := some ⟨r.cabTime, 0, wake, true⟩ },
        answer .ok (u32 r.cabTime ++ u32 wake) :: openMsgs ⟨r.cabTime, 0, wake, true⟩) := by
  have rest := restActivity_eq (r := (openRecord wake true r).1) h
  rw [restPlanRequest, if_neg h, if_neg (fun hn => natIn_eq_false_iff.mp hn hw), hr]
  dsimp only
  rw [rest, List.append_nil]
  rfl

/-- An open record is planned with the wake time. -/
theorem restPlanRequest_plans {x : RestRecord} (h : r.period.activity ≠ .drive)
    (hw : r.cabTime + 900 ≤ wake ∧ wake ≤ r.cabTime + 86400) (hr : r.record = some x) :
    restPlanRequest wake r =
      (rested { r with record := some { x with wake := wake, planned := true } },
        answer .ok (u32 x.start ++ u32 wake) ::
          if x.wake = wake then [] else [.sch (.restWake wake), .dmd (.rest (some wake))]) := by
  have rest := restActivity_eq (r := { r with record := some { x with wake := wake, planned := true } }) h
  rw [restPlanRequest, if_neg h, if_neg (fun hn => natIn_eq_false_iff.mp hn hw), hr]
  dsimp only
  rw [rest, List.append_nil, msgsIf_bne]

theorem exec_restPlan {r' : Rcl} {st : Status} {body : List Byte} {ms : List Msg} (slot : HasSlot s)
    (he : restPlanRequest wake s.rcl = (r', answer st body :: ms)) :
    exec (.restPlan tag wake) s =
      .next (finish ms (answered 0x8C#8 tag st.code body { dispatched 0x8C#8 tag s with rcl := r' })) :=
  exec_rclRequest (e := .restPlan wake) rfl rfl slot rfl rfl he

end RestPlan

/-- Settles O36: a plan by the activity, by its wake time and by the record it finds. -/
theorem restPlanOpensOrPlansTheRecord : Obligations.RestPlanOpensOrPlansTheRecord := by
  intro tag wake s slot r u ok result resting
  refine ⟨fun h => ?_, fun h hw => ?_, fun h hw hr => ?_, fun x h hw hr => ?_⟩
  · exact exec_restPlan slot (restPlanRequest_driving h)
  · exact exec_restPlan slot (restPlanRequest_refused h hw)
  · have opens := exec_restPlan (tag := tag) slot (restPlanRequest_opens h hw hr)
    exact opens
  · exact exec_restPlan slot (restPlanRequest_plans h hw hr)

end Sys2Proof.Machine

/-! O35: ACTIVITY (R127, R128, R131, R133, R135, R139). -/

namespace Sys2Proof.Machine

section RunEnd

variable {r : Rcl}

/-! ### The close of a rest record (R135) -/

/-- R191: the classes are numbered in the order of R135's table. -/
theorem restClass_code (x : RestSettings) (n : Nat) :
    (restClass x n).code =
      if x.regularMin ≤ n then 0 else if x.reducedMin ≤ n then 1 else if x.breakMin ≤ n then 2 else 3 := by
  simp only [restClass, apply_ite RestClass.code]
  rfl

/-- REST_SHORT is raised for a planned record of the last two classes. -/
theorem closesShort_iff (x : RestRecord) (c : RestClass) : closesShort x c = true ↔ x.planned = true ∧ 2 ≤ c.code := by
  cases c <;> simp [closesShort, RestClass.code]

/-- What a close hands on, with the log record already appended. -/
theorem closeRecord_snd (x : RestRecord) {r' : Rcl} (hq : r'.quiet = r.quiet) (hs : r'.settings = r.settings) :
    (closeRecord x r.nextSerial r').2 = closeMsgs x r := by
  have quiet : (setQuiet false r').2 = if r.quiet then quietMsgs false else [] := by
    rw [setQuiet, hq, Bool.bne_false]
    rfl
  simp only [closeRecord, closeMsgs, quiet, hs, msgsIf, closesShort_iff, restClass_code]
  rfl

/-! ### The end of a break run (R131, R139) -/

/-- R131: whether the run's end sets the split flag. -/
theorem firstPart_eq (b : BreakRun) (x : RestSettings) :
    (b.marker == .none && decide (x.splitFirst ≤ b.length)) = decide (b.marker = .none ∧ x.splitFirst ≤ b.length) :=
  (Bool.decide_and _ _).symm

/-- R139: the class of the run's log record. -/
theorem runClass_decide (x : RestSettings) (b : BreakRun) (p : Prop) [Decidable p] :
    runClass x b (decide p) =
      if x.regularMin ≤ b.length then .regular
      else if x.reducedMin ≤ b.length then .reduced
      else if x.breakMin ≤ b.length then .brk
      else if b.marker = .split then .splitSecond
      else if p then .splitFirst
      else .short := by
  simp only [runClass, decide_eq_true_eq]

theorem endRun_of_none (b : BreakRun) (h : r.record = none) : endRun b r = (runEnded b r, []) := by
  simp only [endRun, h, firstPart_eq, runClass_decide, runEnded]
  rfl

theorem endRun_of_some (b : BreakRun) {x : RestRecord} (h : r.record = some x) :
    endRun b r = (runEnded b r, closeMsgs x r) := by
  simp only [endRun, h, firstPart_eq, runClass_decide, runEnded]
  exact Prod.ext rfl (closeRecord_snd x rfl rfl)

/-- A break run ends with the transition to DRIVE or WORK. -/
theorem changeActivity_ends {new : Activity} {b : BreakRun} {ms : List Msg} (ho : r.period.activity.breaks = true)
    (hn : new.breaks = false) (hb : r.breakRun = some b) (he : endRun b r = (runEnded b r, ms)) :
    changeActivity new r = (periodBegun new (runEnded b r), ms) := by
  simp only [changeActivity, if_pos ho, if_neg (ne_true_of_eq_false hn), hb, he]
  rfl

end RunEnd

section Activities

variable {r t : Rcl} {new : Activity} {ms : List Msg}

/-! ### The opening of a rest record at a transition into REST (R127, R133) -/

/-- The record that a transition into REST opens, a regular rest ahead. -/
def regularRest (r : Rcl) : RestRecord := ⟨r.cabTime, 0, r.cabTime + r.settings.regularMin, false⟩

/-- RCL after a transition to `new`, with a record opened in REST when none was. -/
def restOpened (new : Activity) (r : Rcl) : Rcl :=
  if new = .rest ∧ r.record = none then { r with record := some (regularRest r) } else r

/-- What that opening hands on. -/
def restOpenedMsgs (new : Activity) (r : Rcl) : List Msg :=
  if new = .rest ∧ r.record = none then openMsgs (regularRest r) else []

theorem restOpened_of_not_breaks (h : new.breaks = false) : restOpened new r = r ∧ restOpenedMsgs new r = [] := by
  have hn : ¬(new = .rest ∧ r.record = none) := fun hr => absurd h (by rw [hr.1]; decide)
  exact ⟨if_neg hn, if_neg hn⟩

theorem takeActivity_same (h : new = r.period.activity) : takeActivity new r = (r, []) := if_pos h

theorem takeActivity_eq (h : new ≠ r.period.activity) (hc : changeActivity new r = (t, ms)) :
    takeActivity new r = (restOpened new t, ms ++ restOpenedMsgs new t) := by
  rw [takeActivity, if_neg h, hc]
  unfold restOpened restOpenedMsgs
  dsimp only
  split
  · rfl
  · rw [List.append_nil]

/-- A transition that hands nothing on of its own. -/
theorem takeActivity_quiet (h : new ≠ r.period.activity) (hc : changeActivity new r = (t, [])) :
    takeActivity new r = (restOpened new t, restOpenedMsgs new t) := takeActivity_eq h hc

/-- A transition to DRIVE or WORK opens no record. -/
theorem takeActivity_working (h : new ≠ r.period.activity) (hn : new.breaks = false)
    (hc : changeActivity new r = (t, ms)) : takeActivity new r = (t, ms) := by
  obtain ⟨state, msgs⟩ := restOpened_of_not_breaks (r := t) hn
  rw [takeActivity_eq h hc, state, msgs, List.append_nil]

/-! ### The request (R127) -/

theorem Activity.ofCode_of_three_lt {code : Nat} (h : 3 < code) : Activity.ofCode code = none := by
  obtain ⟨n, rfl⟩ := Nat.exists_eq_add_of_le' (Nat.succ_le_of_lt h)
  rfl

variable {s : State} {tag : Byte} {code : Nat}

theorem exec_activity_refused (slot : HasSlot s) (h : 3 < code) :
    exec (.activity tag code) s = .next (finish [] (answered 0x8B#8 tag 3 [] (dispatched 0x8B#8 tag s))) := by
  have refused : activityRequest code s.rcl = (s.rcl, [answer .range []]) := by
    rw [activityRequest, Activity.ofCode_of_three_lt h]
  exact exec_rclRequest (e := .activity code) (st := .range) rfl rfl slot rfl rfl refused

theorem exec_activity (slot : HasSlot s) (hc : Activity.ofCode code = some new) (hn : new.code = code)
    (ht : takeActivity new s.rcl = (t, ms)) :
    exec (.activity tag code) s =
      .next (finish ms (answered 0x8B#8 tag 0 (u8 code ++ u32 t.acc ++ flagByte t.split)
        { dispatched 0x8B#8 tag s with rcl := t })) := by
  have taken : activityRequest code s.rcl = (t, answer .ok (u8 code ++ u32 t.acc ++ flagByte t.split) :: ms) := by
    rw [activityRequest, hc]
    dsimp only
    rw [ht, hn]
  exact exec_rclRequest (e := .activity code) (st := .ok) rfl rfl slot rfl rfl taken

end Activities

/-- Settles O35: a refused code, the activity kept, and the four kinds of transition. -/
theorem activityRequestChangesThePeriod : Obligations.ActivityRequestChangesThePeriod := by
  intro tag code s slot r u new breaks old result at' record opened openMsgs ended begun
  have breaks_eq (a : Activity) : a.breaks = breaks a := by
    cases a <;> rfl
  have named (h : code ≤ 3) : Activity.ofCode code = some new ∧ new.code = code := by
    obtain rfl | rfl | rfl | rfl : code = 0 ∨ code = 1 ∨ code = 2 ∨ code = 3 := by omega
    all_goals exact ⟨rfl, rfl⟩
  have taken {r' : Rcl} {ms : List Msg} (h : code ≤ 3) (ht : takeActivity new r = (r', ms)) :
      exec (.activity tag code) s = result r' ms := exec_activity slot (named h).1 (named h).2 ht
  have ne_of_breaks {a b : Activity} (ha : breaks a = false) (hb : breaks b = true) : b ≠ a := by
    rintro rfl
    exact Bool.false_ne_true (ha.symm.trans hb)
  refine ⟨exec_activity_refused slot, fun h hn => ?_, fun h hne ho hn => ?_, fun h ho hn => ?_, fun h hne ho hn => ?_,
    fun b h ho hn hb => ?_⟩
  · exact taken h (takeActivity_same hn)
  all_goals
    have oldBreaks := (breaks_eq old).trans ho
    have newBreaks := (breaks_eq new).trans hn
  · exact taken h (takeActivity_quiet hne (changeActivity_within oldBreaks newBreaks))
  · exact taken h (takeActivity_quiet (ne_of_breaks ho hn) (changeActivity_begins oldBreaks newBreaks))
  · exact taken h (takeActivity_working hne newBreaks (changeActivity_working oldBreaks newBreaks))
  · have hne : new ≠ old := (ne_of_breaks hn ho).symm
    have ends {ms : List Msg} (he : endRun b r = (runEnded b r, ms)) :
        exec (.activity tag code) s = result (at' (runEnded b r)) ms :=
      taken h (takeActivity_working hne newBreaks (changeActivity_ends oldBreaks newBreaks hb he))
    cases hr : r.record with
    | none => exact ends (endRun_of_none b hr)
    | some x => exact ends (endRun_of_some b hr)

end Sys2Proof.Machine

/-! O38: the table order (R146) and the firing of its head (R151, R152). First, for O40 and O41 too, a delivery at SCH. -/

namespace Sys2Proof.Machine

/-! ### A delivery and a command at SCH -/

section Delivery

variable {s : State} {c : Sch} {e : SchEv} {ms : List Msg}

theorem deliver_sch_of (he : schHandle e s = (c, ms)) : deliver (.sch e) s = ({ s with sch := c }, ms) := by
  rw [deliver_sch, he]

/-- A command whose event takes SCH to `c`, handing `ms` on. -/
theorem exec_sch_next {i : Instr} (hi : exec i s = .next (event (.sch e) s)) (he : schHandle e (fresh s) = (c, ms)) :
    exec i s = .next (settle ms { fresh s with sch := c }) :=
  exec_settle hi (deliver_sch_of he)

/-- A command whose event takes SCH to `c` and hands nothing on. -/
theorem exec_sch_quiet {i : Instr} (hi : exec i s = .next (event (.sch e) s)) (he : schHandle e (fresh s) = (c, [])) :
    exec i s = .next { fresh s with sch := c } :=
  exec_quiet hi (deliver_sch_of he)

end Delivery

section TableOrder

variable {c : Sch}

/-! ### The entries held -/

theorem mem_heldEntries {n : Nat} {e : SchedEntry} : (n, e) ∈ heldEntries c ↔ c.slots[n]? = some (some e) := by
  simp only [heldEntries, List.mem_filterMap, Option.map_eq_some_iff, Prod.mk.injEq]
  constructor
  · rintro ⟨⟨_, m⟩, hp, _, rfl, rfl, rfl⟩
    exact List.mem_zipIdx_iff_getElem?.mp hp
  · intro h
    exact ⟨(some e, n), List.mem_zipIdx_iff_getElem?.mpr h, e, rfl, rfl, rfl⟩

theorem length_filterMap_zipIdx (l : List (Option SchedEntry)) (k : Nat) :
    ((l.zipIdx k).filterMap fun p => p.1.map (Prod.mk p.2)).length = (l.filter Option.isSome).length := by
  induction l generalizing k with
  | nil => rfl
  | cons x xs ih => cases x <;> simp [ih]

/-! ### R146: the entries held in order -/

theorem entryBefore_iff (a b : SchedEntry) :
    entryBefore a b = true ↔ a.due < b.due ∨ (a.due = b.due ∧ a.insertion ≤ b.insertion) := by
  simp only [entryBefore, Bool.or_eq_true, Bool.and_eq_true, decide_eq_true_eq, beq_iff_eq]

/-- The order of two entries with their slots. -/
abbrev Precedes (a b : Nat × SchedEntry) : Prop := entryBefore a.2 b.2 = true

theorem precedes_total (a b : Nat × SchedEntry) : Precedes a b ∨ Precedes b a := by
  simp only [entryBefore_iff]
  omega

theorem precedes_trans (a b d : Nat × SchedEntry) (hab : Precedes a b) (hbd : Precedes b d) : Precedes a d := by
  simp only [entryBefore_iff] at *
  omega

theorem insertEntry_eq (x : Nat × SchedEntry) (l : List (Nat × SchedEntry)) :
    insertEntry x l = l.orderedInsert Precedes x := by
  induction l with
  | nil => rfl
  | cons y l ih => rw [insertEntry, List.orderedInsert_cons, ih]

/-- The table order is the library's insertion sort of the entries held. -/
theorem tableOrder_eq (c : Sch) : tableOrder c = (heldEntries c).insertionSort Precedes := by
  rw [tableOrder, show insertEntry = List.orderedInsert Precedes from funext₂ insertEntry_eq, List.insertionSort]

theorem tableOrder_pairwise (c : Sch) : (tableOrder c).Pairwise Precedes := by
  have total : Std.Total Precedes := ⟨precedes_total⟩
  have trans : IsTrans _ Precedes := ⟨precedes_trans⟩
  rw [tableOrder_eq]
  exact List.pairwise_insertionSort Precedes _

theorem tableOrder_perm (c : Sch) : (tableOrder c).Perm (heldEntries c) := by
  rw [tableOrder_eq]
  exact List.perm_insertionSort Precedes _

theorem mem_tableOrder {n : Nat} {e : SchedEntry} : (n, e) ∈ tableOrder c ↔ c.slots[n]? = some (some e) :=
  (tableOrder_perm c).mem_iff.trans mem_heldEntries

theorem tableOrder_length (c : Sch) : (tableOrder c).length = (c.slots.filter Option.isSome).length :=
  (tableOrder_perm c).length_eq.trans (length_filterMap_zipIdx c.slots 0)

/-- An entry held that stands before every other one is the head. -/
theorem tableOrder_head {n : Nat} {e : SchedEntry} (held : (c.slots[n]?).join = some e)
    (first : ∀ m x, (c.slots[m]?).join = some x → m ≠ n → e.due < x.due ∨ (e.due = x.due ∧ e.insertion < x.insertion)) :
    (tableOrder c).head? = some (n, e) := by
  have listed : (n, e) ∈ tableOrder c := mem_tableOrder.mpr (Option.join_eq_some_iff.mp held)
  cases order : tableOrder c with
  | nil => rw [order] at listed; cases listed
  | cons p l =>
    obtain ⟨m, x⟩ := p
    have head : (c.slots[m]?).join = some x :=
      Option.join_eq_some_iff.mpr (mem_tableOrder.mp (order ▸ List.mem_cons_self))
    by_cases hmn : m = n
    · subst hmn
      rw [List.head?_cons, Option.some.inj (head.symm.trans held)]
    · have sorted := tableOrder_pairwise c
      rw [order] at listed sorted
      have later : (n, e) ∈ l := (List.mem_cons.mp listed).resolve_left fun h => hmn (congrArg Prod.fst h).symm
      have before := (entryBefore_iff x e).mp (List.rel_of_pairwise_cons sorted later)
      have := first m x head hmn
      omega

/-! ### The firing of the head (R151, R152) -/

variable {now : Nat} (sweep : Bool)

theorem fireHead_of_firing {f : Firing} (h : c.firing = some f) :
    fireHead sweep now c = ({ c with firing := some { f with sweep := f.sweep || sweep } }, []) := by
  rw [fireHead, h]

theorem fireHead_due {n : Nat} {e : SchedEntry} (idle : c.firing = none) (head : (tableOrder c).head? = some (n, e))
    (due : e.due ≤ now) :
    fireHead sweep now c =
      ({ c with slots := c.slots.set n none, firing := some ⟨n, { e with late := decide (e.due < now) }, sweep⟩ },
        [.chg .wake, deliverAction e.action e.param]) := by
  rw [fireHead, idle, head]
  exact if_pos due

/-- With no entry due nothing fires. -/
theorem fireHead_waits (idle : c.firing = none)
    (later : ∀ (m : Nat) (x : SchedEntry), (c.slots[m]?).join = some x → now < x.due) :
    fireHead sweep now c = (c, []) := by
  rw [fireHead, idle]
  cases head : (tableOrder c).head? with
  | none => rfl
  | some p =>
    have held : c.slots[p.1]? = some (some p.2) := mem_tableOrder.mp (List.mem_of_head? head)
    exact if_neg (Nat.not_le.mpr (later p.1 p.2 (Option.join_eq_some_iff.mpr held)))

end TableOrder

/-- Settles O38: the command and the sweep are `fireHead` by whether a firing is in progress and the head is due, and the table
order is an insertion sort of the entries held. -/
theorem scheduleFiringDeliversTheHead : Obligations.ScheduleFiringDeliversTheHead := by
  refine ⟨?_, ?_, fun c => ⟨?_, tableOrder_length c, fun n e => mem_tableOrder⟩⟩
  · intro n e s idle held owner
    have owner_eq : deliverAction e.action e.param = owner := rfl
    refine ⟨fun hn first due => ?_, fun later => ?_⟩
    · rw [← owner_eq]
      exact exec_sch_next (e := .fire) rfl (fireHead_due false idle (tableOrder_head hn first) due)
    · exact exec_sch_quiet (e := .fire) rfl (fireHead_waits false idle later)
  · intro n e s held owner
    have owner_eq : deliverAction e.action e.param = owner := rfl
    refine ⟨fun idle hn first due => ?_, fun idle later => ?_, fun f hf => ?_⟩
    · rw [← owner_eq]
      exact deliver_sch_of (fireHead_due true idle (tableOrder_head hn first) due)
    · exact deliver_sch_of (fireHead_waits true idle later)
    · have held_back := fireHead_of_firing (now := s.rcl.cabTime) true hf
      rw [Bool.or_true] at held_back
      exact deliver_sch_of held_back
  · exact (tableOrder_pairwise c).imp fun h => (entryBefore_iff _ _).mp h

end Sys2Proof.Machine

/-! O40: the derivation of the rest entries in slots 10 to 15 (R155 to R157), and the rest record at SCH (R154, R158). -/

namespace Sys2Proof.Machine

/-! ### The slots of the rest entries (R145) -/

/-- The slots with each rest entry `i`, in slot 10 + `i`, given by `kind`. -/
def restSlots (kind : Nat → Option SchedEntry) (slots : List (Option SchedEntry)) : List (Option SchedEntry) :=
  slots.zipIdx.map fun p => if 10 ≤ p.2 ∧ p.2 < 16 then kind (p.2 - 10) else p.1

section RestSlots

variable (kind : Nat → Option SchedEntry) {slots : List (Option SchedEntry)}

theorem restSlots_length : (restSlots kind slots).length = slots.length := by
  rw [restSlots, List.length_map, List.length_zipIdx]

theorem getElem?_restSlots (n : Nat) :
    (restSlots kind slots)[n]? = (slots[n]?).map fun x => if 10 ≤ n ∧ n < 16 then kind (n - 10) else x := by
  simp only [restSlots, List.getElem?_map, List.getElem?_zipIdx, Option.map_map, Nat.zero_add]
  rfl

/-- The host's slots stand. -/
theorem getElem?_restSlots_host {n : Nat} (h : n < 10) : (restSlots kind slots)[n]? = slots[n]? := by
  have host : ¬(10 ≤ n ∧ n < 16) := by omega
  simp only [getElem?_restSlots, if_neg host, Option.map_id']

theorem getElem?_restSlots_rest {i : Nat} (h : i < 6) (hl : slots.length = 16) :
    (restSlots kind slots)[10 + i]? = some (kind i) := by
  have rest : 10 ≤ 10 + i ∧ 10 + i < 16 := by omega
  rw [getElem?_restSlots, List.getElem?_eq_getElem (by omega), Option.map_some, if_pos rest, Nat.add_sub_cancel_left]

end RestSlots

/-! ### One kind of a derivation (R157) -/

section Kind

variable {i due : Nat} {action : Action} {e : SchedEntry} (c : Sch)

/-- A kind that is done stands. -/
theorem kindDerived_of_done {suppress : Bool} (h : c.done.getD i false = true) :
    Laws.kindDerived i action due suppress c = (c.slots[10 + i]?).join := by
  rw [Laws.kindDerived, Laws.insertsKind, h]
  rfl

theorem kindDerived_of_suppressed (waits : c.done.getD i false = false) : Laws.kindDerived i action due true c = none := by
  rw [Laws.kindDerived, Laws.insertsKind, waits]
  rfl

section Waiting

variable (waits : c.done.getD i false = false)
include waits

theorem insertsKind_iff : Laws.insertsKind i due false c = true ↔ ∀ e, (c.slots[10 + i]?).join = some e → e.due ≠ due := by
  simp only [Laws.insertsKind, waits, Bool.not_false, Bool.true_and, Option.all_eq_true, decide_eq_true_eq]

/-- An entry at its due time stands. -/
theorem kindDerived_of_due (old : (c.slots[10 + i]?).join = some e) (h : e.due = due) :
    Laws.kindDerived i action due false c = (c.slots[10 + i]?).join := by
  have stands : ¬Laws.insertsKind i due false c = true := fun hi => (insertsKind_iff c waits).mp hi e old h
  rw [Laws.kindDerived, if_neg stands, waits]
  rfl

/-- An entry at another due time is inserted anew (R146). -/
theorem kindDerived_of_moved (old : (c.slots[10 + i]?).join = some e) (h : e.due ≠ due) :
    Laws.kindDerived i action due false c = some { e with due := due, insertion := c.counter } := by
  have inserts : Laws.insertsKind i due false c = true := by
    rw [insertsKind_iff c waits, old]
    rintro _ ⟨⟩
    exact h
  rw [Laws.kindDerived, if_pos inserts, old, Option.getD_some]

/-- An entry that is not held is inserted. -/
theorem kindDerived_of_empty (old : (c.slots[10 + i]?).join = none) :
    Laws.kindDerived i action due false c = some ⟨due, action, none, none, c.counter, false⟩ := by
  have inserts : Laws.insertsKind i due false c = true := by
    rw [insertsKind_iff c waits, old]
    rintro _ ⟨⟩
  rw [Laws.kindDerived, if_pos inserts, old, Option.getD_none]

end Waiting

end Kind

/-! ### The six kinds of a derivation (R155 to R157) -/

section RestEntries

variable (start wake delay : Nat) (c : Sch) (i : Nat)

/-- R155: the due time of rest entry `i`. -/
def restDue : Nat := (derivedDues start wake delay (preheatLead c.outside)).getD i 0

/-- R157: whether a derivation inserts rest entry `i`. -/
def restInserts : Bool := Laws.insertsKind i (restDue start wake delay c i) (suppressed start wake delay i) c

/-- R146: the insertion number that rest entry `i` takes when it is inserted. -/
def restNumber : Nat := c.counter + ((List.range i).filter (restInserts start wake delay c)).length

/-- R157: rest entry `i` after a derivation. -/
def restEntry : Option SchedEntry :=
  Laws.kindDerived i (derivedActions.getD i .userAlarm) (restDue start wake delay c i) (suppressed start wake delay i)
    { c with counter := restNumber start wake delay c i }

theorem restDerived_eq :
    restDerived start wake delay c =
      { c with
        slots := restSlots (restEntry start wake delay c) c.slots
        counter := restNumber start wake delay c 6 } := by
  rw [← Laws.deriveKinds_eq, deriveKinds, derivedDues,
    Laws.foldl_kinds fun i action due => deriveKind i action due (suppressed start wake delay i)]
  exact Laws.foldl_deriveKind _ _ (suppressed start wake delay) c 6

theorem not_suppressed :
    (!suppressed start wake delay i) = (decide (2 ≤ i) || decide (start + delay < wake - 1200)) := by
  simp only [suppressed, Bool.not_and, ← decide_not, Nat.not_lt, Nat.not_le]

variable {start wake delay i}

theorem suppressed_of_no_quiet (first : i < 2) (none_left : wake - 1200 ≤ start + delay) :
    suppressed start wake delay i = true := by
  rw [suppressed, decide_eq_true first, decide_eq_true none_left]
  rfl

theorem suppressed_eq_false (allowed : 2 ≤ i ∨ start + delay < wake - 1200) : suppressed start wake delay i = false := by
  rw [← Bool.not_eq_true', not_suppressed]
  exact (Bool.or_eq_true_iff ..).mpr (allowed.imp decide_eq_true decide_eq_true)

/-- R156: the preheat lead, with OUTSIDE valid and without. -/
theorem preheatLead_eq (outside : Option Int) : preheatLead outside = match outside with
    | none => 3600
    | some t => min 5400 (max 600 (600 + 60 * (10 - t.tdiv 10).toNat)) := by
  cases outside with
  | none => rfl
  | some t => exact Laws.preheatLead_some t

end RestEntries

/-! ### A derivation and the rest record (R154, R157, R158) -/

section RestRecord

variable {c : Sch} {start wake : Nat} (delay : Nat)

theorem derivation_of_open (h : c.rest = some (start, wake)) :
    derivation delay c = (restDerived start wake delay c, [.sch .sweep]) := by
  rw [derivation, h]
  exact congrArg (·, _) (Laws.deriveKinds_eq start wake delay c)

theorem derivation_of_none (h : c.rest = none) : derivation delay c = (c, []) := by
  rw [derivation, h]

theorem clockAtSch_moved (moved : Nat) (h : c.rest = some (start, wake)) :
    clockAtSch (some moved) delay c =
      (restDerived moved wake delay { c with rest := some (moved, wake) }, [.sch .sweep]) := by
  unfold clockAtSch
  rw [h]
  exact derivation_of_open delay rfl

/-- R154: without a record, or a start to shift, only the sweep follows. -/
theorem clockAtSch_idle {shifted : Option Nat} (h : c.rest = none ∨ shifted = none) :
    clockAtSch shifted delay c = (c, [.sch .sweep]) := by
  unfold clockAtSch
  rcases h with h | rfl
  · rw [h]
  · cases c.rest <;> rfl

variable {s : State}

theorem schHandle_refresh (h : s.sch.refresh = some 0) :
    schHandle .refreshExpiry s = derivation s.rcl.settings.quietDelay { s.sch with refresh := some 300 } :=
  if_pos h

theorem schHandle_refresh_idle (h : s.sch.refresh ≠ some 0) : schHandle .refreshExpiry s = (s.sch, []) :=
  if_neg h

/-- SCH with the record of a rest just opened (R157). -/
def restRecorded (start wake : Nat) (c : Sch) : Sch :=
  { c with rest := some (start, wake), done := List.replicate 6 false, refresh := some 300 }

theorem schHandle_restOpened :
    schHandle (.restOpened start wake) s =
      (restDerived start wake s.rcl.settings.quietDelay (restRecorded start wake s.sch), [.sch .sweep]) :=
  derivation_of_open (c := restRecorded start wake s.sch) _ rfl

theorem schHandle_restWake {opened w : Nat} (h : s.sch.rest = some (opened, w)) :
    schHandle (.restWake wake) s =
      (restDerived opened wake s.rcl.settings.quietDelay { s.sch with rest := some (opened, wake) }, [.sch .sweep]) := by
  have rest : (s.sch.rest.map fun r => (r.1, wake)) = some (opened, wake) := by rw [h, Option.map_some]
  rw [schHandle, rest]
  exact derivation_of_open _ rfl

theorem schHandle_restWake_idle (h : s.sch.rest = none) : schHandle (.restWake wake) s = (s.sch, []) := by
  have rest : (s.sch.rest.map fun r => (r.1, wake)) = s.sch.rest := by rw [h, Option.map_none]
  rw [schHandle, rest]
  exact derivation_of_none _ h

end RestRecord

/-- Settles O40: the timer's expiry by what record is open, each rest entry by its kind's state, and what SCH does with the
record. -/
theorem refreshDerivesTheRestEntries : Obligations.RefreshDerivesTheRestEntries := by
  refine ⟨?_, ?_⟩
  · intro start wake s c delay lead dues actions inserted number
    have due_eq (i : Nat) : restDue start wake delay c i = dues.getD i 0 := by
      rw [restDue, preheatLead_eq]
      rfl
    have number_eq (i : Nat) : restNumber start wake delay c i = number i := by
      have inserted_eq : restInserts start wake delay c = inserted := by
        funext i
        rw [restInserts, due_eq, Laws.insertsKind, not_suppressed, ← beq_false]
      rw [restNumber, inserted_eq]
    refine ⟨?_, fun ran rest => ?_, fun ran => ?_⟩
    · intro ran rest hl c'
      have derived : c' = { c with
          slots := restSlots (restEntry start wake delay c) c.slots, counter := number 6, refresh := some 300 } := by
        rw [← number_eq]
        exact restDerived_eq start wake delay { c with refresh := some 300 }
      have slots_eq : c'.slots = restSlots (restEntry start wake delay c) c.slots := congrArg Sch.slots derived
      refine ⟨?_, ?_, ?_, fun n hn => ?_, ?_⟩
      · exact exec_sch_next (e := .refreshExpiry) rfl ((schHandle_refresh ran).trans (derivation_of_open _ rest))
      · rw [slots_eq]
        exact derived
      · rw [slots_eq, restSlots_length, hl]
      · rw [slots_eq, getElem?_restSlots_host _ hn]
      · intro i hi old new due
        have new_eq : new = restEntry start wake delay c i := by
          rw [show new = (c'.slots[10 + i]?).join from rfl, slots_eq, getElem?_restSlots_rest _ hi hl, Option.join_some]
        rw [new_eq, restEntry, due_eq, number_eq]
        let numbered : Sch := { c with counter := number i }
        refine ⟨kindDerived_of_done numbered, fun waits first none_left => ?_, fun waits allowed => ?_⟩
        · rw [suppressed_of_no_quiet first none_left]
          exact kindDerived_of_suppressed numbered waits
        · rw [suppressed_eq_false allowed]
          exact ⟨fun e => kindDerived_of_due numbered waits, fun e => kindDerived_of_moved numbered waits,
            kindDerived_of_empty numbered waits⟩
    · exact exec_sch_quiet (e := .refreshExpiry) rfl ((schHandle_refresh ran).trans (derivation_of_none _ rest))
    · exact exec_sch_quiet (e := .refreshExpiry) rfl (schHandle_refresh_idle ran)
  · intro start wake shifted outside s c delay derived
    refine ⟨?_, fun opened w rest => ?_, fun rest => ?_, deliver_sch_of rfl,
      fun opened w moved rest hs => ?_, fun h => ?_, deliver_sch_of rfl⟩
    · exact deliver_sch_of schHandle_restOpened
    · exact deliver_sch_of (schHandle_restWake rest)
    · exact deliver_sch_of (schHandle_restWake_idle rest)
    · rw [hs]
      exact deliver_sch_of (clockAtSch_moved _ moved rest)
    · exact deliver_sch_of (clockAtSch_idle _ h)

end Sys2Proof.Machine

/-! O41: SCHED_ADD, SCHED_REMOVE and SCHED_LIST (R148 to R150). -/

namespace Sys2Proof.Machine

/-- A request that SCH answers with `body` and hands `ms` on. -/
theorem exec_schRequest {i : Instr} {tag k : Byte} {q : Request} {e : SchEv} {s : State} {c : Sch} {st : Status}
    {body : List Byte} {ms : List Msg} (hi : requestOf i = some (tag, q)) (hk : BitVec.ofNat 8 (q.code + 128) = k)
    (hs : HasSlot s) (ht : serviceTier q.code = false) (ho : q.owner = some (.sch e))
    (he : schHandle e (dispatched k tag s) = (c, answer st body :: ms)) :
    exec i s = .next (finish ms (answered k tag st.code body { dispatched k tag s with sch := c })) := by
  rw [exec_requestOf hi]
  refine congrArg _ (request_finish hk hs (fun h => ?_) ho (owner_rank ho) (deliver_sch_of he) rfl)
  exact absurd (ht.symm.trans h) Bool.false_ne_true

/-! ### SCHED_ADD (R147, R148) -/

/-- R147: the action that a code up to 10 names. -/
def codedAction (code : Nat) : Action := match code with
  | 0 => .preheatStart | 1 => .heatStop | 2 => .coolEnable | 3 => .coolDisable | 4 => .prechillBegin | 5 => .scene
  | 6 => .wakeLight | 7 => .quietBegin | 8 => .quietEnd | 9 => .wakeAlarm | _ => .userAlarm

theorem Action.ofCode_of_le {code : Nat} (h : code ≤ 10) : Action.ofCode code = some (codedAction code) := by
  interval_cases code <;> rfl

theorem Action.ofCode_of_lt {code : Nat} (h : 10 < code) : Action.ofCode code = none := by
  obtain ⟨n, rfl⟩ := Nat.exists_eq_add_of_le' (Nat.succ_le_of_lt h)
  rfl

theorem intIn_eq (lo hi : Int) : intIn lo hi = fun p => decide (lo ≤ p ∧ p ≤ hi) :=
  funext fun _ => (Bool.decide_and _ _).symm

theorem natIn_eq (lo hi : Nat) : natIn lo hi = fun p => decide (lo ≤ p ∧ p ≤ hi) :=
  funext fun _ => (Bool.decide_and _ _).symm

theorem paramOk_eq (a : Action) (param : Option Int) : paramOk a param = match a with
    | .preheatStart | .coolEnable => true
    | .scene => param.any fun p => decide (0 ≤ p ∧ p ≤ 255)
    | .wakeLight => param.all fun p => decide (0 ≤ p ∧ p ≤ 1000)
    | _ => param.isNone := by
  cases a <;> simp only [paramOk, intIn_eq]

section Add

variable {x : SchedArgs} {a : Action} {now : Nat} {c : Sch}

/-- R148: the tests of an entry whose action is `a`. -/
def addInRange (a : Action) (x : SchedArgs) (now : Nat) : Bool :=
  paramOk a x.param && x.period.all (natIn 60 604800) && decide (now ≤ x.due)

theorem addInRange_iff : addInRange a x now = true ↔
    paramOk a x.param = true ∧ x.period.all (fun p => decide (60 ≤ p ∧ p ≤ 604800)) = true ∧ now ≤ x.due := by
  simp only [addInRange, natIn_eq, Bool.and_eq_true, decide_eq_true_eq, and_assoc]

theorem schedAddRequest_unknown (h : 10 < x.action) : schedAddRequest x now c = (c, [answer .range []]) := by
  rw [schedAddRequest, Action.ofCode_of_lt h]

theorem schedAddRequest_range (ha : Action.ofCode x.action = some a) (h : addInRange a x now = false) :
    schedAddRequest x now c = (c, [answer .range []]) := by
  rw [schedAddRequest, ha]
  exact if_pos h

theorem schedAddRequest_full (ha : Action.ofCode x.action = some a) (h : addInRange a x now = true)
    (full : emptyHostSlot c = none) : schedAddRequest x now c = (c, [answer .full []]) := by
  rw [schedAddRequest, ha, full]
  exact if_neg (ne_false_of_eq_true h)

theorem schedAddRequest_placed {k : Nat} (ha : Action.ofCode x.action = some a) (h : addInRange a x now = true)
    (empty : emptyHostSlot c = some k) :
    schedAddRequest x now c =
      ({ c with slots := c.slots.set k (some ⟨x.due, a, x.param, x.period, c.counter, false⟩), counter := c.counter + 1 },
        [answer .ok (u8 k), .sch .sweep]) := by
  rw [schedAddRequest, ha, empty]
  exact if_neg (ne_false_of_eq_true h)

end Add

/-! ### SCHED_REMOVE (R149) -/

section Remove

variable {n : Nat} {c : Sch}

theorem schedRemoveRequest_range (h : 15 < n) : schedRemoveRequest n c = (c, [answer .range []]) := if_pos h

theorem schedRemoveRequest_empty (h : n ≤ 15) (empty : (c.slots[n]?).join = none) :
    schedRemoveRequest n c = (c, [answer .state []]) := by
  rw [schedRemoveRequest, if_neg (Nat.not_lt.mpr h), empty]

theorem schedRemoveRequest_held {e : SchedEntry} (h : n ≤ 15) (held : (c.slots[n]?).join = some e) :
    schedRemoveRequest n c =
      ({ c with slots := c.slots.set n none, done := if 10 ≤ n then c.done.set (n - 10) true else c.done },
        [answer .ok (u8 e.action.code ++ u32 e.due)]) := by
  rw [schedRemoveRequest, if_neg (Nat.not_lt.mpr h), held]

end Remove

/-! ### SCHED_LIST (R150) -/

/-- A part of a list keeps its positions. -/
theorem take_drop_zipIdx {α : Type} (l : List α) (start count : Nat) :
    (l.zipIdx.drop start).take count = ((l.drop start).take count).zipIdx start := by
  apply List.ext_getElem?
  intro m
  simp only [List.getElem?_take, List.getElem?_drop, List.getElem?_zipIdx]
  split
  · simp only [Nat.zero_add]
  · rfl

theorem schedListBody_eq (start : Nat) (c : Sch) :
    let shown := ((tableOrder c).drop start).take 4
    schedListBody start c = u8 (tableOrder c).length ++ u8 shown.length ++ (shown.zipIdx start).flatMap listedEntry := by
  intro shown
  rw [schedListBody, take_drop_zipIdx, listField, List.length_zipIdx, ← List.append_assoc]

theorem listedEntry_eq (p : (Nat × SchedEntry) × Nat) : listedEntry p =
    u8 p.1.1 ++ u32 p.1.2.due ++ u8 p.1.2.action.code ++ u8 (if p.1.1 < 10 then 0 else 1) ++
      (match p.1.2.param with
        | none => u8 0
        | some y => u8 1 ++ s16 y) ++
      (match p.1.2.period with
        | none => u8 0
        | some y => u8 1 ++ u32 y) ++ u8 p.2 := by
  cases param : p.1.2.param <;> cases period : p.1.2.period <;> simp only [listedEntry, originCode, param, period] <;> rfl

/-- Settles O41: an addition by its tests and the empty slots, a removal by its slot, and the listing. -/
theorem scheduleRequestsKeepTheTable : Obligations.ScheduleRequestsKeepTheTable := by
  intro tag x n s slot c u v action param ok empty entry
  have named (h : x.action ≤ 10) : Action.ofCode x.action = some action := Action.ofCode_of_le h
  have inRange : x.action ≤ 10 ∧ addInRange action x s.rcl.cabTime = true ↔ ok := by
    have tests := addInRange_iff (a := action) (x := x) (now := s.rcl.cabTime)
    rw [paramOk_eq] at tests
    exact and_congr_right' tests
  refine ⟨fun h => ?_, fun h full => ?_, fun k hk h => ?_, fun h => ?_, fun h held => ?_, fun e held h => ?_, ?_⟩
  · have refused : schedAddRequest x s.rcl.cabTime c = (c, [answer .range []]) := by
      by_cases hx : x.action ≤ 10
      · refine schedAddRequest_range (named hx) ?_
        exact Bool.eq_false_iff.mpr fun hr => h (inRange.mp ⟨hx, hr⟩)
      · exact schedAddRequest_unknown (Nat.not_le.mp hx)
    exact exec_schRequest (e := .add x) (st := .range) rfl rfl slot rfl rfl refused
  · obtain ⟨hx, hr⟩ := inRange.mpr h
    exact exec_schRequest (e := .add x) (st := .full) rfl rfl slot rfl rfl (schedAddRequest_full (named hx) hr full)
  · obtain ⟨hx, hr⟩ := inRange.mpr h
    exact exec_schRequest (e := .add x) (st := .ok) rfl rfl slot rfl rfl (schedAddRequest_placed (named hx) hr hk)
  · exact exec_schRequest (e := .remove n) (st := .range) rfl rfl slot rfl rfl (schedRemoveRequest_range h)
  · exact exec_schRequest (e := .remove n) (st := .state) rfl rfl slot rfl rfl (schedRemoveRequest_empty h held)
  · exact exec_schRequest (e := .remove n) (st := .ok) rfl rfl slot rfl rfl (schedRemoveRequest_held h held)
  · have listed := exec_schRequest (i := .schedList tag n) (e := .list n) (st := .ok) rfl rfl slot rfl rfl rfl
    rw [schedListBody_eq, show listedEntry = _ from funext listedEntry_eq] at listed
    exact listed

end Sys2Proof.Machine

/-! O42: the alert records, the quiet flag and the button (R162 to R166, R169 to R172). First, for O43 and O44 too, a command
and a request at ALR. -/

namespace Sys2Proof.Machine

/-! ### A command and a request at ALR -/

section Commands

variable {s : State} {a : Alr} {e : AlrEv} {i : Instr} {ms : List Msg}

/-- A command whose event takes ALR to `a`, handing `ms` on. -/
theorem exec_alr_next (hi : exec i s = .next (event (.alr e) s)) (he : alrHandle e (fresh s) = (a, ms)) :
    exec i s = .next (settle ms { fresh s with alr := a }) :=
  exec_settle hi (deliver_alr_of he)

/-- A command whose event finds nothing to do at ALR. -/
theorem exec_alr_idle (hi : exec i s = .next (event (.alr e) s)) (he : alrHandle e (fresh s) = (s.alr, [])) :
    exec i s = .next (fresh s) :=
  exec_quiet hi (deliver_alr_of he)

/-- A request that ALR answers with `body` and hands `ms` on. -/
theorem exec_alrRequest {tag k : Byte} {q : Request} {st : Status} {body : List Byte} (hi : requestOf i = some (tag, q))
    (hk : BitVec.ofNat 8 (q.code + 128) = k) (hs : HasSlot s) (ht : serviceTier q.code = false)
    (ho : q.owner = some (.alr e)) (he : alrHandle e (dispatched k tag s) = (a, answer st body :: ms)) :
    exec i s = .next (finish ms (answered k tag st.code body { dispatched k tag s with alr := a })) := by
  rw [exec_requestOf hi]
  refine congrArg _ (request_finish hk hs (fun h => ?_) ho rfl (deliver_alr_of he) rfl)
  exact absurd (ht.symm.trans h) Bool.false_ne_true

end Commands

/-! ### What an event makes of one record (R162 to R165) -/

section Records

variable {k : Nat} {quiet : Bool} {r : AlertRecord}

/-- R161: the kinds of urgency 2 and 3. -/
theorem two_le_urgency_iff : 2 ≤ urgency k ↔ 3 ≤ k := by
  match k with
  | 0 | 1 | 2 | 3 | 4 | 5 => decide
  | n + 6 => simp [urgency]

theorem soundState_eq (k : Nat) (quiet : Bool) :
    soundState k quiet = if quiet = true ∧ 3 ≤ k then .held else .sounding := by
  simp only [soundState, Bool.and_eq_true, decide_eq_true_eq, two_le_urgency_iff]

theorem wordRecord_same : wordRecord k r.raised quiet r = r := if_pos rfl

theorem wordRecord_raise (h : r.raised = false) :
    wordRecord k true quiet r =
      { r with
        raised := true
        state := if r.state = .inactive then if quiet = true ∧ 3 ≤ k then .held else .sounding else r.state } := by
  rw [wordRecord, h, soundState_eq]
  rfl

theorem wordRecord_clear (h : r.raised = true) :
    wordRecord k false quiet r = { r with raised := false, state := .inactive, resound := none } := by
  rw [wordRecord, h]
  rfl

theorem raiseRecord_eq (k : Nat) (quiet : Bool) (r : AlertRecord) :
    raiseRecord k quiet r = match r.state with
      | .inactive => { r with state := if quiet = true ∧ 3 ≤ k then .held else .sounding, sounding := 0 }
      | .sounding => { r with sounding := 0 }
      | _ => r := by
  cases hr : r.state <;> simp only [raiseRecord, hr, soundState_eq]

theorem quietRecord_eq (k : Nat) (flag : Bool) (r : AlertRecord) :
    quietRecord k flag r = { r with
      state :=
        if flag = true ∧ r.state = .sounding ∧ 3 ≤ k then .held
        else if flag = false ∧ r.state = .held then .sounding
        else r.state } := by
  cases flag with
  | true =>
    simp only [quietRecord, two_le_urgency_iff, if_true, true_and, reduceCtorEq, false_and, if_false]
    split <;> rfl
  | false =>
    simp only [quietRecord, true_and, false_and, if_false, Bool.false_eq_true]
    split <;> rfl

end Records

/-! ### Records changed, then the owner settled (R166, R172) -/

section Changes

variable {a : Alr} {k : Nat}

theorem setRecord_record (k : Nat) (a : Alr) : setRecord k (a.record k) a = a := by
  have same : a.records.set k (a.record k) = a.records := by
    apply List.ext_getElem?
    intro j
    by_cases h : k = j
    · subst h
      by_cases hk : k < a.records.length <;> simp [Alr.record, hk]
    · rw [List.getElem?_set_ne h]
  rw [setRecord, same]

/-- One record changed to `r`, with all it hands on. -/
theorem changeRecord_of {f : AlertRecord → AlertRecord} {r : AlertRecord} (h : f (a.record k) = r) :
    changeRecord k f a = ((ownerSettled (setRecord k r a)).1, alertsFollow a (setRecord k r a)) := by
  rw [changeRecord, h, Laws.settleAlerts_eq]

/-- A record left as it was: the owner settles all the same. -/
theorem changeRecord_same {f : AlertRecord → AlertRecord} (h : f (a.record k) = a.record k) :
    changeRecord k f a = ((ownerSettled a).1, alertsFollow a a) := by
  rw [changeRecord_of h, setRecord_record]

/-- R165: a change of the quiet flag at every record. -/
theorem changeRecords_quietRecord (flag : Bool) (a : Alr) :
    let a' := { a with records := a.records.zipIdx.map fun p => { p.1 with
      state :=
        if flag = true ∧ p.1.state = .sounding ∧ 3 ≤ p.2 then .held
        else if flag = false ∧ p.1.state = .held then .sounding
        else p.1.state } }
    changeRecords (fun k => quietRecord k flag) a = ((ownerSettled a').1, alertsFollow a a') := by
  simp only [changeRecords, Laws.settleAlerts_eq, quietRecord_eq]

/-! ### The sounding time and the re-sound timer (R164, R171) -/

theorem soundingEnd_due (h5 : 5 ≤ k) (hs : (a.record k).state = .sounding) (ht : 600 ≤ (a.record k).sounding) :
    soundingEnd k a = changeRecord k (fun r => { r with state := .inactive }) a :=
  if_pos ⟨decide_eq_true h5, hs, ht⟩

theorem soundingEnd_idle (h : k < 5 ∨ (a.record k).state ≠ .sounding ∨ (a.record k).sounding < 600) :
    soundingEnd k a = (a, []) := by
  refine if_neg ?_
  rintro ⟨hk, hs, ht⟩
  have h5 : 5 ≤ k := of_decide_eq_true hk
  obtain h | h | h := h
  · omega
  · exact h hs
  · omega

theorem resoundEnd_due (hs : (a.record k).state = .silenced) (ht : (a.record k).resound = some 0) :
    resoundEnd k a = changeRecord k (fun r => { r with state := .sounding, resound := none }) a :=
  if_pos ⟨hs, ht⟩

theorem resoundEnd_idle (h : (a.record k).state ≠ .silenced ∨ (a.record k).resound ≠ some 0) : resoundEnd k a = (a, []) :=
  if_neg fun ⟨hs, ht⟩ => h.elim (· hs) (· ht)

/-! ### An acknowledgement (R169, R171) -/

/-- The code that an acknowledgement reports: 0, INACTIVE, for an event alert and 3, SILENCED, for a condition alert. -/
theorem code_acknowledged (hk : k < a.records.length) :
    ((ownerSettled (acknowledged k a)).1.record k).state.code = if 5 ≤ k then 0 else 3 := by
  rw [Alr.record, Laws.ownerSettled_records]
  refine (congrArg AlertState.code (Laws.record_acknowledged k a hk)).trans ?_
  split <;> rfl

theorem acknowledge_eq (source : Nat) (hk : k < a.records.length) :
    acknowledge k source a =
      ((ownerSettled (acknowledged k a)).1,
        alertsFollow a (acknowledged k a) ++ [post 23 (u8 k ++ u8 (if 5 ≤ k then 0 else 3) ++ u8 source)]) := by
  rw [acknowledge, Laws.changeRecord_ackRecord]
  dsimp only
  rw [code_acknowledged hk]

theorem alrHandle_buttonAck {s : State} (ho : s.alr.owner = some k) : alrHandle .buttonAck s = acknowledge k 1 s.alr := by
  simp only [alrHandle, ho]

theorem alrHandle_buttonAck_idle {s : State} (ho : s.alr.owner = none) : alrHandle .buttonAck s = (s.alr, []) := by
  simp only [alrHandle, ho]

end Changes

/-- Settles O42: each timer by whether it has run out, a word by what the record holds of its condition, the quiet flag over
all records, and the button by the owner. -/
theorem alertRecordsFollowTheirWords : Obligations.AlertRecordsFollowTheirWords := by
  refine ⟨?_, ?_, ?_, ?_⟩
  · intro kind s a r put
    refine ⟨fun h5 hs ht => ?_, fun h => ?_, fun hs ht => ?_, fun h => ?_⟩
    · have handled := (soundingEnd_due h5 hs ht).trans (changeRecord_of rfl)
      rw [alertsNext, List.append_nil]
      exact exec_alr_next (e := .soundingExpiry kind) rfl handled
    · exact exec_alr_idle (e := .soundingExpiry kind) rfl (soundingEnd_idle h)
    · have handled := (resoundEnd_due hs ht).trans (changeRecord_of rfl)
      rw [alertsNext, List.append_nil]
      exact exec_alr_next (e := .resoundExpiry kind) rfl handled
    · exact exec_alr_idle (e := .resoundExpiry kind) rfl (resoundEnd_idle h)
  · intro kind raised s _ a r entered put settled
    refine ⟨?_, ?_, ?_, ?_⟩
    · rintro held rfl
      exact deliver_alr_of (changeRecord_of (wordRecord_clear held))
    · rintro clear rfl
      exact deliver_alr_of (changeRecord_of (wordRecord_raise clear))
    · rintro rfl
      exact deliver_alr_of (changeRecord_same wordRecord_same)
    · exact deliver_alr_of (changeRecord_of (raiseRecord_eq kind s.rcl.quiet r))
  · intro flag s a a'
    exact deliver_alr_of (changeRecords_quietRecord flag a)
  · intro s a
    refine ⟨fun ho => ?_, fun k ho hk => ?_⟩
    · exact deliver_alr_of (alrHandle_buttonAck_idle ho)
    · exact deliver_alr_of ((alrHandle_buttonAck ho).trans (acknowledge_eq 1 hk))

end Sys2Proof.Machine

/-! O43: the buzzer's pattern (R166, R167). -/

namespace Sys2Proof.Machine

section Pattern

variable {a : Alr} {n k : Nat}

/-! ### The last off period -/

theorem lastOff_on (hp : a.phase = .beep n true) : lastOff a = false := by
  rw [lastOff, hp]
  cases a.owner <;> rfl

theorem lastOff_still (hp : a.phase = .silent ∨ a.phase = .gap) : lastOff a = false := by
  rw [lastOff]
  obtain hp | hp := hp <;> rw [hp] <;> cases a.owner <;> rfl

/-- In an off period: whether the beep before it was the owner's last. -/
theorem lastOff_off (hp : a.phase = .beep n false) : lastOff a = a.owner.any fun k => decide (burstBeeps k ≤ n) := by
  rw [lastOff, hp]
  cases a.owner with
  | none => rfl
  | some k => exact congrArg (fun b => decide (b ≤ n)) (Laws.beepsOf_eq k)

theorem lastOff_more (hp : a.phase = .beep n false) (more : a.owner.all (fun k => decide (n < burstBeeps k)) = true) :
    lastOff a = false := by
  rw [lastOff_off hp]
  cases ho : a.owner with
  | none => rfl
  | some k =>
    have left : n < burstBeeps k := by simpa [ho] using more
    simpa using left

/-! ### The three events of the pattern -/

/-- R166, R167: where the last off period of a burst leads. -/
def burstEnded (a : Alr) : Alr × List Msg :=
  match firstSounding a with
  | none => ownedByNone a
  | some k => if a.owner = some k then ({ a with phase := .gap, nextBurst := a.nextBurst - 200 }, []) else ownedBy k a

theorem burstBoundary_last (h : lastOff a = true) : burstBoundary a = burstEnded a := by
  rw [burstBoundary, if_pos h, burstEnded, Laws.firstSounding_eq]
  cases candidate a with
  | none => rfl
  | some k => simp only [Laws.becomeOwner_eq, eq_comm (a := some k)]

theorem burstBoundary_idle (h : lastOff a = false) : burstBoundary a = (a, []) := if_neg (Bool.eq_false_iff.mp h)

theorem beepPhase_on (hp : a.phase = .beep n true) :
    beepPhase a = ({ a with phase := .beep n false, nextBurst := a.nextBurst - 200, buzzer := false }, []) := by
  rw [beepPhase, hp]

theorem beepPhase_off (hp : a.phase = .beep n false) :
    beepPhase a = if lastOff a then burstBoundary a
      else ({ a with phase := .beep (n + 1) true, nextBurst := a.nextBurst - 200, buzzer := true }, []) := by
  rw [beepPhase, hp]

theorem beepPhase_still (hp : a.phase = .silent ∨ a.phase = .gap) : beepPhase a = (a, []) := by
  rw [beepPhase]
  obtain hp | hp := hp <;> rw [hp]

theorem burstStart_gap (ho : a.owner = some k) (hp : a.phase = .gap) :
    burstStart a = { a with phase := .beep 1 true, nextBurst := burstPeriod k, buzzer := true } := by
  have period : periodOf (urgency k) = burstPeriod k := congrArg (fun p => p.1.nextBurst) (Laws.becomeOwner_eq k a)
  rw [burstStart, hp, ho, ← period]

theorem burstStart_idle (h : a.owner = none ∨ a.phase ≠ .gap) : burstStart a = a := by
  unfold burstStart
  split
  · next hp ho => exact absurd h (by simp [hp, ho])
  · rfl

end Pattern

/-- Settles O43: each event of the pattern by the phase it finds, and an off period by whether it is the owner's last. -/
theorem buzzerFollowsThePattern : Obligations.BuzzerFollowsThePattern := by
  intro s a left u result boundary
  have boundary_eq : burstEnded a = boundary := rfl
  have phases {p : Alr × List Msg} (h : beepPhase a = p) : exec .beepPhase s = result p :=
    exec_alr_next (e := .beepPhase) rfl h
  have ends {p : Alr × List Msg} (h : burstBoundary a = p) : exec .burstBoundary s = result p :=
    exec_alr_next (e := .boundary) rfl h
  have waits (h : lastOff a = false) : exec .burstBoundary s = .next u :=
    exec_alr_idle (e := .boundary) rfl (burstBoundary_idle h)
  refine ⟨fun k ho hp => ?_, fun h => ?_, fun n hp => ?_, fun n hp => ⟨fun more => ?_, fun last => ?_⟩, fun hp => ?_⟩
  · exact exec_alr_next (e := .burstStart) rfl (congrArg (·, []) (burstStart_gap ho hp))
  · exact exec_alr_idle (e := .burstStart) rfl (congrArg (·, []) (burstStart_idle h))
  · exact ⟨phases (beepPhase_on hp), waits (lastOff_on hp)⟩
  · have off := lastOff_more hp more
    exact ⟨phases ((beepPhase_off hp).trans (if_neg (Bool.eq_false_iff.mp off))), waits off⟩
  · have off : lastOff a = true := (lastOff_off hp).trans last
    have ended := (burstBoundary_last off).trans boundary_eq
    exact ⟨phases ((beepPhase_off hp).trans ((if_pos off).trans ended)), ends ended⟩
  · exact ⟨exec_alr_idle (e := .beepPhase) rfl (beepPhase_still hp), waits (lastOff_still hp)⟩

end Sys2Proof.Machine

/-! O44: ALERT_ACK in its two forms, and LGT's answers about the flash (R168, R169, R171, R172). -/

namespace Sys2Proof.Machine

section Acknowledge

variable {kind k : Nat} {a : Alr}

/-! ### The acknowledge form (R169) -/

/-- R169: the record that a request names, 255 standing for the owner. -/
def ackTarget (kind : Nat) (a : Alr) : Option Nat := if kind = 255 then a.owner else some kind

theorem AlertState.open_iff (x : AlertState) : x.open = true ↔ x = .sounding ∨ x = .held := by
  cases x <;> simp [AlertState.open]

theorem AlertState.open_eq_false {x : AlertState} (h : x = .inactive ∨ x = .silenced) : x.open = false := by
  obtain rfl | rfl := h <;> rfl

theorem ackRequest_range (bad : 7 < kind ∧ kind ≠ 255) : ackRequest kind a = (a, [answer .range []]) := if_pos bad

theorem ackRequest_none (good : ¬(7 < kind ∧ kind ≠ 255)) (ht : ackTarget kind a = none) :
    ackRequest kind a = (a, [answer .state []]) := by
  rw [ackTarget] at ht
  rw [ackRequest, if_neg good, ht]

theorem ackRequest_closed (good : ¬(7 < kind ∧ kind ≠ 255)) (ht : ackTarget kind a = some k)
    (h : (a.record k).state = .inactive ∨ (a.record k).state = .silenced) :
    ackRequest kind a = (a, [answer .state []]) := by
  rw [ackTarget] at ht
  rw [ackRequest, if_neg good, ht]
  exact if_neg (Bool.eq_false_iff.mp (AlertState.open_eq_false h))

theorem ackRequest_open (good : ¬(7 < kind ∧ kind ≠ 255)) (ht : ackTarget kind a = some k)
    (h : (a.record k).state = .sounding ∨ (a.record k).state = .held) (hk : k < a.records.length) :
    ackRequest kind a =
      ((ownerSettled (acknowledged k a)).1,
        answer .ok (u8 k ++ u8 (if 5 ≤ k then 0 else 3)) ::
          (alertsFollow a (acknowledged k a) ++ [post 23 (u8 k ++ u8 (if 5 ≤ k then 0 else 3) ++ u8 0)])) := by
  rw [ackTarget] at ht
  rw [ackRequest, if_neg good, ht]
  refine (if_pos ((AlertState.open_iff _).mpr h)).trans ?_
  rw [acknowledge_eq 0 hk]
  dsimp only
  rw [code_acknowledged hk]

/-! ### The settings form (R168, R172) -/

variable {n : Nat}

theorem channelRequest_range (h : 7 < n) : channelRequest n a = (a, [answer .range []]) := if_pos h

theorem channelRequest_of {a' : Alr} {ms : List Msg} (h : n ≤ 7) (hc : setAlertChannel n a = (a', ms)) :
    channelRequest n a = (a', answer .ok [] :: ms) := by
  rw [channelRequest, if_neg (Nat.not_lt.mpr h), hc]

theorem setAlertChannel_stays (h : a.owner = none ∨ n = a.channel) :
    setAlertChannel n a = ({ a with channel := n }, []) := by
  refine if_neg ?_
  rintro ⟨owned, moved⟩
  exact h.elim (Option.isSome_iff_ne_none.mp owned) moved

theorem setAlertChannel_moves (owned : a.owner ≠ none) (moved : n ≠ a.channel) :
    setAlertChannel n a =
      ({ a with channel := n, flashFlag := false },
        [.lgt (.flashCancel a.channel), .lgt (.flashStart n 1000 4 4)]) :=
  if_pos ⟨Option.isSome_iff_ne_none.mpr owned, moved⟩

end Acknowledge

/-- Settles O44: an acknowledgement by its kind and the record it names, a channel by whether it moves the flash of an owner,
and each answer of LGT. -/
theorem alertAckSilencesAnAlert : Obligations.AlertAckSilencesAnAlert := by
  refine ⟨?_, ?_⟩
  · intro tag kind channel s slot a u target bad state
    have acks {st : Status} {body : List Byte} {a' : Alr} {ms : List Msg}
        (h : ackRequest kind a = (a', answer st body :: ms)) :=
      exec_alrRequest (i := .alertAck tag kind) (e := .ack kind) (k := 0x8D#8) rfl rfl slot rfl rfl h
    have sets {st : Status} {body : List Byte} {a' : Alr} {ms : List Msg}
        (h : channelRequest channel a = (a', answer st body :: ms)) :=
      exec_alrRequest (i := .alertAckSettings tag channel) (e := .channel channel) (k := 0x8D#8) rfl rfl slot rfl rfl h
    refine ⟨fun h => ?_, fun good h => ?_, fun k ht hk good h => ?_, fun h => ?_, fun hc h => ?_, fun hc owned moved => ?_⟩
    · exact acks (ackRequest_range h)
    · obtain none_named | ⟨k, ht, closed⟩ := h
      · exact acks (ackRequest_none good none_named)
      · exact acks (ackRequest_closed good ht closed)
    · exact acks (ackRequest_open good ht h hk)
    · exact sets (channelRequest_range h)
    · exact sets (channelRequest_of hc (setAlertChannel_stays h))
    · exact sets (channelRequest_of hc (setAlertChannel_moves owned moved))
  · intro k s
    refine ⟨rfl, fun here => ?_, fun other => ?_⟩
    · exact deliver_alr_of (congrArg (·, []) (if_pos here))
    · exact deliver_alr_of (congrArg (·, []) (if_neg other))

end Sys2Proof.Machine

/-! RPQ in the words of the statements, for O45 to O47, O49 and O58: the end of an event there (R180, R181, R185), a delivery and
a request at RPQ, and the queue order (R176). -/

namespace Sys2Proof.Machine

/-! ### The end of an event (R180, R181, R185) -/

section Reports

variable {s : State} {q : Rpq} {e : QEntry}

theorem linkFreeForReport_iff (l : Lnk) :
    linkFreeForReport l = true ↔ l.tx = .idle ∧ l.slots = [] ∧ l.reserved = none ∧ l.answer = none := by
  simp only [linkFreeForReport, Bool.and_eq_true, beq_iff_eq, List.isEmpty_iff, Option.isNone_iff_eq_none, and_assoc]

/-- The statements' conditions of a take are the model's. -/
theorem reportTaken_eq (s : State) (q : Rpq) :
    reportTaken s q = if q.gate && linkFreeForReport s.lnk && !anyInFlight q then q.queue.head? else none := by
  refine if_congr ?_ rfl rfl
  simp only [Bool.and_eq_true, linkFreeForReport_iff, anyInFlight, Bool.not_eq_true', and_assoc]

/-- The report that LNK takes is the head of the queue, and none was in flight. -/
theorem reportTaken_some (h : reportTaken s q = some e) :
    (∃ rest, q.queue = e :: rest) ∧ ∀ x ∈ q.queue, x.inFlight = false := by
  rw [reportTaken_eq, Option.ite_none_right_eq_some, Bool.and_eq_true] at h
  obtain ⟨⟨-, idle⟩, head⟩ := h
  exact ⟨List.head?_eq_some_iff.mp head, by simpa [anyInFlight] using idle⟩

/-- R180: the report taken, by what LNK may take. -/
theorem takeReport_eq (s : State) (q : Rpq) :
    takeReport s q = match reportTaken s q with
      | none => (q, [])
      | some e => ({ q with queue := { e with inFlight := true } :: q.queue.drop 1 }, [.lnk (.sendReport (reportFrame e))]) := by
  rw [reportTaken_eq, takeReport]
  split
  · next e rest hq =>
    rw [hq]
    by_cases free : (q.gate && linkFreeForReport s.lnk && !anyInFlight q) = true
    · rw [if_pos free, if_pos free]
      rfl
    · rw [if_neg free, if_neg free]
  · next hq => rw [hq, List.head?_nil, ite_self]

/-- R180, R181, R185: the end of an event at RPQ. -/
theorem concludeReports_eq (s : State) (q : Rpq) (ms : List Msg) :
    concludeReports s q ms = (reportsKept s q, ms ++ reportsFollow s q) := by
  have review : msgsIf (s.rpq.queue.isEmpty != q.queue.isEmpty) [.chg .review] =
      if s.rpq.queue.isEmpty = q.queue.isEmpty then [] else [.chg .review] := by
    by_cases same : s.rpq.queue.isEmpty = q.queue.isEmpty <;> simp [msgsIf, same]
  have taken : reportTaken s { q with attn := attention q } = reportTaken s q := rfl
  rw [concludeReports, takeReport_eq, taken, review, reportsKept, reportsFollow, ← List.append_assoc]
  cases reportTaken s q <;> rfl

/-- With a slot reserved for a reply LNK takes no report (log 33). -/
theorem reportsKept_reserved (hr : s.lnk.reserved ≠ none) : reportsKept s q = { q with attn := attnOf q } := by
  have untaken : reportTaken s q = none := if_neg fun ⟨_, _, _, free, _⟩ => hr free
  rw [reportsKept, untaken]

theorem reportsFollow_reserved (hr : s.lnk.reserved ≠ none) (he : s.rpq.queue.isEmpty = q.queue.isEmpty) :
    reportsFollow s q = [] := by
  have untaken : reportTaken s q = none := if_neg fun ⟨_, _, _, free, _⟩ => hr free
  rw [reportsFollow, untaken, if_pos he]
  rfl

/-! ### A delivery and a request at RPQ -/

variable {ev : RpqEv} {ms : List Msg}

theorem deliver_rpq_of (he : rpqEffect ev s = (q, ms)) :
    deliver (.rpq ev) s = ({ s with rpq := reportsKept s q }, ms ++ reportsFollow s q) := by
  rw [deliver_rpq, rpqHandle, he, concludeReports_eq]

/-- A request that RPQ answers with `body`, leaving itself as `q`, by which the queue neither empties nor fills. -/
theorem exec_rpqRequest {i : Instr} {tag k : Byte} {r : Request} {st : Status} {body : List Byte}
    (hi : requestOf i = some (tag, r)) (hk : BitVec.ofNat 8 (r.code + 128) = k) (hs : HasSlot s)
    (ht : serviceTier r.code = false) (ho : r.owner = some (.rpq ev))
    (he : rpqEffect ev (dispatched k tag s) = (q, [answer st body])) (hq : s.rpq.queue.isEmpty = q.queue.isEmpty) :
    exec i s = .next (finish []
      (answered k tag st.code body { dispatched k tag s with rpq := { q with attn := attnOf q } })) := by
  have reserved : (dispatched k tag s).lnk.reserved ≠ none := nofun
  have delivered : deliver (.rpq ev) (dispatched k tag s) =
      ({ dispatched k tag s with rpq := { q with attn := attnOf q } }, [answer st body]) := by
    rw [deliver_rpq_of he, reportsKept_reserved reserved, reportsFollow_reserved reserved hq, List.append_nil]
  rw [exec_requestOf hi]
  refine congrArg _ (request_finish hk hs (fun h => ?_) ho rfl delivered rfl)
  exact absurd (ht.symm.trans h) Bool.false_ne_true

end Reports

/-! ### The queue order (R176) -/

/-- The model's insertion is the library's, by the order of R176. -/
theorem insertReport_eq (x : QEntry) (l : List QEntry) :
    insertReport x l = l.orderedInsert (fun a b => reportBefore a b = true) x := by
  induction l with
  | nil => rfl
  | cons y l ih => rw [insertReport, List.orderedInsert_cons, ih]

theorem reportBefore_iff (a b : QEntry) :
    reportBefore a b = true ↔ a.level < b.level ∨ (a.level = b.level ∧ a.cause ≤ b.cause) := by
  simp [reportBefore]

/-- R176: an entry inserted stands behind those that come before it. -/
theorem insertReport_eq_placed (x : QEntry) (l : List QEntry) : insertReport x l = placed x l := by
  have behind : (fun y => decide ¬reportBefore x y = true) =
      fun y : QEntry => decide (y.level < x.level ∨ (y.level = x.level ∧ y.cause < x.cause)) := by
    funext y
    rw [decide_eq_decide, reportBefore_iff]
    omega
  rw [insertReport_eq, List.orderedInsert_eq_take_drop, behind]
  rfl

end Sys2Proof.Machine

/-! What each event at RPQ comes to, for O45 to O47, O49 and O58: a post, the queue it enters, and a cause re-levelled (R174 to
R177, R180). -/

namespace Sys2Proof.Machine

section Events

variable {s : State} {q : Rpq} {cause now d : Nat} {data : List Byte}

/-! ### A post (R175) -/

theorem takePost_captured (h : armedFor q cause = some d) : takePost cause data s q = capture d s q := by
  rw [takePost, h]

theorem takePost_masked (h : armedFor q cause = none) (hm : q.mask < causeLevel q cause) :
    takePost cause data s q = ({ q with marks := q.marks.set (cause - 1) true }, []) := by
  rw [takePost, h]
  exact if_pos hm

theorem takePost_queued (h : armedFor q cause = none) (hm : causeLevel q cause ≤ q.mask) :
    takePost cause data s q = (enterQueue cause s.rcl.cabTime data q, []) := by
  rw [takePost, h]
  exact if_neg (Nat.not_lt.mpr hm)

/-! ### Entering the queue (R176, R177) -/

/-- The entry that a post of a cause without one makes. -/
def newEntry (cause now : Nat) (data : List Byte) (q : Rpq) : QEntry :=
  ⟨cause, causeLevel q cause, 1, now, now, data, false, 0, 0⟩

theorem enterQueue_folds (h : (q.queue.any fun e => e.cause == cause) = true) :
    enterQueue cause now data q =
      { q with queue := q.queue.map fun e => if e.cause = cause then coalesce now data e else e } :=
  if_pos h

theorem enterQueue_enters (h : (q.queue.any fun e => e.cause == cause) = false) (hl : q.queue.length < 16) :
    enterQueue cause now data q = { q with queue := insertReport (newEntry cause now data q) q.queue } := by
  rw [enterQueue, if_neg (Bool.eq_false_iff.mp h)]
  exact if_pos hl

theorem enterQueue_overflows (h : (q.queue.any fun e => e.cause == cause) = false) (hl : 16 ≤ q.queue.length) :
    enterQueue cause now data q = overflow (newEntry cause now data q) q := by
  rw [enterQueue, if_neg (Bool.eq_false_iff.mp h)]
  exact if_neg (Nat.not_lt.mpr hl)

theorem any_cause_eq_false_iff {l : List QEntry} :
    (l.any fun e => e.cause == cause) = false ↔ ∀ e ∈ l, e.cause ≠ cause := by
  simp

/-! ### The levels (R174) -/

/-- A cause re-levelled: its entry goes to the place that the new level gives it. -/
theorem relevel_eq (cause level : Nat) (q : Rpq) :
    relevel cause level q =
      { q with
        levels := q.levels.set (cause - 1) level
        queue := match q.queue.find? fun e => decide (e.cause = cause) with
          | none => q.queue
          | some e => placed { e with level := level } (q.queue.filter fun x => decide (x.cause ≠ cause)) } := by
  have others : (fun x : QEntry => x.cause != cause) = fun x => decide (x.cause ≠ cause) := by
    funext x
    rw [bne, beq_eq_decide, decide_not]
  have held : (fun e : QEntry => e.cause == cause) = fun e => decide (e.cause = cause) := funext fun e => beq_eq_decide _ _
  unfold relevel
  simp only [held, others, insertReport_eq_placed]
  cases q.queue.find? fun e => decide (e.cause = cause) <;> rfl

end Events

end Sys2Proof.Machine

/-! O58: every step keeps the report queue in order. -/

namespace Sys2Proof.Machine

/-! ### The invariant of RPQ in its parts -/

/-- Two entries that may stand in one queue: of different causes and not both in flight (R176, R180). -/
def QEntry.Apart (a b : QEntry) : Prop := a.cause ≠ b.cause ∧ ¬(a.inFlight = true ∧ b.inFlight = true)

/-- The counts of an entry within their limits (R176). -/
def QEntry.Counted (e : QEntry) : Prop := 1 ≤ e.count ∧ e.count ≤ 255 ∧ e.since ≤ 255

/-- An entry that may stand in the place of another: of its cause and level, in flight only with it. -/
def QEntry.Replaces (x e : QEntry) : Prop :=
  x.cause = e.cause ∧ x.level = e.level ∧ (x.inFlight = true → e.inFlight = true)

theorem QEntry.Apart.symm {a b : QEntry} (h : a.Apart b) : b.Apart a := ⟨h.1.symm, fun hf => h.2 hf.symm⟩

/-- A queue in order (R176, R180). -/
structure QueueOrdered (l : List QEntry) : Prop where
  sorted : l.Pairwise fun a b => reportBefore a b = true
  apart : l.Pairwise QEntry.Apart
  counted : ∀ e ∈ l, e.Counted

/-- RPQ with its queue in order, and its lists and its lost-report count within their limits. -/
def Rpq.Fits (q : Rpq) : Prop :=
  QueueOrdered q.queue ∧ q.queue.length ≤ 16 ∧ q.lost ≤ 65535 ∧ q.descs.length = 4 ∧ q.buffer.length = 32

/-- Without two of a cause, the order by level and cause is strict. -/
theorem queueOrdered_iff (l : List QEntry) :
    QueueOrdered l ↔ (l.map QEntry.cause).Nodup ∧
      l.Pairwise (fun a b => a.level < b.level ∨ (a.level = b.level ∧ a.cause < b.cause)) ∧
      l.Pairwise (fun a b => ¬(a.inFlight = true ∧ b.inFlight = true)) ∧
      ∀ e ∈ l, 1 ≤ e.count ∧ e.count ≤ 255 ∧ e.since ≤ 255 := by
  constructor
  · rintro ⟨sorted, apart, counted⟩
    refine ⟨List.pairwise_map.mpr (apart.imp And.left), (sorted.and apart).imp fun {a b} h => ?_, apart.imp And.right,
      counted⟩
    obtain ⟨before, other, -⟩ := h
    rw [reportBefore_iff] at before
    omega
  · rintro ⟨causes, strict, flights, counted⟩
    refine ⟨strict.imp fun {a b} h => (reportBefore_iff a b).mpr (by omega), ?_, counted⟩
    exact (List.pairwise_map.mp causes).and flights

theorem reportsInv_iff (s : State) : reportsInv s ↔ s.rpq.Fits ∧ s.rpq.attn = attnOf s.rpq := by
  simp only [reportsInv, Rpq.Fits, queueOrdered_iff]
  tauto

/-! ### What keeps a queue in order (R176, R180) -/

namespace QueueOrdered

variable {l l' : List QEntry} {x e : QEntry}

theorem sublist (h : QueueOrdered l) (hl : List.Sublist l' l) : QueueOrdered l' :=
  ⟨h.sorted.sublist hl, h.apart.sublist hl, fun e he => h.counted e (hl.subset he)⟩

/-- An entry of another cause than those queued, put at its place. -/
theorem insert (h : QueueOrdered l) (hx : x.Counted) (hl : ∀ e ∈ l, x.Apart e) : QueueOrdered (insertReport x l) := by
  have total : Std.Total fun a b : QEntry => reportBefore a b = true :=
    ⟨fun a b => by simp only [reportBefore_iff]; omega⟩
  have trans : IsTrans QEntry fun a b => reportBefore a b = true :=
    ⟨fun a b c => by simp only [reportBefore_iff]; omega⟩
  rw [insertReport_eq]
  refine ⟨h.sorted.orderedInsert x l, ?_, fun e he => ?_⟩
  · exact ((List.perm_orderedInsert _ x l).pairwise_iff QEntry.Apart.symm).mpr (List.pairwise_cons.mpr ⟨hl, h.apart⟩)
  · obtain rfl | he := (List.mem_orderedInsert _).mp he
    · exact hx
    · exact h.counted e he

/-- Entries that leave the queue or are replaced where they stand. -/
theorem filterMap (h : QueueOrdered l) {f : QEntry → Option QEntry} (hr : ∀ e x, f e = some x → x.Replaces e)
    (hc : ∀ e x, e.Counted → f e = some x → x.Counted) : QueueOrdered (l.filterMap f) := by
  refine ⟨h.sorted.filterMap f fun a b hab x hx y hy => ?_, h.apart.filterMap f fun a b hab x hx y hy => ?_, fun x hx => ?_⟩
  · obtain ⟨xcause, xlevel, -⟩ := hr a x hx
    obtain ⟨ycause, ylevel, -⟩ := hr b y hy
    rw [reportBefore_iff] at hab ⊢
    rwa [xcause, xlevel, ycause, ylevel]
  · obtain ⟨xcause, -, xflight⟩ := hr a x hx
    obtain ⟨ycause, -, yflight⟩ := hr b y hy
    exact ⟨by rw [xcause, ycause]; exact hab.1, fun hf => hab.2 (hf.imp xflight yflight)⟩
  · obtain ⟨e, he, hx⟩ := List.mem_filterMap.mp hx
    exact hc e x (h.counted e he) hx

/-- The same with every entry kept. -/
theorem map (h : QueueOrdered l) {f : QEntry → QEntry} (hr : ∀ e, (f e).Replaces e)
    (hc : ∀ e, e.Counted → (f e).Counted) : QueueOrdered (l.map f) := by
  rw [← List.filterMap_eq_map]
  exact h.filterMap (by rintro e x ⟨⟩; exact hr e) (by rintro e x he ⟨⟩; exact hc e he)

/-- The head taken for transmission, with none in flight (R180). -/
theorem take (h : QueueOrdered (e :: l)) (idle : ∀ x ∈ e :: l, x.inFlight = false) :
    QueueOrdered ({ e with inFlight := true } :: l) := by
  obtain ⟨sorted, apart, counted⟩ := h
  rw [List.pairwise_cons] at sorted apart
  obtain ⟨apart_head, apart_rest⟩ := apart
  refine ⟨List.pairwise_cons.mpr sorted,
    List.pairwise_cons.mpr ⟨fun y hy => ⟨(apart_head y hy).1, fun hf => ?_⟩, apart_rest⟩,
    List.forall_mem_cons.mpr ⟨counted e List.mem_cons_self, fun y hy => counted y (List.mem_cons_of_mem e hy)⟩⟩
  exact absurd hf.2 (Bool.eq_false_iff.mp (idle y (List.mem_cons_of_mem e hy)))

/-- Entries of a queue of different causes. -/
theorem apart_of_mem (h : QueueOrdered l) (he : e ∈ l) (hx : x ∈ l) (hc : e.cause ≠ x.cause) : e.Apart x := by
  have symmetric : Std.Symm QEntry.Apart := ⟨fun _ _ => QEntry.Apart.symm⟩
  exact h.apart.forall he hx fun same => hc (congrArg QEntry.cause same)

end QueueOrdered

@[simp] theorem insertReport_length (x : QEntry) (l : List QEntry) : (insertReport x l).length = l.length + 1 := by
  rw [insertReport_eq, List.orderedInsert_length]

section Fits

variable {s : State} {q : Rpq} {cause now : Nat} {data : List Byte}

/-! ### A post (R175 to R177, R183) -/

theorem coalesce_replaces (now : Nat) (data : List Byte) (e : QEntry) : (coalesce now data e).Replaces e := ⟨rfl, rfl, id⟩

theorem coalesce_counted (now : Nat) (data : List Byte) (e : QEntry) : (coalesce now data e).Counted := by
  refine ⟨show 1 ≤ min 255 (e.count + 1) by omega, Nat.min_le_left _ _, ?_⟩
  simp only [coalesce]
  split
  · exact Nat.min_le_left _ _
  · exact Nat.zero_le _

theorem fold_fits (h : q.Fits) :
    Rpq.Fits { q with queue := q.queue.map fun e => if e.cause = cause then coalesce now data e else e } := by
  obtain ⟨ordered, short, rest⟩ := h
  refine ⟨ordered.map (fun e => ?_) (fun e he => ?_), (List.length_map _).trans_le short, rest⟩
  · split
    · exact coalesce_replaces now data e
    · exact ⟨rfl, rfl, id⟩
  · split
    · exact coalesce_counted now data e
    · exact he

theorem newEntry_counted (cause now : Nat) (data : List Byte) (q : Rpq) : (newEntry cause now data q).Counted :=
  ⟨le_refl 1, by simp [newEntry], Nat.zero_le 255⟩

/-- A new entry in a queue without one of its cause. -/
theorem insert_newEntry {l : List QEntry} (h : QueueOrdered l) (hc : ∀ e ∈ l, e.cause ≠ cause) :
    QueueOrdered (insertReport (newEntry cause now data q) l) :=
  h.insert (newEntry_counted cause now data q) fun e he => ⟨(hc e he).symm, nofun⟩

theorem dropLeast_sublist (l : List QEntry) : List.Sublist (dropLeast l) l := by
  unfold dropLeast
  split
  · exact List.eraseIdx_sublist l _
  · exact List.dropLast_sublist l

theorem dropLeast_length {l : List QEntry} (hl : 2 ≤ l.length) : (dropLeast l).length = l.length - 1 := by
  unfold dropLeast
  split
  · exact List.length_eraseIdx_of_lt (by omega)
  · exact List.length_dropLast

theorem overflow_fits (h : q.Fits) (hc : ∀ e ∈ q.queue, e.cause ≠ cause) (hl : 16 ≤ q.queue.length) :
    (overflow (newEntry cause now data q) q).Fits := by
  obtain ⟨ordered, short, lost, lists⟩ := h
  have counted : satAdd 65535 q.lost 1 ≤ 65535 := Nat.min_le_left _ _
  unfold overflow countLost
  split
  · have sub := dropLeast_sublist q.queue
    refine ⟨insert_newEntry (ordered.sublist sub) fun e he => hc e (sub.subset he), ?_, counted, lists⟩
    rw [insertReport_length, dropLeast_length (by omega)]
    omega
  · exact ⟨ordered, short, counted, lists⟩

theorem enterQueue_fits (h : q.Fits) : (enterQueue cause now data q).Fits := by
  by_cases held : (q.queue.any fun e => e.cause == cause) = true
  · rw [enterQueue_folds held]
    exact fold_fits h
  · have unheld := Bool.eq_false_iff.mpr held
    have others := any_cause_eq_false_iff.mp unheld
    by_cases room : q.queue.length < 16
    · obtain ⟨ordered, -, rest⟩ := h
      rw [enterQueue_enters unheld room]
      exact ⟨insert_newEntry ordered others, (insertReport_length _ _).trans_le room, rest⟩
    · have full := Nat.not_lt.mp room
      rw [enterQueue_overflows unheld full]
      exact overflow_fits h others full

theorem capture_fits (d : Nat) (s : State) (h : q.Fits) : (capture d s q).1.Fits := by
  obtain ⟨ordered, short, lost, descs, buffer⟩ := h
  exact ⟨ordered, short, lost, List.length_set.trans descs, List.length_set.trans buffer⟩

theorem takePost_fits (cause : Nat) (data : List Byte) (s : State) (h : q.Fits) : (takePost cause data s q).1.Fits := by
  cases armed : armedFor q cause with
  | some d =>
    rw [takePost_captured armed]
    exact capture_fits d s h
  | none =>
    by_cases masked : q.mask < causeLevel q cause
    · rw [takePost_masked armed masked]
      exact h
    · rw [takePost_queued armed (Nat.not_lt.mp masked)]
      exact enterQueue_fits h

/-! ### The end of a transmission (R180) -/

theorem endEntry_replaces (e x : QEntry) (h : endEntry e = some x) : x.Replaces e := by
  unfold endEntry at h
  split at h
  · cases h
    exact ⟨rfl, rfl, id⟩
  · split at h
    · cases h
    · cases h
      exact ⟨rfl, rfl, nofun⟩

theorem endEntry_counted (e x : QEntry) (he : e.Counted) (h : endEntry e = some x) : x.Counted := by
  unfold endEntry at h
  split at h
  · cases h
    exact he
  · split at h
    · cases h
    · next since =>
      cases h
      exact ⟨Nat.pos_of_ne_zero since, he.2.2, Nat.zero_le 255⟩

theorem reportEnd_fits (h : q.Fits) : Rpq.Fits { q with queue := q.queue.filterMap endEntry } := by
  obtain ⟨ordered, short, rest⟩ := h
  exact ⟨ordered.filterMap endEntry_replaces endEntry_counted, (List.length_filterMap_le _ _).trans short, rest⟩

/-! ### The levels (R174) -/

theorem relevel_fits (cause level : Nat) (h : q.Fits) : (relevel cause level q).Fits := by
  obtain ⟨ordered, short, rest⟩ := h
  rw [relevel_eq]
  cases found : q.queue.find? fun e => decide (e.cause = cause) with
  | none => exact ⟨ordered, short, rest⟩
  | some e =>
    have he : e ∈ q.queue := List.mem_of_find?_eq_some found
    have hcause : e.cause = cause := by simpa using List.find?_some found
    have apart : ∀ x ∈ q.queue.filter fun x => decide (x.cause ≠ cause), e.Apart x := by
      intro x hx
      obtain ⟨hx, other⟩ := List.mem_filter.mp hx
      exact ordered.apart_of_mem he hx fun same => of_decide_eq_true other (same.symm.trans hcause)
    have fewer : (q.queue.filter fun x => decide (x.cause ≠ cause)).length < q.queue.length :=
      List.length_filter_lt_length_iff_exists.mpr ⟨e, he, by simp [hcause]⟩
    dsimp only
    rw [← insertReport_eq_placed]
    have moved : QueueOrdered (insertReport { e with level := level } (q.queue.filter fun x => decide (x.cause ≠ cause))) :=
      (ordered.sublist List.filter_sublist).insert (ordered.counted e he) apart
    refine ⟨moved, ?_, rest⟩
    rw [insertReport_length]
    omega

theorem defaultRelevel_fits (h : q.Fits) : (defaultRelevel q).Fits := by
  unfold defaultRelevel
  generalize List.range 33 = is
  induction is generalizing q with
  | nil => exact h
  | cons i is ih => exact ih (relevel_fits _ _ h)

/-! ### Events, deliveries, resets and steps -/

theorem settings_fit (mask threshold : Nat) (h : q.Fits) :
    Rpq.Fits { q with mask := mask, threshold := threshold } := h

theorem gateRequest_fits (gate clear : Nat) (h : q.Fits) : (gateRequest gate clear q).1.Fits := by
  obtain ⟨ordered, short, lost, lists⟩ := h
  unfold gateRequest
  split
  · exact ⟨ordered, short, lost, lists⟩
  · refine ⟨ordered, short, ?_, lists⟩
    dsimp only
    split
    · exact Nat.zero_le _
    · exact lost

theorem armRequest_fits (x : ArmArgs) (h : q.Fits) : (armRequest x q).1.Fits := by
  obtain ⟨ordered, short, lost, descs, buffer⟩ := h
  unfold armRequest
  split
  · exact ⟨ordered, short, lost, descs, buffer⟩
  · split
    · exact ⟨ordered, short, lost, descs, buffer⟩
    · split
      · exact ⟨ordered, short, lost, descs, buffer⟩
      · exact ⟨ordered, short, lost, List.length_set.trans descs, by simpa [emptyRegion] using buffer⟩

theorem rpqEffect_fits (ev : RpqEv) (s : State) (h : s.rpq.Fits) : (rpqEffect ev s).1.Fits := by
  cases ev with
  | post cause data => exact takePost_fits cause data s h
  | reportEnd => exact reportEnd_fits h
  | linkFree | clearMarks | read => exact h
  | gate gate clear => exact gateRequest_fits gate clear h
  | level cause level =>
    simp only [rpqEffect, levelRequest]
    split
    · exact relevel_fits cause level h
    · exact h
  | settings mask threshold =>
    simp only [rpqEffect, maskRequest]
    split
    · exact settings_fit mask threshold h
    · exact h
  | arm x => exact armRequest_fits x h
  | free n =>
    obtain ⟨ordered, short, lost, descs, buffer⟩ := h
    simp only [rpqEffect, freeRequest]
    split
    · exact ⟨ordered, short, lost, descs, buffer⟩
    · exact ⟨ordered, short, lost, List.length_set.trans descs, buffer⟩
  | defaults => exact settings_fit 7 2 (defaultRelevel_fits h)

/-- A take changes neither the levels nor the number of the entries, and ATTN rests on these. -/
theorem reportsKept_fits (s : State) (h : q.Fits) :
    (reportsKept s q).Fits ∧ (reportsKept s q).attn = attnOf (reportsKept s q) := by
  obtain ⟨ordered, short, rest⟩ := h
  unfold reportsKept
  cases taken : reportTaken s q with
  | none => exact ⟨⟨ordered, short, rest⟩, rfl⟩
  | some e =>
    obtain ⟨⟨l, hl⟩, idle⟩ := reportTaken_some taken
    dsimp only
    rw [hl] at ordered short idle ⊢
    refine ⟨⟨ordered.take idle, short, rest⟩, ?_⟩
    simp only [attnOf, hl]
    rfl

theorem deliver_reportsInv (m : Msg) (s : State) (h : reportsInv s) : reportsInv (deliver m s).1 := by
  cases m with
  | rpq ev =>
    have fits := rpqEffect_fits ev s ((reportsInv_iff s).mp h).1
    rw [reportsInv_iff, deliver_rpq_of (q := (rpqEffect ev s).1) (ms := (rpqEffect ev s).2) rfl]
    exact reportsKept_fits s fits
  | _ => exact h

/-- A reset leaves an empty queue, four FREE descriptors and 32 empty positions (R185). -/
theorem blocksAtReset_reportsInv (pins : Pins) (s : State) : reportsInv (blocksAtReset pins s) :=
  (reportsInv_iff _).mpr
    ⟨⟨⟨List.Pairwise.nil, List.Pairwise.nil, nofun⟩, Nat.zero_le 16, Nat.zero_le _, rfl, rfl⟩, rfl⟩

end Fits

/-- Settles O58: deliveries, resets, the event counter and the queue of commands each keep the invariant. -/
theorem stepKeepsTheReportQueue : Obligations.StepKeepsTheReportQueue := by
  intro s t h ht
  exact step_keeps (P := reportsInv) (fun _ h => h) deliver_reportsInv (fun pins s _ => blocksAtReset_reportsInv pins s)
    (fun _ _ h => h) s t h ht

end Sys2Proof.Machine

/-! O45: a post is captured, masked or queued (R175 to R178, R180, R183). -/

namespace Sys2Proof.Machine

section Posts

variable {s : State} {q : Rpq} {cause now d : Nat} {data : List Byte} {e last : QEntry}

/-! ### A capture (R175, R183) -/

theorem armedFor_eq (q : Rpq) (cause : Nat) :
    armedFor q cause = [0, 1, 2, 3].find? fun d => decide ((q.desc d).state = .armed ∧ (q.desc d).cause = cause) := by
  have tests : (fun d => (q.desc d).state == .armed && (q.desc d).cause == cause) =
      fun d => decide ((q.desc d).state = .armed ∧ (q.desc d).cause = cause) := by
    funext d
    rw [beq_eq_decide, beq_eq_decide, Bool.decide_and]
  rw [armedFor, tests]
  rfl

theorem armedFor_some (h : armedFor q cause = some d) : (q.desc d).state = .armed ∧ (q.desc d).cause = cause := by
  rw [armedFor_eq] at h
  simpa using List.find?_some h

theorem capture_eq (s : State) (ha : (q.desc d).state = .armed) (hc : (q.desc d).cause = cause) :
    capture d s q =
      ({ q with
          buffer := q.buffer.set ((q.desc d).start + (q.desc d).taken)
            (some ⟨s.rcl.cabTime, (q.desc d).quantities.map (quantityValue s)⟩)
          descs := q.descs.set d { q.desc d with
            taken := (q.desc d).taken + 1
            state := if (q.desc d).count ≤ (q.desc d).taken + 1 then .done else .armed } },
        if (q.desc d).count ≤ (q.desc d).taken + 1 then [post 24 (u8 d ++ u8 cause ++ u8 ((q.desc d).taken + 1))] else []) := by
  unfold capture
  simp only [ha, hc, msgsIf, decide_eq_true_eq]

/-! ### The queue (R176, R177) -/

theorem coalesce_eq (now : Nat) (data : List Byte) (e : QEntry) :
    coalesce now data e =
      if e.inFlight = false then { e with count := min 255 (e.count + 1), lastTime := now, data := data, since := 0 }
      else
        { e with
          count := min 255 (e.count + 1), lastTime := now, data := data, since := min 255 (e.since + 1)
          sinceFirst := if e.since = 0 then now else e.sinceFirst } := by
  cases hf : e.inFlight <;> simp [coalesce, satAdd, hf]

/-- R176, R180: the entries of a queue that takes a post of a cause it holds. -/
theorem map_coalesce (cause now : Nat) (data : List Byte) (l : List QEntry) :
    (l.map fun e => if e.cause = cause then coalesce now data e else e) =
      l.map fun e =>
        if e.cause ≠ cause then e
        else if e.inFlight = false then { e with count := min 255 (e.count + 1), lastTime := now, data := data, since := 0 }
        else
          { e with
            count := min 255 (e.count + 1), lastTime := now, data := data, since := min 255 (e.since + 1)
            sinceFirst := if e.since = 0 then now else e.sinceFirst } :=
  List.map_congr_left fun e _ => by rw [ite_not, coalesce_eq]

/-- R177: the entry given up is the last, or the one before it when the last is in flight. -/
theorem dropLeast_eq {l : List QEntry} (hl : l.getLast? = some last) (h2 : 2 ≤ l.length) :
    dropLeast l = if last.inFlight = false then l.dropLast else l.take (l.length - 2) ++ [last] := by
  have nonempty : l ≠ [] := fun h => by simp [h] at hl
  have final : l.drop (l.length - 1) = [last] := by
    rw [List.drop_length_sub_one nonempty, List.getLast_of_getLast?_eq_some hl]
  rw [dropLeast, hl, Option.any_some]
  cases last.inFlight with
  | false => rfl
  | true =>
    have behind : l.length - 2 + 1 = l.length - 1 := by omega
    simp only [if_true, Bool.true_eq_false, if_false, List.eraseIdx_eq_take_drop_succ, behind, final]

theorem overflow_eq (hl : q.queue.getLast? = some last) (h2 : 2 ≤ q.queue.length) :
    overflow e q =
      { q with
        lost := min 65535 (q.lost + 1)
        queue :=
          if last.level ≤ e.level then q.queue
          else if last.inFlight = false then placed e q.queue.dropLast
          else placed e (q.queue.take (q.queue.length - 2) ++ [last]) } := by
  rw [overflow, hl, Option.any_some, dropLeast_eq hl h2, insertReport_eq_placed, apply_ite (placed e)]
  by_cases least : last.level ≤ e.level
  · rw [if_neg (by simpa using least), if_pos least]
    rfl
  · rw [if_pos (by simpa using least), if_neg least]
    rfl

/-! ### A delivery -/

/-- A post by what RPQ makes of it. CHG is stirred first. -/
theorem deliver_post {q' : Rpq} {hands : List Msg} (h : takePost cause data s s.rpq = (q', hands)) :
    deliver (.rpq (.post cause data)) s =
      ({ s with rpq := reportsKept s q' }, .chg .stir :: (hands ++ reportsFollow s q')) :=
  deliver_rpq_of (ev := .post cause data) (ms := .chg .stir :: hands) (by rw [rpqEffect, h])

end Posts

/-- Settles O45: a descriptor armed for the cause, then the mask, then the queue by whether it holds the cause and has room. -/
theorem postIsCapturedMaskedOrQueued : Obligations.PostIsCapturedMaskedOrQueued := by
  intro cause data s q now level desc armed value new next
  have armed_eq : armedFor q cause = armed := armedFor_eq q cause
  have values : quantityValue s = value := by
    funext n
    match n with
    | 0 | 1 | 2 | 3 | 4 | 5 | 6 | 7 | 8 | 9 | 10 => rfl
    | n + 11 => cases hb : s.dmd.budget <;> simp [quantityValue, value, hb, Budget.code]
  have holds : (q.queue.any fun e => decide (e.cause = cause)) = q.queue.any fun e => e.cause == cause :=
    congrArg q.queue.any (funext fun e => (beq_eq_decide e.cause cause).symm)
  refine ⟨fun d hd => ?_, fun free masked => ?_, fun free passed held => ?_, fun free passed unheld => ⟨fun room => ?_, ?_⟩⟩
  · have found : armedFor q cause = some d := armed_eq.trans hd
    obtain ⟨state, for_cause⟩ := armedFor_some found
    refine deliver_post ((takePost_captured found).trans ((capture_eq s state for_cause).trans ?_))
    rw [values]
    rfl
  · exact deliver_post (takePost_masked (armed_eq.trans free) masked)
  · rw [holds] at held
    refine deliver_post ((takePost_queued (armed_eq.trans free) passed).trans ?_)
    rw [enterQueue_folds held, map_coalesce]
  · rw [holds] at unheld
    refine deliver_post ((takePost_queued (armed_eq.trans free) passed).trans ?_)
    rw [enterQueue_enters unheld room, insertReport_eq_placed]
    rfl
  · rw [holds] at unheld
    intro full last hlast
    refine deliver_post ((takePost_queued (armed_eq.trans free) passed).trans ?_)
    rw [enterQueue_overflows unheld full, overflow_eq hlast (le_trans (by decide) full)]
    rfl

end Sys2Proof.Machine

/-! O46: REPORT_GATE and CAUSE_LEVEL (R174, R178, R179, R181). -/

namespace Sys2Proof.Machine

section Levels

variable {q : Rpq} {a b : Nat}

/-! ### The gate (R179) -/

theorem gateRequest_taken (ha : a ≤ 1) (hb : b ≤ 1) :
    gateRequest a b q =
      ({ q with gate := decide (a = 1), lost := if b = 1 then 0 else q.lost },
        [answer .ok (u8 a ++ u8 q.queue.length ++ u16 q.lost)]) := by
  rw [gateRequest, if_neg (by omega), beq_eq_decide]

theorem gateRequest_range (bad : 1 < a ∨ 1 < b) : gateRequest a b q = (q, [answer .range []]) := if_pos bad

/-! ### The levels (R174, R178) -/

theorem levelRequest_taken (h1 : 1 ≤ a) (h33 : a ≤ 33) (hb : b ≤ 7) :
    levelRequest a b q = (relevel a b q, [answer .ok (u8 a ++ u8 b)]) :=
  if_pos ⟨by simp [natIn, h1, h33], hb⟩

theorem levelRequest_range (bad : a = 0 ∨ 33 < a ∨ 7 < b) : levelRequest a b q = (q, [answer .range []]) := by
  refine if_neg ?_
  simp only [natIn, Bool.and_eq_true, decide_eq_true_eq]
  omega

theorem maskRequest_taken (ha : a ≤ 7) (hb : b ≤ 7) :
    maskRequest a b q = ({ q with mask := a, threshold := b }, [answer .ok []]) := if_pos ⟨ha, hb⟩

theorem maskRequest_range (bad : 7 < a ∨ 7 < b) : maskRequest a b q = (q, [answer .range []]) := if_neg (by omega)

/-- A cause re-levelled empties no queue. -/
theorem relevel_queue_isEmpty (cause level : Nat) (q : Rpq) : q.queue.isEmpty = (relevel cause level q).queue.isEmpty := by
  rw [relevel_eq]
  cases found : q.queue.find? fun e => decide (e.cause = cause) with
  | none => rfl
  | some e =>
    have held : q.queue.isEmpty = false := List.isEmpty_eq_false_iff_exists_mem.mpr ⟨e, List.mem_of_find?_eq_some found⟩
    simp [held, placed]

end Levels

/-- Settles O46: each request by its range; a reserved slot holds reports back, so only ATTN is evaluated besides. -/
theorem gateAndLevelRequests : Obligations.GateAndLevelRequests := by
  intro tag a b s slot q u v on
  have gates {st : Status} {body : List Byte} {q' : Rpq} (h : gateRequest a b q = (q', [answer st body])) :=
    exec_rpqRequest (i := .reportGate tag a b) (ev := .gate a b) (k := 0x8E#8) rfl rfl slot rfl rfl h
  have levels {st : Status} {body : List Byte} {q' : Rpq} (h : levelRequest a b q = (q', [answer st body])) :=
    exec_rpqRequest (i := .causeLevel tag a b) (ev := .level a b) (k := 0x98#8) rfl rfl slot rfl rfl h
  have masks {st : Status} {body : List Byte} {q' : Rpq} (h : maskRequest a b q = (q', [answer st body])) :=
    exec_rpqRequest (i := .causeLevelSettings tag a b) (ev := .settings a b) (k := 0x98#8) rfl rfl slot rfl rfl h
  refine ⟨fun ha hb => ?_, fun bad => ?_, fun h1 h33 hb => ?_, fun bad => ?_, fun ha hb => ?_, fun bad => ?_⟩
  · exact gates (gateRequest_taken ha hb) rfl
  · exact gates (gateRequest_range bad) rfl
  · have taken := levels (levelRequest_taken h1 h33 hb) (relevel_queue_isEmpty a b q)
    rwa [relevel_eq] at taken
  · exact levels (levelRequest_range bad) rfl
  · exact masks (maskRequest_taken ha hb) rfl
  · exact masks (maskRequest_range bad) rfl

end Sys2Proof.Machine

/-! O47: CAPTURE_ARM, CAPTURE_READ and CAPTURE_FREE (R182, R184). -/

namespace Sys2Proof.Machine

section Captures

variable {q : Rpq} {x : ArmArgs} {d n : Nat}

/-! ### CAPTURE_ARM (R182) -/

theorem armInRange_iff (x : ArmArgs) :
    armInRange x = true ↔
      x.desc ≤ 3 ∧ 1 ≤ x.cause ∧ x.cause ≤ 33 ∧ 1 ≤ x.quantities.length ∧ x.quantities.length ≤ 6 ∧
        (∀ k ∈ x.quantities, k ≤ 11) ∧ 1 ≤ x.count ∧ x.count ≤ 16 ∧ x.start ≤ 31 ∧ x.start + x.count ≤ 32 := by
  simp only [armInRange, natIn, Bool.and_eq_true, decide_eq_true_eq, List.all_eq_true, and_assoc]

theorem sharesRegion_eq (x : ArmArgs) (d : Desc) :
    sharesRegion x d = decide (d.state ≠ .free ∧ x.start < d.start + d.count ∧ d.start < x.start + x.count) := by
  rw [sharesRegion, bne, beq_eq_decide, Bool.decide_and, Bool.decide_and, decide_not, Bool.and_assoc]

/-- A test of the four descriptors, by their numbers. -/
theorem any_desc (p : Desc → Bool) (h : q.descs.length = 4) : q.descs.any p = [0, 1, 2, 3].any fun m => p (q.desc m) := by
  have by_number : ∀ l : List Desc, l.length = 4 → l.any p = [0, 1, 2, 3].any fun m => p (l.getD m freeDesc)
    | [_, _, _, _], _ => rfl
  exact by_number q.descs h

theorem any_sharesRegion (x : ArmArgs) (h : q.descs.length = 4) :
    q.descs.any (sharesRegion x) = [0, 1, 2, 3].any fun m =>
      decide ((q.desc m).state ≠ .free ∧ x.start < (q.desc m).start + (q.desc m).count ∧
        (q.desc m).start < x.start + x.count) := by
  simp only [any_desc _ h, sharesRegion_eq]

/-- The buffer with a region of it emptied. -/
theorem emptyRegion_eq {start count : Nat} {buffer : List (Option CapRecord)} (h : start + count ≤ buffer.length) :
    emptyRegion start count buffer = buffer.take start ++ List.replicate count none ++ buffer.drop (start + count) := by
  refine List.ext_getElem (by simp [emptyRegion]; omega) fun i hi _ => ?_
  have hi : i < buffer.length := by simpa [emptyRegion] using hi
  have taken : min start buffer.length = start := by omega
  simp only [emptyRegion, List.getElem_map, List.getElem_zipIdx, List.getElem_append, List.length_append, List.length_take,
    List.length_replicate, List.getElem_take, List.getElem_replicate, List.getElem_drop, taken]
  grind

theorem armRequest_range (bad : armInRange x = false) : armRequest x q = (q, [answer .range []]) := if_pos bad

theorem armRequest_state (good : armInRange x = true) (held : (q.desc x.desc).state ≠ .free) :
    armRequest x q = (q, [answer .state []]) := by
  rw [armRequest, if_neg (by simp [good]), if_pos held]

theorem armRequest_shared (good : armInRange x = true) (free : (q.desc x.desc).state = .free)
    (shared : q.descs.any (sharesRegion x) = true) : armRequest x q = (q, [answer .range []]) := by
  rw [armRequest, if_neg (by simp [good]), if_neg (not_not.mpr free), if_pos shared]

theorem armRequest_arms (good : armInRange x = true) (free : (q.desc x.desc).state = .free)
    (unshared : q.descs.any (sharesRegion x) = false) :
    armRequest x q =
      ({ q with
          descs := q.descs.set x.desc ⟨.armed, x.cause, x.quantities, x.count, x.start, 0⟩
          buffer := emptyRegion x.start x.count q.buffer },
        [answer .ok []]) := by
  rw [armRequest, if_neg (by simp [good]), if_neg (not_not.mpr free), if_neg (Bool.eq_false_iff.mp unshared)]

/-! ### CAPTURE_READ and CAPTURE_FREE (R184) -/

theorem captureReadAnswer_range (h : 3 < d) : captureReadAnswer d n q = answer .range [] := if_pos h

theorem captureReadAnswer_free (h : d ≤ 3) (free : (q.desc d).state = .free) : captureReadAnswer d n q = answer .state [] := by
  rw [captureReadAnswer, if_neg (Nat.not_lt.mpr h), if_pos free]

theorem captureReadAnswer_index (h : d ≤ 3) (held : (q.desc d).state ≠ .free) (bad : (q.desc d).count ≤ n) :
    captureReadAnswer d n q = answer .range [] := by
  rw [captureReadAnswer, if_neg (Nat.not_lt.mpr h), if_neg held, if_pos bad]

theorem DescState.code_eq {x : DescState} (held : x ≠ .free) : x.code = if x = .armed then 1 else 2 := by
  cases x with
  | free => exact absurd rfl held
  | armed | done => rfl

/-- The record read, marked not taken at an index that no capture has reached. -/
theorem optField_takenRecord (q : Rpq) (d : Desc) (n : Nat) :
    optField recordBytes (takenRecord q d n) =
      if n < d.taken then
        match q.buffer.getD (d.start + n) none with
        | none => u8 0
        | some r => u8 1 ++ u32 r.time ++ r.values.flatMap s32
      else u8 0 := by
  rw [takenRecord]
  split
  · rw [List.getD_eq_getElem?_getD]
    match q.buffer[d.start + n]? with
    | none | some none => rfl
    | some (some r) => rfl
  · rfl

theorem captureReadAnswer_record (h : d ≤ 3) (held : (q.desc d).state ≠ .free) (hn : n < (q.desc d).count) :
    captureReadAnswer d n q =
      answer .ok (u8 (if (q.desc d).state = .armed then 1 else 2) ++ u8 (q.desc d).cause ++
        u8 (q.desc d).quantities.length ++ (q.desc d).quantities.flatMap u8 ++ u8 (q.desc d).taken ++
        optField recordBytes (takenRecord q (q.desc d) n)) := by
  rw [captureReadAnswer, if_neg (Nat.not_lt.mpr h), if_neg held, if_neg (Nat.not_le.mpr hn), DescState.code_eq held, listField]
  simp only [List.append_assoc]

theorem freeRequest_range (h : 3 < d) : freeRequest d q = (q, [answer .range []]) := if_pos h

theorem freeRequest_frees (h : d ≤ 3) :
    freeRequest d q = ({ q with descs := q.descs.set d freeDesc }, [answer .ok []]) := if_neg (Nat.not_lt.mpr h)

end Captures

/-- Settles O47: each request by its range and the descriptor it names. -/
theorem captureRequestsKeepTheDescriptors : Obligations.CaptureRequestsKeepTheDescriptors := by
  intro tag x d n s slot four positions q desc result ok shared
  have arms {st : Status} {body : List Byte} {q' : Rpq} (h : armRequest x q = (q', [answer st body])) :=
    exec_rpqRequest (i := .captureArm tag x) (ev := .arm x) (k := 0x99#8) rfl rfl slot rfl rfl h
  have reads {st : Status} {body : List Byte} (h : captureReadAnswer d n q = answer st body) :
      exec (.captureRead tag d n) s = result 0x9A#8 st.code body q :=
    exec_rpqRequest (i := .captureRead tag d n) (ev := .read d n) (k := 0x9A#8) rfl rfl slot rfl rfl
      (congrArg (fun m => (q, [m])) h) rfl
  have frees {st : Status} {body : List Byte} {q' : Rpq} (h : freeRequest d q = (q', [answer st body])) :=
    exec_rpqRequest (i := .captureFree tag d) (ev := .free d) (k := 0x9B#8) rfl rfl slot rfl rfl h
  have good_iff : armInRange x = true ↔ ok := armInRange_iff x
  have shared_eq : q.descs.any (sharesRegion x) = shared := any_sharesRegion x four
  refine ⟨fun bad => ?_, fun good held => ?_, fun good free taken => ?_, fun good free untaken => ?_, fun bad => ⟨?_, ?_⟩,
    fun hd free => ?_, fun hd held bad => ?_, fun hd held hn => ?_, fun hd => ?_⟩
  · exact arms (armRequest_range (Bool.eq_false_iff.mpr (mt good_iff.mp bad))) rfl
  · exact arms (armRequest_state (good_iff.mpr good) held) rfl
  · exact arms (armRequest_shared (good_iff.mpr good) free (shared_eq.trans taken)) rfl
  · have armed := arms (armRequest_arms (good_iff.mpr good) free (shared_eq.trans untaken)) rfl
    have fits : x.start + x.count ≤ q.buffer.length := by
      obtain ⟨-, -, -, -, -, -, -, -, -, fits⟩ := good
      exact fits.trans_eq positions.symm
    rwa [emptyRegion_eq fits] at armed
  · exact reads (captureReadAnswer_range bad)
  · exact frees (freeRequest_range bad) rfl
  · exact reads (captureReadAnswer_free hd free)
  · exact reads (captureReadAnswer_index hd held bad)
  · have read := reads (captureReadAnswer_record hd held hn)
    rwa [optField_takenRecord] at read
  · exact frees (freeRequest_frees hd) rfl

end Sys2Proof.Machine

/-! O49: FRAME_SENT, and a report that is sent (R180, R187, R190, R193). -/

namespace Sys2Proof.Machine

section Transmitter

variable {s : State} {l : Lnk} {n : Nat} {r : Reply} {ms : List Msg}

/-! ### The transmitter (R190, R193) -/

theorem startReply_eq (l : Lnk) : startReply l = replyTaken l := by
  unfold startReply replyTaken
  split
  · next tx slots => rw [slots]; exact (if_pos tx).symm
  · next busy =>
    split
    · rfl
    · next r rest slots => exact (if_neg fun tx => busy r rest tx slots).symm

/-- R190: a part follows part `n` of a body longer than the parts up to it. -/
theorem lt_partCount_iff (body : List Byte) (n : Nat) : n + 1 < partCount body ↔ 54 * (n + 1) < body.length := by
  unfold partCount
  omega

theorem frameSent_idle (h : l.tx = .idle) : frameSent l = (l, []) := by
  unfold frameSent
  simp only [h]

theorem frameSent_report (h : l.tx = .report) :
    frameSent l = (replyTaken { l with tx := .idle, txFrame := [] }, [.rpq .reportEnd]) := by
  unfold frameSent
  simp only [h, startReply_eq]

theorem frameSent_part (h : l.tx = .reply n) (hr : l.slots.head? = some r) (more : 54 * (n + 1) < r.body.length) :
    frameSent l = ({ l with tx := .reply (n + 1), txFrame := replyFrame r (n + 1) }, []) := by
  obtain ⟨rest, slots⟩ := List.head?_eq_some_iff.mp hr
  unfold frameSent
  simp only [h, slots, if_pos ((lt_partCount_iff r.body n).mpr more)]

theorem frameSent_last (h : l.tx = .reply n) (hr : l.slots.head? = some r) (last : r.body.length ≤ 54 * (n + 1)) :
    frameSent l = (replyTaken { l with tx := .idle, txFrame := [], slots := l.slots.drop 1 }, [.rpq .linkFree]) := by
  obtain ⟨rest, slots⟩ := List.head?_eq_some_iff.mp hr
  unfold frameSent
  simp only [h, slots, if_neg (mt (lt_partCount_iff r.body n).mp (Nat.not_lt.mpr last)), startReply_eq, List.drop_succ_cons,
    List.drop_zero]

/-- FRAME_SENT by what it leaves at LNK and hands on. -/
theorem exec_frameSent (h : frameSent s.lnk = (l, ms)) : exec .frameSent s = .next (settle ms { fresh s with lnk := l }) :=
  exec_settle (m := .lnk .frameSent) rfl (by rw [deliver_lnk, lnkHandle, fresh_lnk, h])

/-! ### The end of a report (R180) -/

theorem filterMap_endEntry (queue : List QEntry) :
    queue.filterMap endEntry = queue.flatMap fun e =>
      if e.inFlight = false then [e]
      else if e.since = 0 then []
      else [{ e with count := e.since, firstTime := e.sinceFirst, inFlight := false, since := 0, sinceFirst := 0 }] := by
  rw [List.filterMap_eq_flatMap_toList]
  refine List.flatMap_congr fun e _ => ?_
  unfold endEntry
  rw [apply_ite Option.toList, apply_ite Option.toList]
  rfl

end Transmitter

/-- Settles O49: the transmitter by what it sends, RPQ's two events at the end of a transmission, and a report sent. -/
theorem frameSentFreesTheTransmitter : Obligations.FrameSentFreesTheTransmitter := by
  refine ⟨fun s => ?_, fun frame s => rfl⟩
  intro l q next idle ended
  refine ⟨fun h => ?_, fun h => ?_, fun n h r hr => ⟨fun more => ?_, fun last => ?_⟩, ?_, ?_⟩
  · exact (exec_frameSent (frameSent_idle h)).trans (congrArg _ (settle_nil _))
  · exact exec_frameSent (frameSent_report h)
  · exact exec_frameSent (frameSent_part h hr more)
  · exact exec_frameSent (frameSent_last h hr last)
  · exact deliver_rpq_of (ev := .linkFree) rfl
  · refine deliver_rpq_of (ev := .reportEnd) (ms := []) ?_
    rw [rpqEffect, filterMap_endEntry]

end Sys2Proof.Machine

/-! O7: what a reset leaves at RPQ and STO, and the posts of the start-up (R185, R200, R201). -/

namespace Sys2Proof.Machine

theorem msgsIf_isNone {α : Type} (x : Option α) [Decidable (x = none)] (ms : List Msg) :
    msgsIf (!x.isSome) ms = if x = none then ms else [] := by
  cases x <;> simp [msgsIf]

/-- R200: the heater items in use without a valid State area. -/
theorem usedItems_of_lost {t : Sto} (h : readSaved t.stateArea = none) : usedItems t = ⟨true, 0, 0, some .f9⟩ := by
  rw [usedItems, h]
  rfl

/-- R200, R201: the messages of a start-up by the two areas. -/
theorem startUpMsgs_eq (kind : ResetKind) (s : State) :
    startUpMsgs kind s =
      [post 28 (u8 kind.code ++ flagByte (readSettings s.sto.settingsArea).isSome ++
        flagByte (readSaved s.sto.stateArea).isSome)] ++
        (if readSettings s.sto.settingsArea = none then [post 26 (u8 kind.code)] else []) ++
        (if readSaved s.sto.stateArea = none then
          [post 27 (u8 kind.code ++ u32 (usedCharge s.sto (usedSettings s.sto).battery.cNom)),
           .sto (.heater ⟨true, 0, 0, some .f9⟩)]
        else []) ++ [.chg .review] := by
  rw [startUpMsgs, msgsIf_isNone, msgsIf_isNone]
  by_cases lost : readSaved s.sto.stateArea = none
  · rw [if_pos lost, if_pos lost, usedItems_of_lost lost]
    rfl
  · rw [if_neg lost, if_neg lost]
    rfl

/-- A reset command, when it acts, is a start-up of its kind. -/
theorem exec_resetKind {c : Instr} {k : Nat} {pins : Pins} {s : State}
    (h : (c = .powerOn pins ∧ k = 0) ∨ (c = .brownOut pins ∧ k = 1) ∨
      (c = .restartReset pins ∧ restartDue s = true ∧ k = 2)) :
    ∃ kind : ResetKind, kind.code = k ∧
      exec c s = .next (settle (startUpMsgs kind s) (fresh (blocksAtReset pins s))) := by
  obtain ⟨rfl, rfl⟩ | ⟨rfl, rfl⟩ | ⟨rfl, due, rfl⟩ := h
  · exact ⟨.powerOn, rfl, rfl⟩
  · exact ⟨.brownOut, rfl, rfl⟩
  · exact ⟨.restart, rfl, congrArg Host.Outcome.next (if_pos due)⟩

/-- Settles O7: a reset takes the messages of its start-up on the blocks at their reset values. -/
theorem resetPostsAndStore : Obligations.ResetPostsAndStore := by
  intro c k pins s h
  obtain ⟨kind, rfl, resets⟩ := exec_resetKind h
  rw [startUpMsgs_eq] at resets
  exact ⟨fresh (blocksAtReset pins s), resets, rfl, rfl⟩

end Sys2Proof.Machine

/-! O59: the reply slots, the transmitter and the assembler in every state (R188, R189, R193, R194). -/

namespace Sys2Proof.Machine

/-! ### LNK between two deliveries -/

/-- What holds of LNK at every moment: the reply being completed has its slot. -/
structure Lnk.Held (l : Lnk) : Prop where
  room : l.slots.length + l.reserved.toList.length ≤ 2
  half : l.reserved = none → l.answer = none
  sends : ∀ n, l.tx = .reply n → ∃ r, l.slots.head? = some r ∧ n < partCount r.body
  body : ∀ len kept, l.asm = .body len kept → 2 ≤ len ∧ len ≤ 58 ∧ kept.length < len
  check : ∀ len kept, l.asm = .check len kept → 2 ≤ len ∧ len ≤ 58 ∧ kept.length = len
  counts : l.gapErrs ≤ 65535 ∧ l.lenErrs ≤ 65535 ∧ l.crcErrs ≤ 65535 ∧ l.overruns ≤ 65535

/-- The invariant of LNK with a request between its dispatch and its reply. -/
structure Lnk.Fits (l : Lnk) : Prop extends Lnk.Held l where
  idle : l.tx = .idle → l.slots = []

theorem linkInv_iff (s : State) : linkInv s ↔ s.lnk.Fits ∧ s.lnk.reserved = none := by
  constructor
  · rintro ⟨reserved, answer, slots, idle, sends, body, check, counts⟩
    refine ⟨⟨⟨?_, fun _ => answer, sends, body, check, counts⟩, idle⟩, reserved⟩
    rw [reserved]
    exact slots
  · rintro ⟨h, reserved⟩
    have slots := h.room
    rw [reserved] at slots
    exact ⟨reserved, h.half reserved, slots, h.idle, h.sends, h.body, h.check, h.counts⟩

section Link

variable {l : Lnk}

theorem Lnk.Fits.linkError (e : LinkError) (h : l.Fits) : (linkError e l).1.Fits := by
  have capped : ∀ x, satAdd 65535 x 1 ≤ 65535 := fun x => Nat.min_le_left _ _
  obtain ⟨gaps, lengths, crcs, overruns⟩ := h.counts
  cases e with
  | gap => exact { h with counts := ⟨capped _, lengths, crcs, overruns⟩ }
  | length => exact { h with counts := ⟨gaps, capped _, crcs, overruns⟩ }
  | crc => exact { h with counts := ⟨gaps, lengths, capped _, overruns⟩ }
  | overrun => exact { h with counts := ⟨gaps, lengths, crcs, capped _⟩ }

theorem Lnk.Fits.hunting (h : l.Fits) : Lnk.Fits { l with asm := .hunt } := { h with body := nofun, check := nofun }

/-- R193: an idle transmitter takes the waiting reply, so that it is idle with no reply waiting only. -/
theorem Lnk.Held.replyTaken (h : l.Held) : (replyTaken l).Fits := by
  unfold Machine.replyTaken
  split
  · next no_reply => exact { h with idle := fun _ => no_reply }
  · next r rest slots =>
    split
    · refine { h with sends := fun n hn => ⟨r, by rw [slots]; rfl, ?_⟩, idle := nofun }
      cases hn
      exact Nat.le_max_left 1 _
    · next busy => exact { h with idle := fun idle => absurd idle busy }

/-- R193: the end of a frame. -/
theorem Lnk.Fits.frameSent (h : l.Fits) : (frameSent l).1.Fits := by
  cases tx : l.tx with
  | idle => rw [frameSent_idle tx]; exact h
  | report =>
    rw [frameSent_report tx]
    exact Lnk.Held.replyTaken { h with sends := nofun }
  | reply n =>
    obtain ⟨r, head, -⟩ := h.sends n tx
    by_cases more : 54 * (n + 1) < r.body.length
    · rw [frameSent_part tx head more]
      refine { h with idle := nofun, sends := fun m hm => ⟨r, head, ?_⟩ }
      cases hm
      exact (lt_partCount_iff r.body n).mpr more
    · rw [frameSent_last tx head (by omega)]
      have room := h.room
      exact Lnk.Held.replyTaken { h with room := by simp; omega, sends := nofun }

/-- R189: a reply handed to LNK is kept for the reserved slot, and only for it. -/
theorem Lnk.Fits.takeAnswer (st : Status) (body : List Byte) (h : l.Fits) : (takeAnswer st body l).Fits := by
  unfold Machine.takeAnswer
  split
  · next kind tag reserved => exact { h with half := fun free => absurd (reserved.symm.trans free) nofun }
  · exact h

theorem Lnk.Fits.routeRequest (r : Request) (s : State) (h : l.Fits) : (routeRequest r l s).1.Fits := by
  cases r
  case status => exact h.takeAnswer _ _
  case readings => exact h.takeAnswer _ _
  case linkStats n =>
    simp only [Machine.routeRequest, linkStatsRequest]
    split
    · exact h.takeAnswer _ _
    · split
      · exact { h.takeAnswer .ok (counterBytes l) with counts := by simp }
      · exact h.takeAnswer _ _
  all_goals exact h

/-- R189: a dispatch reserves one of the slots left. -/
theorem Lnk.Fits.dispatchRequest (code : Nat) (tag : Byte) (r : Option Request) (s : State) (h : l.Fits) :
    (dispatchRequest code tag r s l).1.Fits := by
  unfold Machine.dispatchRequest
  split
  · exact h.linkError _
  · have reserved (x : Byte × Byte) : Lnk.Fits { l with reserved := some x } :=
      { h with room := by simp; omega, half := nofun }
    cases r with
    | none => exact (reserved _).takeAnswer _ _
    | some r =>
      dsimp only
      split
      · exact (reserved _).takeAnswer _ _
      · exact (reserved _).routeRequest r s

theorem Lnk.Fits.dispatchFrame (bytes : List Byte) (s : State) (h : l.Fits) : (dispatchFrame bytes s l).1.Fits := by
  unfold Machine.dispatchFrame
  split
  · split
    · exact h.dispatchRequest _ _ _ _
    · exact h
  · exact h

/-- R188: the assembler keeps no more than LEN bytes, and checks when it has them. -/
theorem Lnk.Fits.assemble (b : Byte) (s : State) (h : l.Fits) : (assemble b s l).1.Fits := by
  unfold Machine.assemble
  split
  · split
    · exact { h with body := nofun, check := nofun }
    · exact h.hunting
  · split
    · next len =>
      simp only [natIn, Bool.and_eq_true, decide_eq_true_eq] at len
      refine { h with body := fun n kept hk => ?_, check := nofun }
      cases hk
      exact ⟨len.1, len.2, by simp; omega⟩
    · exact h.hunting.linkError _
  · next len kept asm =>
    obtain ⟨two, most, short⟩ := h.body len kept asm
    dsimp only
    split
    · next full =>
      refine { h with body := nofun, check := fun n k hk => ?_ }
      cases hk
      simp only [List.length_append, List.length_singleton] at full ⊢
      omega
    · next more =>
      refine { h with body := fun n k hk => ?_, check := nofun }
      cases hk
      exact ⟨two, most, by omega⟩
  · split
    · exact h.hunting.dispatchFrame _ _
    · exact h.hunting.linkError _

theorem Lnk.Fits.gapExpiry (h : l.Fits) : (gapExpiry l).1.Fits := by
  unfold Machine.gapExpiry
  split
  · exact h
  · exact h.hunting.linkError _

/-- R189, R193: the close of a request puts its reply into the slot reserved for it. -/
theorem Lnk.Fits.commitReply (h : l.Fits) : (commitReply l).Fits := by
  have room := h.room
  unfold Machine.commitReply
  split
  · next r answer =>
    obtain ⟨x, reserved⟩ := Option.ne_none_iff_exists'.mp fun free => absurd (answer.symm.trans (h.half free)) nofun
    rw [reserved] at room
    rw [startReply_eq]
    refine Lnk.Held.replyTaken
      { h with room := by simpa using room, half := fun _ => rfl, sends := fun n hn => ?_ }
    obtain ⟨r0, head, part⟩ := h.sends n hn
    exact ⟨r0, by simp [head], part⟩
  · next no_answer => exact { h with room := by simp; omega, half := fun _ => no_answer }

theorem startReply_reserved (l : Lnk) : (startReply l).reserved = l.reserved := by
  unfold startReply
  split <;> rfl

theorem commitReply_reserved (l : Lnk) : (commitReply l).reserved = none := by
  unfold commitReply
  split
  · rw [startReply_reserved]
  · rfl

theorem frameSent_reserved (l : Lnk) : (frameSent l).1.reserved = l.reserved := by
  unfold frameSent
  split
  · rfl
  · rw [startReply_reserved]
  · split
    · rfl
    · rw [startReply_reserved]
  · rfl

/-- No delivery breaks the invariant of LNK. -/
theorem deliver_linkFits (m : Msg) (s : State) (h : s.lnk.Fits) : (deliver m s).1.lnk.Fits := by
  cases m with
  | lnk e =>
    cases e with
    | byte b => exact h.assemble b s
    | gapExpiry => exact h.gapExpiry
    | frameSent => exact h.frameSent
    | service high =>
      simp only [deliver_lnk, lnkHandle]
      split
      · exact h
      · exact { h with }
    | request tag r => exact h.dispatchRequest _ _ _ _
    | unknown tag code =>
      simp only [deliver_lnk, lnkHandle]
      split
      · exact h.dispatchRequest _ _ _ _
      · exact h
    | reply st body => exact h.takeAnswer st body
    | commit => exact h.commitReply
    | sendReport frame => exact { h with idle := nofun, sends := nofun }
  | _ => exact h

end Link

/-! ### What only a request or a byte brings -/

/-- The events of requests at their owners, and those that a dispatch at LNK comes from. -/
def Msg.asked : Msg → Bool
  | .chg e => match e with
    | .batterySet _ | .chargeSet _ | .ocvSet _ | .sensorTrim _ _ => true
    | _ => false
  | .dmd e => match e with
    | .declare _ | .release _ | .read => true
    | _ => false
  | .htr e => match e with
    | .start | .stop | .set _ | .tableRead | .tableWrite _ | .clearLockout => true
    | _ => false
  | .clr e => match e with
    | .set _ => true
    | _ => false
  | .lgt e => match e with
    | .set _ | .recall _ | .save | .restore | .groupSet _ _ | .channelSet _ _ | .sceneStore _ _ => true
    | _ => false
  | .rcl e => match e with
    | .activity _ | .restPlan _ | .clockSet _ | .settings _ | .logWindow _ _ | .logRead => true
    | _ => false
  | .sch e => match e with
    | .add _ | .remove _ | .list _ => true
    | _ => false
  | .alr e => match e with
    | .ack _ | .channel _ => true
    | _ => false
  | .rpq e => match e with
    | .gate _ _ | .level _ _ | .settings _ _ | .arm _ | .read _ _ | .free _ => true
    | _ => false
  | .lnk e => match e with
    | .byte _ | .request _ _ | .unknown _ _ => true
    | _ => false
  | .sto e => match e with
    | .save | .defaults | .restart => true
    | _ => false

theorem unasked_of_grade {m : Msg} (h : m.grade ≤ 2) : m.asked = false := by
  cases m with
  | chg e => cases e <;> first | rfl | exact absurd h (by simp [Msg.grade, ChgEv.grade])
  | dmd e => cases e <;> first | rfl | exact absurd h (by simp [Msg.grade, DmdEv.grade])
  | htr e => cases e <;> first | rfl | exact absurd h (by simp [Msg.grade, HtrEv.grade])
  | clr e => cases e <;> first | rfl | exact absurd h (by simp [Msg.grade, ClrEv.grade])
  | lgt e => cases e <;> first | rfl | exact absurd h (by simp [Msg.grade, LgtEv.grade])
  | rcl e => cases e <;> first | rfl | exact absurd h (by simp [Msg.grade, RclEv.grade])
  | sch e => cases e <;> first | rfl | exact absurd h (by simp [Msg.grade, SchEv.grade])
  | alr e => cases e <;> first | rfl | exact absurd h (by simp [Msg.grade, AlrEv.grade])
  | rpq e => cases e <;> first | rfl | exact absurd h (by simp [Msg.grade, RpqEv.grade])
  | lnk e => cases e <;> first | rfl | exact absurd h (by simp [Msg.grade, LnkEv.grade])
  | sto e => cases e <;> first | rfl | exact absurd h (by simp [Msg.grade, StoEv.grade])

/-- A list of messages none of which only a request or a byte brings. -/
def unasked (ms : List Msg) : Bool := ms.all fun m => !m.asked

@[simp] theorem unasked_nil : unasked [] = true := rfl
@[simp] theorem unasked_cons (m : Msg) (ms : List Msg) : unasked (m :: ms) = (!m.asked && unasked ms) := rfl
@[simp] theorem unasked_append (a b : List Msg) : unasked (a ++ b) = (unasked a && unasked b) := List.all_append
@[simp] theorem unasked_msgsIf (c : Bool) (ms : List Msg) : unasked (msgsIf c ms) = (!c || unasked ms) := by
  cases c <;> rfl

theorem unasked_of_graded {ms : List Msg} (h : graded 2 ms = true) : unasked ms = true := by
  simp only [graded, List.all_eq_true, decide_eq_true_eq] at h
  simpa [unasked] using fun m hm => unasked_of_grade (h m hm)

theorem frameSent_handed (l : Lnk) : graded 2 (frameSent l).2 = true := by
  unfold frameSent
  split
  · rfl
  · rfl
  · split <;> rfl
  · rfl

theorem gapExpiry_handed (l : Lnk) : graded 2 (gapExpiry l).2 = true := by
  unfold gapExpiry
  split <;> rfl

/-- What is handed on when no request and no byte is taken is of class 2. -/
theorem deliver_unasked {m : Msg} (s : State) (h : m.asked = false) : graded 2 (deliver m s).2 = true := by
  have calm {ms : List Msg} : graded 0 ms = true → graded 2 ms = true := graded_mono (by omega)
  have inner {ms : List Msg} : graded 1 ms = true → graded 2 ms = true := graded_mono (by omega)
  cases m with
  | chg e => cases e <;> first | exact calm (chgHandle_calm _ _ trivial) | exact absurd h (by simp [Msg.asked])
  | dmd e => cases e <;> first | exact calm (dmdHandle_calm _ _ trivial) | exact absurd h (by simp [Msg.asked])
  | htr e =>
    cases e
    case act a p => exact inner (heaterAction_inner a p s)
    all_goals first | exact calm (htrHandle_calm _ _ trivial) | exact absurd h (by simp [Msg.asked])
  | clr e =>
    cases e
    case act a p => exact inner (coolerAction_inner a p s)
    all_goals first | exact calm (clrHandle_calm _ _ trivial) | exact absurd h (by simp [Msg.asked])
  | lgt e =>
    cases e
    case act a p => exact inner (lightAction_inner a p s)
    all_goals first | exact calm (lgtHandle_calm _ _ trivial) | exact absurd h (by simp [Msg.asked])
  | rcl e =>
    cases e
    case second => exact secondEvent_handed _
    case fullQualification => exact calm (testFull_calm _)
    case splitQualification => exact calm (testSplit_calm _)
    case breakDue => exact calm (testDue_calm _)
    case breakOverdue => exact calm (testOverdue_calm _)
    case defaults => exact calm (testWarnings_calm _)
    case act a => exact inner (restAction_inner a _)
    all_goals exact absurd h (by simp [Msg.asked])
  | sch e => cases e <;> first | exact inner (schHandle_inner _ _ trivial) | exact absurd h (by simp [Msg.asked])
  | alr e =>
    cases e
    case act a => exact inner (alertAction_inner a s)
    all_goals first | exact calm (alrHandle_calm _ _ trivial) | exact absurd h (by simp [Msg.asked])
  | rpq e =>
    cases e
    all_goals first | exact calm (rpqHandle_calm _ _ (Nat.le_of_ble_eq_true rfl)) | exact absurd h (by simp [Msg.asked])
  | lnk e =>
    cases e
    case gapExpiry => exact gapExpiry_handed _
    case frameSent => exact frameSent_handed _
    case service high => simp only [deliver_lnk, lnkHandle, graded_ite]; simp
    case reply => rfl
    case commit => rfl
    case sendReport => rfl
    all_goals exact absurd h (by simp [Msg.asked])
  | sto e =>
    cases e
    all_goals first
      | exact (congrArg (graded 2) (stoHandle_quiet _ s trivial)).trans rfl
      | exact absurd h (by simp [Msg.asked])

/-- A slot is reserved by a request or a byte only. -/
theorem deliver_unreserved {m : Msg} {s : State} (h : m.asked = false) (free : s.lnk.reserved = none) :
    (deliver m s).1.lnk.reserved = none := by
  cases m with
  | lnk e =>
    cases e with
    | byte | request | unknown => exact absurd h (by simp [Msg.asked])
    | gapExpiry =>
      simp only [deliver_lnk, lnkHandle, gapExpiry]
      split <;> exact free
    | frameSent => exact (frameSent_reserved _).trans free
    | service high =>
      simp only [deliver_lnk, lnkHandle]
      split <;> exact free
    | reply st body =>
      simp only [deliver_lnk, lnkHandle, takeAnswer, free]
    | commit => exact commitReply_reserved _
    | sendReport => exact free
  | _ => exact free

/-! ### Every command -/

/-- With no slot reserved, the messages of an event keep the invariant. -/
theorem settle_linkInv {ms : List Msg} {s : State} (hm : unasked ms = true) (h : linkInv s) :
    linkInv (settle ms s) := by
  refine settle_keeps (p := fun m => !m.asked) (P := linkInv) (fun m t hm ht => ?_) ms s hm h
  obtain ⟨fits, free⟩ := (linkInv_iff t).mp ht
  rw [Bool.not_eq_true'] at hm
  exact ⟨(linkInv_iff _).mpr ⟨deliver_linkFits m t fits, deliver_unreserved hm free⟩,
    unasked_of_graded (deliver_unasked t hm)⟩

theorem fresh_linkInv {s : State} (h : linkInv s) : linkInv (fresh s) := h

theorem event_linkInv {m : Msg} {s : State} (hm : m.asked = false) (h : linkInv s) : linkInv (event m s) := by
  obtain ⟨fits, free⟩ := (linkInv_iff _).mp (fresh_linkInv h)
  exact settle_linkInv (unasked_of_graded (deliver_unasked _ hm))
    ((linkInv_iff _).mpr ⟨deliver_linkFits m _ fits, deliver_unreserved hm free⟩)

/-- Whatever an event does, its close leaves no slot reserved. -/
theorem closed_event_linkInv (m : Msg) {s : State} (h : linkInv s) : linkInv (event (.lnk .commit) (event m s)) := by
  have fits : (event m s).lnk.Fits :=
    event_keeps (P := fun t => t.lnk.Fits) (fun _ h => h) deliver_linkFits m s ((linkInv_iff s).mp h).1
  exact (linkInv_iff _).mpr ⟨fits.commitReply, commitReply_reserved _⟩

theorem blocksAtReset_linkInv (pins : Pins) (s : State) : linkInv (blocksAtReset pins s) :=
  ⟨rfl, rfl, Nat.zero_le 2, fun _ => rfl, nofun, nofun, nofun, Nat.zero_le _, Nat.zero_le _, Nat.zero_le _, Nat.zero_le _⟩

theorem startUp_linkInv (k : ResetKind) (pins : Pins) (s : State) : linkInv (startUp k pins s) := by
  have handed : graded 2 (startUpMsgs k s) = true := by simp [startUpMsgs]
  rw [startUp, events]
  exact settle_linkInv (unasked_of_graded handed) (fresh_linkInv (blocksAtReset_linkInv pins s))

theorem overdueMsgs_unasked (s : State) : unasked (overdueMsgs s) = true := by
  simp [overdueMsgs, heaterDue, coolerDue, alertsDue, Msg.asked]

theorem second_linkInv {s : State} (h : linkInv s) : linkInv (events (overdueMsgs s) s) :=
  settle_linkInv (overdueMsgs_unasked s) (fresh_linkInv h)

/-- A request, a byte and an unnamed code end with a close; a reset begins anew; every other command is an event that no request
brings. -/
theorem exec_linkInv (c : Instr) {s : State} (h : linkInv s) : ∃ t, exec c s = .next t ∧ linkInv t := by
  rcases hr : requestOf c with _ | ⟨tag, r⟩
  · cases c
    case powerOn pins => exact ⟨_, rfl, startUp_linkInv _ _ _⟩
    case brownOut pins => exact ⟨_, rfl, startUp_linkInv _ _ _⟩
    case restartReset pins =>
      refine ⟨_, rfl, ?_⟩
      split
      · exact startUp_linkInv _ _ _
      · exact h
    case secondTimer => exact ⟨_, rfl, event_linkInv rfl (second_linkInv h)⟩
    case receiveByte b => exact ⟨_, rfl, closed_event_linkInv _ h⟩
    case unknownRequest tag code => exact ⟨_, rfl, closed_event_linkInv _ h⟩
    all_goals first | exact ⟨_, rfl, event_linkInv rfl h⟩ | exact absurd hr nofun
  · exact ⟨_, exec_requestOf hr s, closed_event_linkInv _ h⟩

/-- Settles O59: the invariant of LNK, with no slot reserved between two commands, is kept by every command. -/
theorem stepKeepsTheLink : Obligations.StepKeepsTheLink := by
  intro s t h ht
  cases waits : s.pending with
  | nil =>
    simp only [step, waits] at ht
    cases ht
    exact h
  | cons c rest =>
    simp only [step, waits] at ht
    obtain ⟨u, hu, kept⟩ := exec_linkInv (s := { s with pending := rest }) c h
    rw [hu] at ht
    cases ht
    exact kept

end Sys2Proof.Machine

/-! O5: reading a payload is the inverse of writing it (R189, R191, 10.4). -/

namespace Sys2Proof.Machine

open Sys2Proof.Laws.Fields

/-! ### Numbers -/

/-- A number's last bytes are those of what is left of it below their range. -/
theorem beBytes_add_mul (n : Nat) (x k : Int) : beBytes n (x + k * (256 ^ n : Nat)) = beBytes n x := by
  induction n generalizing k with
  | zero => rfl
  | succ n ih =>
    have pos : ((256 ^ n : Nat) : Int) ≠ 0 := by positivity
    have split : x + k * (256 ^ (n + 1) : Nat) = x + k * 256 * (256 ^ n : Nat) := by push_cast; ring
    have head : BitVec.ofInt 8 (x / (256 ^ n : Nat) + k * 256) = BitVec.ofInt 8 (x / (256 ^ n : Nat)) := by
      apply BitVec.eq_of_toNat_eq
      simp only [BitVec.toNat_ofInt]
      omega
    rw [split, beBytes, beBytes, ih, Int.add_mul_ediv_right _ _ pos, head]

/-- A number by its first byte and the others. -/
theorem beBytes_split {n y : Nat} (b : Nat) (hy : y < 256 ^ n) :
    beBytes (n + 1) ((b * 256 ^ n + y : Nat) : Int) = BitVec.ofNat 8 b :: beBytes n y := by
  have head : (b * 256 ^ n + y) / 256 ^ n = b := by
    rw [Nat.mul_comm, Nat.mul_add_div (by positivity), Nat.div_eq_of_lt hy, Nat.add_zero]
  have tail : ((b * 256 ^ n + y : Nat) : Int) = y + b * (256 ^ n : Nat) := by push_cast; ring
  rw [beBytes, ← Int.natCast_ediv, head, tail, beBytes_add_mul, BitVec.ofInt_natCast]

theorem u8_eq (n : Nat) : u8 n = [BitVec.ofNat 8 n] := by
  rw [u8, beBytes, beBytes]
  simp

theorem u8_toNat (b : Byte) : u8 b.toNat = [b] := by
  rw [u8_eq, BitVec.ofNat_toNat, BitVec.setWidth_eq]

theorem fitsByte_iff {n x : Nat} : Sys2Proof.fits n x = true ↔ x < 256 ^ n := decide_eq_true_iff

theorem fitsSigned_iff {x : Int} : fitsSigned x = true ↔ -32768 ≤ x ∧ x ≤ 32767 := by
  rw [fitsSigned, Bool.and_eq_true, decide_eq_true_iff, decide_eq_true_iff]

theorem fits_toNat (b : Byte) : Sys2Proof.fits 1 b.toNat = true := fitsByte_iff.mpr b.isLt

/-! ### Fields -/

/-- What `item` reads: exactly the encodings of the values that are `good`, each with whatever follows. -/
def Reads {α : Type} (item : List Byte → Option (α × List Byte)) (good : α → Bool) (enc : α → List Byte) : Prop :=
  ∀ l x rest, item l = some (x, rest) ↔ good x = true ∧ l = enc x ++ rest

theorem takeNat_reads (n : Nat) : Reads (takeNat n) (Sys2Proof.fits n) (fun x => beBytes n x) := by
  induction n with
  | zero =>
    intro l x rest
    constructor
    · intro h
      cases h
      exact ⟨rfl, rfl⟩
    · rintro ⟨hx, rfl⟩
      rw [Nat.lt_one_iff.mp (fitsByte_iff.mp hx)]
      rfl
  | succ n ih =>
    intro l x rest
    cases l with
    | nil => simp [takeNat, beBytes]
    | cons b l =>
      constructor
      · intro h
        unfold takeNat at h
        split at h
        · next y r hy =>
          obtain ⟨small, rfl⟩ := (ih l y r).mp hy
          rw [fitsByte_iff] at small
          cases h
          refine ⟨fitsByte_iff.mpr ?_, ?_⟩
          · rw [pow_succ]
            have := b.isLt
            nlinarith
          · dsimp only
            rw [beBytes_split _ small, BitVec.ofNat_toNat, BitVec.setWidth_eq]
            rfl
        · exact absurd h nofun
      · rintro ⟨hx, hl⟩
        have small : x % 256 ^ n < 256 ^ n := Nat.mod_lt _ (by positivity)
        have whole : x / 256 ^ n * 256 ^ n + x % 256 ^ n = x := Nat.div_add_mod' x (256 ^ n)
        have first : x / 256 ^ n < 256 := by
          rw [fitsByte_iff, pow_succ, Nat.mul_comm] at hx
          exact Nat.div_lt_of_lt_mul (by linarith)
        dsimp only at hl
        rw [← whole, beBytes_split _ small, List.cons_append, List.cons.injEq] at hl
        obtain ⟨rfl, rfl⟩ := hl
        have read := (ih _ _ rest).mpr ⟨fitsByte_iff.mpr small, rfl⟩
        simp only [takeNat, read, BitVec.toNat_ofNat, Nat.mod_eq_of_lt first, whole]

theorem takeS16_reads : Reads takeS16 fitsSigned s16 := by
  intro l x rest
  have read (n : Nat) := takeNat_reads 2 l n rest
  constructor
  · intro h
    unfold takeS16 at h
    split at h
    · next n r hn =>
      obtain ⟨small, rfl⟩ := (takeNat_reads 2 l n r).mp hn
      rw [fitsByte_iff] at small
      cases h
      split
      · exact ⟨fitsSigned_iff.mpr (by omega), rfl⟩
      · have low : ((n : Int) - 65536) = n + (-1) * (256 ^ 2 : Nat) := by norm_num; ring
        exact ⟨fitsSigned_iff.mpr (by omega), by rw [s16, low, beBytes_add_mul]⟩
    · exact absurd h nofun
  · rintro ⟨hx, hl⟩
    rw [fitsSigned_iff] at hx
    rcases Int.lt_or_le x 0 with neg | pos
    · have high : x = ((x + 65536).toNat : Int) + (-1) * (256 ^ 2 : Nat) := by norm_num; omega
      rw [s16, high, beBytes_add_mul] at hl
      have read := (takeNat_reads 2 l (x + 65536).toNat rest).mpr ⟨fitsByte_iff.mpr (by omega), hl⟩
      simp only [takeS16, read, Option.some.injEq, Prod.mk.injEq, and_true]
      rw [if_neg (by omega)]
      omega
    · have nat : x = (x.toNat : Int) := by omega
      rw [s16, nat] at hl
      have read := (takeNat_reads 2 l x.toNat rest).mpr ⟨fitsByte_iff.mpr (by omega), hl⟩
      simp only [takeS16, read, Option.some.injEq, Prod.mk.injEq, and_true]
      rw [if_pos (by omega)]
      omega

theorem takeU8_reads : Reads (takeNat 1) (Sys2Proof.fits 1) (fun x => u8 x) := takeNat_reads 1
theorem takeU16_reads : Reads (takeNat 2) (Sys2Proof.fits 2) (fun x => u16 x) := takeNat_reads 2
theorem takeU32_reads : Reads (takeNat 4) (Sys2Proof.fits 4) (fun x => u32 x) := takeNat_reads 4

section Combined

variable {α β : Type} {item : List Byte → Option (α × List Byte)} {good : α → Bool} {enc : α → List Byte}

/-- A field read first, then what follows it. -/
theorem Reads.bind_iff (h : Reads item good enc) {l rest : List Byte} {y : β} {f : α × List Byte → Option (β × List Byte)} :
    (item l).bind f = some (y, rest) ↔ ∃ x, good x = true ∧ ∃ l', f (x, l') = some (y, rest) ∧ l = enc x ++ l' := by
  simp only [Option.bind_eq_some_iff, Prod.exists, h l]
  exact exists_congr fun x => ⟨fun ⟨l', ⟨g, e⟩, r⟩ => ⟨g, l', r, e⟩, fun ⟨g, l', r, e⟩ => ⟨l', ⟨g, e⟩, r⟩⟩

theorem whole_iff {o : Option (α × List Byte)} {x : α} : whole o = some x ↔ o = some (x, []) := by
  unfold whole
  split
  · next y => simp
  · next other => exact ⟨nofun, fun hx => absurd hx (other x)⟩

/-- A field that is the whole payload. -/
theorem Reads.whole_iff (h : Reads item good enc) {l : List Byte} {x : α} :
    whole (item l) = some x ↔ good x = true ∧ l = enc x := by
  rw [Machine.whole_iff, h l x [], List.append_nil]

theorem takeMany_reads (h : Reads item good enc) (n : Nat) :
    Reads (takeMany item n) (fun xs => xs.length == n && xs.all good) (fun xs => xs.flatMap enc) := by
  induction n with
  | zero =>
    intro l xs rest
    cases xs <;> simp [takeMany]
  | succ n ih =>
    intro l xs rest
    have unfolded : takeMany item (n + 1) l =
        (item l).bind fun p => (takeMany item n p.2).bind fun q => some (p.1 :: q.1, q.2) := by
      rw [takeMany]
      rcases item l with _ | ⟨x, r⟩
      · rfl
      · dsimp only [Option.bind_some]
        rcases takeMany item n r with _ | ⟨ys, r'⟩ <;> rfl
    rw [unfolded, h.bind_iff]
    simp only [ih.bind_iff]
    cases xs with
    | nil => simp
    | cons x xs =>
      simp only [Option.some.injEq, Prod.mk.injEq, List.cons.injEq, List.flatMap_cons, List.length_cons, List.all_cons,
        Bool.and_eq_true, beq_iff_eq, Nat.add_right_cancel_iff, List.append_assoc]
      constructor
      · rintro ⟨y, gy, l1, ⟨ys, ⟨len, gs⟩, l2, ⟨⟨rfl, rfl⟩, rfl⟩, rfl⟩, rfl⟩
        exact ⟨⟨len, gy, gs⟩, rfl⟩
      · rintro ⟨⟨len, gy, gs⟩, rfl⟩
        exact ⟨x, gy, _, ⟨xs, ⟨len, gs⟩, _, ⟨⟨rfl, rfl⟩, rfl⟩, rfl⟩, rfl⟩

theorem takeOpt_reads (h : Reads item good enc) : Reads (takeOpt item) (fun o => o.all good) (optField enc) := by
  intro l o rest
  constructor
  · intro read
    unfold takeOpt at read
    split at read
    · next r hr =>
      cases read
      exact ⟨rfl, ((takeU8_reads l 0 rest).mp hr).2⟩
    · next r hr =>
      obtain ⟨⟨x, r'⟩, hx, e⟩ := Option.map_eq_some_iff.mp read
      cases e
      obtain ⟨gx, rfl⟩ := (h r x rest).mp hx
      exact ⟨gx, ((takeU8_reads l 1 _).mp hr).2⟩
    · exact absurd read nofun
  · rintro ⟨g, rfl⟩
    cases o with
    | none => rfl
    | some x =>
      have read : takeOpt item (optField enc (some x) ++ rest) = (item (enc x ++ rest)).map fun p => (some p.1, p.2) := rfl
      rw [read, (h _ x rest).mpr ⟨g, rfl⟩]
      rfl

theorem takeList_reads (h : Reads item good enc) :
    Reads (takeList item) (fun xs => Sys2Proof.fits 1 xs.length && xs.all good)
      (fun xs => u8 xs.length ++ xs.flatMap enc) := by
  intro l xs rest
  simp only [takeList, Option.bind_eq_bind, takeU8_reads.bind_iff, takeMany_reads h _ _ _ _, Bool.and_eq_true, beq_iff_eq,
    List.append_assoc]
  constructor
  · rintro ⟨n, small, l', ⟨⟨rfl, gs⟩, rfl⟩, rfl⟩
    exact ⟨⟨small, gs⟩, rfl⟩
  · rintro ⟨⟨small, gs⟩, rfl⟩
    exact ⟨_, small, _, ⟨⟨rfl, gs⟩, rfl⟩, rfl⟩

end Combined

/-! ### The contents of requests (R191): each is read field by field -/

theorem takeHeat_reads : Reads takeHeat HeatArgs.wf (fun x => payloadOf (.heatSet x)) := by
  intro l x rest
  cases x
  simp only [takeHeat, Option.bind_eq_bind, takeU8_reads.bind_iff, takeU16_reads.bind_iff, takeU32_reads.bind_iff,
    takeS16_reads.bind_iff]
  simp [HeatArgs.wf, payloadOf, and_assoc]

theorem takeCool_reads : Reads takeCool CoolArgs.wf (fun x => payloadOf (.coolSet x)) := by
  intro l x rest
  cases x
  simp only [takeCool, Option.bind_eq_bind, takeU8_reads.bind_iff, takeU32_reads.bind_iff, takeS16_reads.bind_iff,
    (takeMany_reads takeS16_reads 3).bind_iff]
  simp [CoolArgs.wf, payloadOf, and_assoc]

theorem takeLight_reads : Reads takeLight LightArgs.wf (fun x => payloadOf (.lightSet x)) := by
  intro l x rest
  cases x
  simp only [takeLight, Option.bind_eq_bind, takeU8_reads.bind_iff, takeU16_reads.bind_iff]
  simp [LightArgs.wf, payloadOf, and_assoc]

theorem takeRest_reads : Reads takeRest RestSettings.wf (fun x =>
    u32 x.splitFirst ++ u32 x.splitSecond ++ u32 x.breakMin ++ u32 x.driveLimit ++ u32 x.lead ++ u32 x.reducedMin ++
      u32 x.regularMin ++ u32 x.quietDelay ++ u32 x.hIdle) := by
  intro l x rest
  cases x
  simp only [takeRest, Option.bind_eq_bind, takeU32_reads.bind_iff]
  simp [RestSettings.wf, and_assoc]

theorem takeSched_reads : Reads takeSched SchedArgs.wf (fun x => payloadOf (.schedAdd x)) := by
  intro l x rest
  cases x
  simp only [takeSched, Option.bind_eq_bind, takeU8_reads.bind_iff, takeU32_reads.bind_iff,
    (takeOpt_reads takeS16_reads).bind_iff, (takeOpt_reads takeU32_reads).bind_iff]
  simp [SchedArgs.wf, payloadOf, and_assoc]

theorem takeItem_reads : Reads takeItem SceneItem.wf (fun i => u8 i.channel ++ u16 i.level ++ u16 i.fade) := by
  intro l x rest
  cases x
  simp only [takeItem, Option.bind_eq_bind, takeU8_reads.bind_iff, takeU16_reads.bind_iff]
  simp [SceneItem.wf, and_assoc]

theorem takeRow_reads : Reads takeRow LevelRow.wf (fun r => u16 r.pump ++ u16 r.burner ++ u16 r.air ++ s16 r.current) := by
  intro l x rest
  cases x
  simp only [takeRow, Option.bind_eq_bind, takeU16_reads.bind_iff, takeS16_reads.bind_iff]
  simp [LevelRow.wf, and_assoc]

/-- R182: the quantities fit their count byte. -/
theorem takeArm_reads : Reads takeArm
    (fun x => Sys2Proof.fits 1 x.desc && Sys2Proof.fits 1 x.cause && Sys2Proof.fits 1 x.quantities.length &&
      x.quantities.all (Sys2Proof.fits 1) && Sys2Proof.fits 1 x.count && Sys2Proof.fits 1 x.start)
    (fun x => payloadOf (.captureArm x)) := by
  intro l x rest
  cases x
  simp only [takeArm, Option.bind_eq_bind, takeU8_reads.bind_iff, (takeList_reads takeU8_reads).bind_iff]
  simp [payloadOf, and_assoc]

/-- R47: the currents fit their count byte. -/
theorem takeDeclare_reads : Reads takeDeclare
    (fun x => Sys2Proof.fits 1 x.entry && Sys2Proof.fits 1 x.cls && Sys2Proof.fits 1 x.currents.length &&
      x.currents.all fitsSigned && Sys2Proof.fits 1 x.requested && Sys2Proof.fits 2 x.duty)
    (fun x => payloadOf (.demandDeclare x)) := by
  intro l x rest
  cases x
  simp only [takeDeclare, Option.bind_eq_bind, takeU8_reads.bind_iff, takeU16_reads.bind_iff,
    (takeList_reads takeS16_reads).bind_iff]
  simp [payloadOf, and_assoc]

theorem takeBattery_reads : Reads takeBattery BatteryParams.wf (fun x => payloadOf (.batterySet x)) := by
  intro l x rest
  cases x
  simp only [takeBattery, Option.bind_eq_bind, takeU16_reads.bind_iff, takeU32_reads.bind_iff, takeS16_reads.bind_iff]
  simp [BatteryParams.wf, payloadOf, and_assoc]


/-! ### A payload and its request -/

/-- Whether a request can occur: the part of `Instr.wf` that speaks of its content. -/
def Request.wf : Request → Bool
  | .heatSet x => x.wf
  | .coolSet x => x.wf
  | .lightSet x => x.wf
  | .sceneRecall n | .activity n | .alertAck n | .alertChannel n | .schedRemove n | .schedList n | .captureFree n
  | .demandRelease n | .linkStats n => Sys2Proof.fits 1 n
  | .restPlan n | .clockSet n | .chargeSet n => Sys2Proof.fits 4 n
  | .reportGate a b | .causeLevel a b | .levelMask a b | .captureRead a b => Sys2Proof.fits 1 a && Sys2Proof.fits 1 b
  | .restSettings x => x.wf
  | .schedAdd x => x.wf
  | .logWindow first last => Sys2Proof.fits 4 first && Sys2Proof.fits 4 last
  | .sceneStore n items => Sys2Proof.fits 1 n && decide (items.length ≤ 10) && items.all SceneItem.wf
  | .groupSet g _ => Sys2Proof.fits 1 g
  | .channelSet currents cap => currents.length == 8 && currents.all fitsSigned && Sys2Proof.fits 2 cap
  | .captureArm x => x.wf
  | .tableWrite rows => rows.length == 4 && rows.all LevelRow.wf
  | .demandDeclare x => x.wf
  | .batterySet p => p.wf
  | .ocvSet v => v.length == 6 && v.all (Sys2Proof.fits 2)
  | .sensorTrim n offset => Sys2Proof.fits 1 n && fitsSigned offset
  | _ => true

theorem wf_of_requestOf {c : Instr} {tag : Byte} {r : Request} (h : requestOf c = some (tag, r)) : r.wf = c.wf := by
  cases c <;> first | (cases h; rfl) | exact absurd h nofun

/-- The payload of a request that can occur fits a frame (R187). -/
theorem payloadOf_length_le {r : Request} (h : r.wf = true) : (payloadOf r).length ≤ 56 := by
  cases r
  case coolSet x =>
    simp only [Request.wf, CoolArgs.wf, Bool.and_eq_true, beq_iff_eq] at h
    simp [payloadOf, flatMap_length _ 2 s16_length, h]
  case schedAdd x =>
    simp only [payloadOf, List.length_append, u8_length, u32_length, optField_length _ 2 s16_length,
      optField_length _ 4 u32_length]
    split <;> split <;> decide
  case sceneStore n items =>
    simp only [Request.wf, Bool.and_eq_true, decide_eq_true_eq] at h
    simp only [payloadOf, List.length_append, u8_length, flatMap_length _ 5 item_length]
    omega
  case channelSet currents cap =>
    simp only [Request.wf, Bool.and_eq_true, beq_iff_eq] at h
    simp [payloadOf, flatMap_length _ 2 s16_length, h]
  case captureArm x =>
    simp only [Request.wf, ArmArgs.wf, Bool.and_eq_true, decide_eq_true_eq] at h
    simp only [payloadOf, List.length_append, u8_length, flatMap_length _ 1 u8_length]
    omega
  case tableWrite rows =>
    simp only [Request.wf, Bool.and_eq_true, beq_iff_eq] at h
    simp [payloadOf, h]
  case demandDeclare x =>
    simp only [Request.wf, DeclareArgs.wf, Bool.and_eq_true, decide_eq_true_eq] at h
    simp only [payloadOf, List.length_append, u8_length, u16_length, flatMap_length _ 2 s16_length]
    omega
  case ocvSet v =>
    simp only [Request.wf, Bool.and_eq_true, beq_iff_eq] at h
    simp [payloadOf, flatMap_length _ 2 u16_length, h]
  all_goals simp [payloadOf]

/-! #### The contents that are read as a request -/

theorem takeScene_iff {l rest : List Byte} {r : Request} : takeScene l = some (r, rest) ↔
    ∃ n items, Sys2Proof.fits 1 n = true ∧ Sys2Proof.fits 1 items.length = true ∧ items.all SceneItem.wf = true ∧
      .sceneStore n items = r ∧ l = payloadOf (.sceneStore n items) ++ rest := by
  simp only [takeScene, Option.bind_eq_bind, takeU8_reads.bind_iff, (takeList_reads takeItem_reads).bind_iff]
  simp [payloadOf, and_assoc]

theorem takeChannelTable_iff {l rest : List Byte} {r : Request} : takeChannelTable l = some (r, rest) ↔
    ∃ currents cap, currents.length = 8 ∧ currents.all fitsSigned = true ∧ Sys2Proof.fits 2 cap = true ∧
      .channelSet currents cap = r ∧ l = currents.flatMap s16 ++ u16 cap ++ rest := by
  simp only [takeChannelTable, Option.bind_eq_bind, takeU16_reads.bind_iff, (takeMany_reads takeS16_reads 8).bind_iff]
  simp [and_assoc]

theorem takeWindow_iff {l rest : List Byte} {r : Request} : takeWindow l = some (r, rest) ↔
    ∃ first last, Sys2Proof.fits 4 first = true ∧ Sys2Proof.fits 4 last = true ∧
      .logWindow first last = r ∧ l = payloadOf (.logWindow first last) ++ rest := by
  simp only [takeWindow, Option.bind_eq_bind, takeU32_reads.bind_iff]
  simp [payloadOf, and_assoc]

theorem takeTrim_iff {l rest : List Byte} {r : Request} : takeTrim l = some (r, rest) ↔
    ∃ n offset, Sys2Proof.fits 1 n = true ∧ fitsSigned offset = true ∧
      .sensorTrim n offset = r ∧ l = payloadOf (.sensorTrim n offset) ++ rest := by
  simp only [takeTrim, Option.bind_eq_bind, takeU8_reads.bind_iff, takeS16_reads.bind_iff]
  simp [payloadOf, and_assoc]

/-! #### From the payload to the request -/

/-- A payload is the one of a request, under its code. -/
def Spells (code : Nat) (l : List Byte) (r : Request) : Prop := r.code = code ∧ l = payloadOf r

section Read

variable {α : Type} {item : List Byte → Option (α × List Byte)} {good : α → Bool} {enc : α → List Byte} {code : Nat}
  {l : List Byte} {r : Request}

theorem bare_spells {r₀ : Request} (h : bare r₀ l = some r) (hc : Spells code [] r₀) : Spells code l r := by
  obtain ⟨rfl, rfl⟩ := Option.ite_none_right_eq_some.mp h |>.imp_right Option.some.inj
  exact hc

theorem Reads.of_map (hr : Reads item good enc) {C : α → Request} (h : (whole (item l)).map C = some r) :
    ∃ x, l = enc x ∧ C x = r := by
  obtain ⟨x, hx, hc⟩ := Option.map_eq_some_iff.mp h
  exact ⟨x, (hr.whole_iff.mp hx).2, hc⟩

theorem Reads.spells (hr : Reads item good enc) {C : α → Request} (h : (whole (item l)).map C = some r)
    (hc : ∀ x, Spells code (enc x) (C x)) : Spells code l r := by
  obtain ⟨x, rfl, rfl⟩ := hr.of_map h
  exact hc x

/-- The same behind the byte that gives a request's form. -/
theorem Reads.spells_after (hr : Reads item good enc) {C : α → Request} {b : Byte}
    (h : (whole (item l)).map C = some r) (hc : ∀ x, Spells code (b :: enc x) (C x)) : Spells code (b :: l) r := by
  obtain ⟨x, rfl, rfl⟩ := hr.of_map h
  exact hc x

theorem twoBytes_spells {C : Nat × Nat → Request} (h : (twoBytes l).map C = some r)
    (hc : ∀ a b, Spells code (u8 a ++ u8 b) (C (a, b))) : Spells code l r := by
  obtain ⟨x, hx, rfl⟩ := Option.map_eq_some_iff.mp h
  unfold twoBytes at hx
  split at hx
  · next a b =>
    cases hx
    have spelled := hc a.toNat b.toNat
    rwa [u8_toNat, u8_toNat] at spelled
  · exact absurd hx nofun

theorem parseBasic_spells (h : parseBasic code l = some r) : Spells code l r := by
  unfold parseBasic at h
  split at h
  case h_5 => exact takeHeat_reads.spells h fun _ => ⟨rfl, rfl⟩
  case h_6 => exact takeCool_reads.spells h fun _ => ⟨rfl, rfl⟩
  case h_7 => exact takeLight_reads.spells h fun _ => ⟨rfl, rfl⟩
  case h_8 => exact takeU8_reads.spells h fun _ => ⟨rfl, rfl⟩
  case h_11 => exact takeU8_reads.spells h fun _ => ⟨rfl, rfl⟩
  case h_12 => exact takeU32_reads.spells h fun _ => ⟨rfl, rfl⟩
  case h_13 =>
    split at h
    · next k => cases h; exact ⟨rfl, by rw [payloadOf, u8_toNat]; rfl⟩
    · next n => cases h; exact ⟨rfl, by rw [payloadOf, u8_toNat]; rfl⟩
    · exact absurd h nofun
  case h_14 => exact twoBytes_spells h fun _ _ => ⟨rfl, rfl⟩
  case h_15 => exact absurd h nofun
  all_goals exact bare_spells h ⟨rfl, rfl⟩

theorem parseExtended_spells (h : parseExtended code l = some r) : Spells code l r := by
  unfold parseExtended at h
  split at h
  case h_1 =>
    split at h
    · exact takeU32_reads.spells_after h fun _ => ⟨rfl, rfl⟩
    · exact takeRest_reads.spells_after h fun _ => ⟨rfl, by simp [payloadOf, u8_eq]⟩
    · exact absurd h nofun
  case h_2 => exact takeSched_reads.spells h fun _ => ⟨rfl, rfl⟩
  case h_3 => exact takeU8_reads.spells h fun _ => ⟨rfl, rfl⟩
  case h_4 => exact takeU8_reads.spells h fun _ => ⟨rfl, rfl⟩
  case h_5 =>
    obtain ⟨first, last, -, -, rfl, rfl⟩ := takeWindow_iff.mp (whole_iff.mp h)
    exact ⟨rfl, List.append_nil _⟩
  case h_6 => exact bare_spells h ⟨rfl, rfl⟩
  case h_7 =>
    obtain ⟨n, items, -, -, -, rfl, rfl⟩ := takeScene_iff.mp (whole_iff.mp h)
    exact ⟨rfl, List.append_nil _⟩
  case h_8 =>
    split at h
    · next g m => cases h; exact ⟨rfl, by rw [payloadOf, u8_toNat]; rfl⟩
    · obtain ⟨currents, cap, -, -, -, rfl, rfl⟩ := takeChannelTable_iff.mp (whole_iff.mp h)
      exact ⟨rfl, by simp [payloadOf, u8_eq]⟩
    · exact absurd h nofun
  case h_9 =>
    split at h
    · next c v => cases h; exact ⟨rfl, by rw [payloadOf, u8_toNat, u8_toNat]; rfl⟩
    · next m t => cases h; exact ⟨rfl, by rw [payloadOf, u8_toNat, u8_toNat]; rfl⟩
    · exact absurd h nofun
  case h_10 => exact absurd h nofun

theorem parseCapture_spells (h : parseCapture code l = some r) : Spells code l r := by
  unfold parseCapture at h
  split at h
  case h_1 => exact takeArm_reads.spells h fun _ => ⟨rfl, rfl⟩
  case h_2 => exact twoBytes_spells h fun _ _ => ⟨rfl, rfl⟩
  case h_4 =>
    split at h
    · cases h; exact ⟨rfl, rfl⟩
    · exact (takeMany_reads takeRow_reads 4).spells_after h fun _ => ⟨rfl, rfl⟩
    · exact absurd h nofun
  case h_5 => exact takeDeclare_reads.spells h fun _ => ⟨rfl, rfl⟩
  case h_7 => exact bare_spells h ⟨rfl, rfl⟩
  case h_9 => exact bare_spells h ⟨rfl, rfl⟩
  case h_10 => exact absurd h nofun
  all_goals exact takeU8_reads.spells h fun _ => ⟨rfl, rfl⟩

theorem parseService_spells (h : parseService code l = some r) : Spells code l r := by
  unfold parseService at h
  split at h
  case h_2 => exact takeBattery_reads.spells h fun _ => ⟨rfl, rfl⟩
  case h_3 => exact takeU32_reads.spells h fun _ => ⟨rfl, rfl⟩
  case h_4 => exact (takeMany_reads takeU16_reads 6).spells h fun _ => ⟨rfl, rfl⟩
  case h_5 =>
    obtain ⟨n, offset, -, -, rfl, rfl⟩ := takeTrim_iff.mp (whole_iff.mp h)
    exact ⟨rfl, List.append_nil _⟩
  case h_8 => exact absurd h nofun
  all_goals exact bare_spells h ⟨rfl, rfl⟩

/-- R189, R191: what is read from a payload under a code is the request that this payload and code are the ones of. -/
theorem parseRequest_spells (h : parseRequest code l = some r) : Spells code l r := by
  unfold parseRequest at h
  split at h
  · exact parseBasic_spells h
  · split at h
    · exact parseExtended_spells h
    · split at h
      · exact parseCapture_spells h
      · exact parseService_spells h

end Read

/-! #### From the request to the payload -/

section Written

variable {α : Type} {item : List Byte → Option (α × List Byte)} {good : α → Bool} {enc : α → List Byte}

/-- A content written is read back. -/
theorem Reads.written (h : Reads item good enc) (C : α → Request) {x : α} (g : good x = true) :
    (whole (item (enc x))).map C = some (C x) := by
  rw [h.whole_iff.mpr ⟨g, rfl⟩]
  rfl

/-- A byte written is read back. -/
theorem toNat_ofNat_of_fits {n : Nat} (h : Sys2Proof.fits 1 n = true) : (BitVec.ofNat 8 n).toNat = n :=
  (BitVec.toNat_ofNat n 8).trans (Nat.mod_eq_of_lt (fitsByte_iff.mp h))

theorem twoBytes_written (C : Nat × Nat → Request) {a b : Nat} (ha : Sys2Proof.fits 1 a = true)
    (hb : Sys2Proof.fits 1 b = true) : (twoBytes (u8 a ++ u8 b)).map C = some (C (a, b)) := by
  rw [u8_eq, u8_eq]
  simp only [List.cons_append, List.nil_append, twoBytes, Option.map_some, toNat_ofNat_of_fits ha, toNat_ofNat_of_fits hb]

end Written

/-- R189, R191: the payload of a request that can occur is read as this request. -/
theorem parseRequest_payloadOf {r : Request} (h : r.wf = true) : parseRequest r.code (payloadOf r) = some r := by
  cases r
  case heatSet x => exact takeHeat_reads.written .heatSet h
  case coolSet x => exact takeCool_reads.written .coolSet h
  case lightSet x => exact takeLight_reads.written .lightSet h
  case sceneRecall n => exact takeU8_reads.written .sceneRecall h
  case activity n => exact takeU8_reads.written .activity h
  case restPlan n => exact takeU32_reads.written .restPlan h
  case alertAck n =>
    rw [payloadOf, u8_eq n]
    exact congrArg (some ∘ Request.alertAck) (toNat_ofNat_of_fits h)
  case alertChannel n =>
    rw [payloadOf, u8_eq n]
    exact congrArg (some ∘ Request.alertChannel) (toNat_ofNat_of_fits h)
  case reportGate a b =>
    obtain ⟨ha, hb⟩ := Bool.and_eq_true_iff.mp h
    exact twoBytes_written (fun p => .reportGate p.1 p.2) ha hb
  case clockSet t => exact takeU32_reads.written .clockSet h
  case restSettings x =>
    have read := takeRest_reads.written .restSettings h
    rw [payloadOf]
    simp only [List.append_assoc] at read ⊢
    exact read
  case schedAdd x => exact takeSched_reads.written .schedAdd h
  case schedRemove n => exact takeU8_reads.written .schedRemove h
  case schedList n => exact takeU8_reads.written .schedList h
  case logWindow first last =>
    obtain ⟨hf, hl⟩ := Bool.and_eq_true_iff.mp h
    exact whole_iff.mpr (takeWindow_iff.mpr ⟨first, last, hf, hl, rfl, (List.append_nil _).symm⟩)
  case sceneStore n items =>
    simp only [Request.wf, Bool.and_eq_true, decide_eq_true_eq] at h
    obtain ⟨⟨hn, short⟩, good⟩ := h
    have counted : Sys2Proof.fits 1 items.length = true := fitsByte_iff.mpr (by omega)
    exact whole_iff.mpr (takeScene_iff.mpr ⟨n, items, hn, counted, good, rfl, (List.append_nil _).symm⟩)
  case groupSet g m =>
    rw [payloadOf, u8_eq g]
    exact congrArg (fun g => some (Request.groupSet g m)) (toNat_ofNat_of_fits h)
  case channelSet currents cap =>
    simp only [Request.wf, Bool.and_eq_true, beq_iff_eq] at h
    obtain ⟨⟨len, good⟩, hcap⟩ := h
    have written : payloadOf (.channelSet currents cap) = 0x01#8 :: (currents.flatMap s16 ++ u16 cap) := by
      simp [payloadOf, u8_eq]
    rw [written]
    exact whole_iff.mpr (takeChannelTable_iff.mpr ⟨currents, cap, len, good, hcap, rfl, (List.append_nil _).symm⟩)
  case causeLevel a b =>
    obtain ⟨ha, hb⟩ := Bool.and_eq_true_iff.mp h
    rw [payloadOf, u8_eq a, u8_eq b]
    exact congrArg₂ (fun a b => some (Request.causeLevel a b)) (toNat_ofNat_of_fits ha) (toNat_ofNat_of_fits hb)
  case levelMask a b =>
    obtain ⟨ha, hb⟩ := Bool.and_eq_true_iff.mp h
    rw [payloadOf, u8_eq a, u8_eq b]
    exact congrArg₂ (fun a b => some (Request.levelMask a b)) (toNat_ofNat_of_fits ha) (toNat_ofNat_of_fits hb)
  case captureArm x =>
    simp only [Request.wf, ArmArgs.wf, Bool.and_eq_true, decide_eq_true_eq] at h
    obtain ⟨⟨⟨⟨⟨desc, cause⟩, short⟩, good⟩, count⟩, start⟩ := h
    have counted : Sys2Proof.fits 1 x.quantities.length = true := fitsByte_iff.mpr (by omega)
    exact takeArm_reads.written .captureArm (by simp only [desc, cause, counted, good, count, start, Bool.and_self])
  case captureRead a b =>
    obtain ⟨ha, hb⟩ := Bool.and_eq_true_iff.mp h
    exact twoBytes_written (fun p => .captureRead p.1 p.2) ha hb
  case captureFree n => exact takeU8_reads.written .captureFree h
  case tableWrite rows => exact (takeMany_reads takeRow_reads 4).written .tableWrite h
  case demandDeclare x =>
    simp only [Request.wf, DeclareArgs.wf, Bool.and_eq_true, decide_eq_true_eq] at h
    obtain ⟨⟨⟨⟨⟨entry, cls⟩, short⟩, good⟩, requested⟩, duty⟩ := h
    have counted : Sys2Proof.fits 1 x.currents.length = true := fitsByte_iff.mpr (by omega)
    exact takeDeclare_reads.written .demandDeclare
      (by simp only [entry, cls, counted, good, requested, duty, Bool.and_self])
  case demandRelease n => exact takeU8_reads.written .demandRelease h
  case linkStats n => exact takeU8_reads.written .linkStats h
  case batterySet p => exact takeBattery_reads.written .batterySet h
  case chargeSet n => exact takeU32_reads.written .chargeSet h
  case ocvSet v => exact (takeMany_reads takeU16_reads 6).written .ocvSet h
  case sensorTrim n offset =>
    obtain ⟨hn, ho⟩ := Bool.and_eq_true_iff.mp h
    exact whole_iff.mpr (takeTrim_iff.mpr ⟨n, offset, hn, ho, rfl, (List.append_nil _).symm⟩)
  all_goals rfl

/-- Settles O5: every content is read exactly from its own bytes, so that reading undoes writing and the other way round. -/
theorem payloadsSpellTheirRequests : Obligations.PayloadsSpellTheirRequests := by
  refine ⟨fun c tag r hc hw => ?_, fun code payload r h => parseRequest_spells h⟩
  have good : r.wf = true := (wf_of_requestOf hc).trans hw
  exact ⟨parseRequest_payloadOf good, payloadOf_length_le good⟩

end Sys2Proof.Machine

/-! Dispatch at LNK by its cases (R189, R192, R194, R195), for O3, O4 and O48. -/

namespace Sys2Proof.Machine

section Dispatch

variable {l : Lnk} {s : State} {code : Nat} {kind tag : Byte} {r : Request}

/-- R194: a link error by its counter, with its number and the four counters in the post. -/
theorem linkError_eq (e : LinkError) (l : Lnk) :
    linkError e l = (strike e l,
      [post 25 (u8 e.code ++ u16 (strike e l).gapErrs ++ u16 (strike e l).lenErrs ++ u16 (strike e l).crcErrs ++
        u16 (strike e l).overruns)]) := by
  simp only [linkError, counterBytes, List.append_assoc]

/-- R189: the slot reserved for the reply of a request. -/
def Lnk.reserving (l : Lnk) (kind tag : Byte) : Lnk := { l with reserved := some (kind, tag) }

/-- R189 step 2, R194: a dispatch with both slots full is an overrun. -/
theorem dispatchRequest_overrun (q : Option Request) (full : 2 ≤ l.slots.length) :
    dispatchRequest code tag q s l =
      ({ l with overruns := min 65535 (l.overruns + 1) },
        [post 25 (u8 3 ++ u16 l.gapErrs ++ u16 l.lenErrs ++ u16 l.crcErrs ++ u16 (min 65535 (l.overruns + 1)))]) := by
  rw [dispatchRequest, if_pos full, linkError_eq]
  rfl

/-- R189: a payload that spells no request. -/
theorem dispatchRequest_unknown (room : l.slots.length < 2) :
    dispatchRequest code tag none s l = (takeAnswer .unknown [] (l.reserving (BitVec.ofNat 8 (code + 128)) tag), []) :=
  if_neg (Nat.not_le.mpr room)

/-- R192: a Service request with SERVICE low. -/
theorem dispatchRequest_denied (room : l.slots.length < 2) (tier : serviceTier code = true) (low : l.service = false) :
    dispatchRequest code tag (some r) s l = (takeAnswer .denied [] (l.reserving (BitVec.ofNat 8 (code + 128)) tag), []) := by
  rw [dispatchRequest, if_neg (Nat.not_le.mpr room)]
  exact if_pos (by rw [tier, low]; rfl)

/-- R192: a request of an open tier. -/
theorem dispatchRequest_open (room : l.slots.length < 2) (tier : serviceTier code = true → l.service = true) :
    dispatchRequest code tag (some r) s l = routeRequest r (l.reserving (BitVec.ofNat 8 (code + 128)) tag) s := by
  rw [dispatchRequest, if_neg (Nat.not_le.mpr room)]
  refine if_neg fun shut => ?_
  rw [Bool.and_eq_true, Bool.not_eq_true'] at shut
  exact absurd (tier shut.1) (Bool.eq_false_iff.mp shut.2)

theorem routeRequest_owner {m : Msg} (owned : r.owner = some m) : routeRequest r l s = (l, [m]) := by
  cases r <;> first | exact congrArg (Prod.mk l) (congrArg Option.toList owned) | exact absurd owned nofun

/-- R194: LINK_STATS with a clear of 0 or 1. -/
theorem linkStatsRequest_answered {clear : Nat} (h : clear ≤ 1) :
    linkStatsRequest clear (l.reserving kind tag) =
      takeAnswer .ok (counterBytes l)
        ((if clear = 1 then { l with gapErrs := 0, lenErrs := 0, crcErrs := 0, overruns := 0 } else l).reserving kind tag) := by
  unfold linkStatsRequest
  rw [if_neg (Nat.not_lt.mpr h)]
  by_cases one : clear = 1
  · rw [if_pos one, if_pos one]
    rfl
  · rw [if_neg one, if_neg one]
    rfl

theorem linkStatsRequest_range {clear : Nat} (h : 1 < clear) : linkStatsRequest clear l = takeAnswer .range [] l := if_pos h

/-- R189, R195: what LNK owns it answers itself, and with what it hands on it keeps to class 2. -/
theorem routeRequest_answers (unowned : r.owner = none) :
    ∃ st body, ∃ l' : Lnk, ∃ ms, routeRequest r (l.reserving kind tag) s = (takeAnswer st body (l'.reserving kind tag), ms) ∧
      l'.slots = l.slots ∧ graded 2 ms = true := by
  cases r
  case status => exact ⟨_, _, l, _, rfl, rfl, rfl⟩
  case readings => exact ⟨_, _, l, _, rfl, rfl, rfl⟩
  case linkStats clear =>
    by_cases h : clear ≤ 1
    · refine ⟨_, _, _, _, congrArg (·, []) (linkStatsRequest_answered h), ?_, rfl⟩
      split <;> rfl
    · exact ⟨_, _, l, _, congrArg (·, []) (linkStatsRequest_range (Nat.not_le.mp h)), rfl, rfl⟩
  all_goals exact absurd unowned nofun

/-! ### From the dispatch to the close -/

/-- A command that closes an event, by what its block changes and hands on. -/
theorem exec_closed {c : Instr} {m : Msg} {u : State} {ms : List Msg} (he : exec c s = .next (closed (event m s)))
    (hd : deliver m (fresh s) = (u, ms)) : exec c s = .next (closed (settle ms u)) := by
  rw [he, event_eq hd]

/-- A request command, by what its dispatch leaves at LNK and hands on. -/
theorem exec_dispatch {c : Instr} {ms : List Msg} (hc : requestOf c = some (tag, r))
    (hd : dispatchRequest r.code tag (some r) (fresh s) s.lnk = (l, ms)) :
    exec c s = .next (closed (settle ms { fresh s with lnk := l })) := by
  refine exec_closed (m := .lnk (.request tag r)) (exec_requestOf hc s) ?_
  rw [deliver_lnk, lnkHandle, fresh_lnk, hd]

/-- A request of a code that the catalogue does not name, by what its dispatch leaves at LNK and hands on. -/
theorem exec_unnamed {code : Byte} {ms : List Msg} (unnamed : (natIn 1 0x3F code.toNat && !catalogued code.toNat) = true)
    (hd : dispatchRequest code.toNat tag none (fresh s) s.lnk = (l, ms)) :
    exec (.unknownRequest tag code) s = .next (closed (settle ms { fresh s with lnk := l })) := by
  refine exec_closed (m := .lnk (.unknown tag code)) rfl ?_
  rw [deliver_lnk, lnkHandle, fresh_lnk]
  dsimp only
  rw [if_pos unnamed, hd]

theorem Status.code_le (st : Status) : st.code ≤ 9 := by
  cases st <;> decide

end Dispatch

/-- Settles O3: a request's owner answers first and once, and LNK answers the three requests that are its own. -/
theorem everyRequestIsAnsweredOnce : Obligations.EveryRequestIsAnsweredOnce := by
  intro c tag r s hc slot isOpen
  have tier : serviceTier r.code = true → s.lnk.service = true := fun h => isOpen ((serviceTier_iff r).mp h)
  cases owner : r.owner with
  | some m =>
    obtain ⟨st, body, rest, hands, handed⟩ := owner_answers owner (dispatched (BitVec.ofNat 8 (r.code + 128)) tag s)
    have reply := request_reply slot tier owner (owner_rank owner) (congrArg (Prod.mk _) hands) (owner_lnk owner _) handed
    exact ⟨_, st.code, body, exec_requestOf hc s, reply, st.code_le⟩
  | none =>
    obtain ⟨st, body, l, ms, routed, slots, handed⟩ := routeRequest_answers (s := fresh s) (l := s.lnk)
      (kind := BitVec.ofNat 8 (r.code + 128)) (tag := tag) owner
    rw [← dispatchRequest_open slot tier] at routed
    refine ⟨_, st.code, body, exec_dispatch hc routed, ?_, st.code_le⟩
    have reply := closed_run_slots (n := eventFuel) (st := st) (b := body)
      (s := { fresh s with lnk := l.reserving (BitVec.ofNat 8 (r.code + 128)) tag }) rfl handed
    exact reply.trans (congrArg (· ++ _) slots)

theorem ofNat_toNat_add (code : Byte) : BitVec.ofNat 8 (code.toNat + 128) = code + 0x80#8 := by
  rw [BitVec.ofNat_add, BitVec.ofNat_toNat, BitVec.setWidth_eq]

/-- 10.4: the codes of 0x01 to 0x3F that the catalogue does not name. -/
theorem unnamed_iff (code : Byte) : (natIn 1 0x3F code.toNat && !catalogued code.toNat) = true ↔
    code = 0x0F#8 ∨ (0x22#8 ≤ code ∧ code ≤ 0x2F#8) ∨ (0x37#8 ≤ code ∧ code ≤ 0x3F#8) := by
  simp only [natIn, catalogued, Bool.and_eq_true, Bool.not_eq_true', Bool.or_eq_false_iff, Bool.and_eq_false_iff,
    decide_eq_true_eq, decide_eq_false_iff_not, BitVec.le_def, ← BitVec.toNat_inj, BitVec.toNat_ofNat]
  omega

/-- Settles O4: what a dispatch does with a closed tier, with both slots full, and with an unnamed code. -/
theorem requestsAreTurnedAway : Obligations.RequestsAreTurnedAway := by
  refine ⟨fun c tag r s hc slot tier low => ?_, ⟨fun c tag r s hc full => ?_, fun tag code s one most unnamed full => ?_⟩,
    fun tag code s slot => ⟨fun named => ?_, fun named => ?_⟩⟩
  · rw [exec_dispatch hc (dispatchRequest_denied slot ((serviceTier_iff r).mpr tier) low), settle_nil]
    rfl
  · exact exec_dispatch hc (dispatchRequest_overrun (some r) full)
  · have known : (natIn 1 0x3F code.toNat && !catalogued code.toNat) = true := by simp [natIn, unnamed, one, most]
    exact exec_unnamed known (dispatchRequest_overrun none full)
  · rw [exec_unnamed ((unnamed_iff code).mpr named) (dispatchRequest_unknown slot), settle_nil, ofNat_toNat_add]
    rfl
  · have other := mt (unnamed_iff code).mp named
    have ignored : deliver (.lnk (.unknown tag code)) (fresh s) = (fresh s, []) := by
      rw [deliver_lnk, lnkHandle, if_neg other]
    rw [exec_closed (m := .lnk (.unknown tag code)) rfl ignored, settle_nil]

end Sys2Proof.Machine

/-! O48: the assembler, and the dispatch of a good frame (R186 to R190, R192, R194). -/

namespace Sys2Proof.Machine

section Assembler

variable {l : Lnk} {s : State} {b kind tag : Byte} {kept payload : List Byte} {len : Nat}

/-! ### One byte (R188) -/

theorem assemble_hunt (h : l.asm = .hunt) :
    assemble b s l = ({ l with asm := if b = 0x5A#8 then .length else .hunt }, []) := by
  rw [assemble, h]

theorem assemble_length (h : l.asm = .length) (two : 2 ≤ b.toNat) (most : b.toNat ≤ 58) :
    assemble b s l = ({ l with asm := .body b.toNat [] }, []) := by
  rw [assemble, h]
  exact if_pos (by simp [natIn, two, most])

theorem assemble_length_error (h : l.asm = .length) (bad : b.toNat < 2 ∨ 58 < b.toNat) :
    assemble b s l = linkError .length { l with asm := .hunt } := by
  rw [assemble, h]
  exact if_neg (by simp [natIn]; omega)

theorem assemble_body (h : l.asm = .body len kept) : assemble b s l =
    ({ l with asm := if kept.length + 1 < len then .body len (kept ++ [b]) else .check len (kept ++ [b]) }, []) := by
  rw [assemble, h]
  have full : len ≤ (kept ++ [b]).length ↔ ¬kept.length + 1 < len := by
    rw [List.length_append, List.length_singleton, Nat.not_lt]
  simp only [full, ite_not]

theorem assemble_crc_error (h : l.asm = .check len kept) (bad : b ≠ crc8 (BitVec.ofNat 8 len :: kept)) :
    assemble b s l = linkError .crc { l with asm := .hunt } := by
  rw [assemble, h]
  exact if_neg bad

/-- R187, R188: the CRC of a good frame dispatches it. -/
theorem assemble_frame (h : l.asm = .check len kept) :
    assemble (crc8 (BitVec.ofNat 8 len :: kept)) s l = dispatchFrame kept s { l with asm := .hunt } := by
  rw [assemble, h]
  exact if_pos rfl

/-- A received byte, by what the assembler leaves at LNK and hands on: CHG is stirred first. -/
theorem exec_byte {ms : List Msg} (h : assemble b (fresh s) s.lnk = (l, ms)) :
    exec (.receiveByte b) s = .next (closed (settle (.chg .stir :: ms) { fresh s with lnk := l })) := by
  refine exec_closed (m := .lnk (.byte b)) rfl ?_
  rw [deliver_lnk, lnkHandle, fresh_lnk]
  dsimp only
  rw [h]

/-! ### The gap timer (R188) -/

theorem gapExpiry_hunt (h : l.asm = .hunt) : gapExpiry l = (l, []) := by
  rw [gapExpiry, h]

theorem gapExpiry_frame (h : l.asm ≠ .hunt) : gapExpiry l = linkError .gap { l with asm := .hunt } := by
  unfold gapExpiry
  split
  · next hunt => exact absurd hunt h
  · rfl

theorem exec_gapTimerExpiry {ms : List Msg} (h : gapExpiry s.lnk = (l, ms)) :
    exec .gapTimerExpiry s = .next (settle ms { fresh s with lnk := l }) :=
  exec_settle (m := .lnk .gapExpiry) rfl (by rw [deliver_lnk, lnkHandle, fresh_lnk, h])

/-! ### A good frame (R189) -/

theorem dispatchFrame_discarded (h : kind.toNat = 0 ∨ 0x3F < kind.toNat) :
    dispatchFrame (kind :: tag :: payload) s l = (l, []) := if_neg (by simp [natIn]; omega)

theorem dispatchFrame_taken (one : 1 ≤ kind.toNat) (most : kind.toNat ≤ 0x3F) :
    dispatchFrame (kind :: tag :: payload) s l =
      dispatchRequest kind.toNat tag (parseRequest kind.toNat payload) s l := if_pos (by simp [natIn, one, most])

theorem serviceTier_le {code : Nat} (h : serviceTier code = true) : 0x30 ≤ code := by
  rw [serviceTier, natIn, Bool.and_eq_true, decide_eq_true_iff] at h
  exact h.1

/-- R189: the last byte of a good frame with a KIND of a request, by what its dispatch leaves at LNK and hands on. -/
theorem exec_frame {ms : List Msg} (asm : s.lnk.asm = .check len (kind :: tag :: payload)) (one : 1 ≤ kind.toNat)
    (most : kind.toNat ≤ 0x3F)
    (h : dispatchRequest kind.toNat tag (parseRequest kind.toNat payload) (fresh s) { s.lnk with asm := .hunt } = (l, ms)) :
    exec (.receiveByte (crc8 (BitVec.ofNat 8 len :: kind :: tag :: payload))) s =
      .next (closed (settle (.chg .stir :: ms) { fresh s with lnk := l })) :=
  exec_byte ((assemble_frame asm).trans ((dispatchFrame_taken one most).trans h))

/-- R189, R192: the same for a request of an open tier, by where it goes. -/
theorem exec_frame_open {ms : List Msg} {r : Request} (asm : s.lnk.asm = .check len (kind :: tag :: payload))
    (one : 1 ≤ kind.toNat) (most : kind.toNat ≤ 0x3F) (slot : HasSlot s) (spelled : parseRequest kind.toNat payload = some r)
    (tier : kind.toNat < 0x30 ∨ s.lnk.service = true)
    (h : routeRequest r (Lnk.reserving { s.lnk with asm := .hunt } (kind + 0x80#8) tag) (fresh s) = (l, ms)) :
    exec (.receiveByte (crc8 (BitVec.ofNat 8 len :: kind :: tag :: payload))) s =
      .next (closed (settle (.chg .stir :: ms) { fresh s with lnk := l })) := by
  refine exec_frame asm one most ?_
  have isOpen : serviceTier kind.toNat = true → s.lnk.service = true :=
    fun h => tier.resolve_left (Nat.not_lt.mpr (serviceTier_le h))
  rw [spelled, dispatchRequest_open (l := { s.lnk with asm := .hunt }) slot isOpen, ofNat_toNat_add, h]

end Assembler

/-- Settles O48: each byte by the assembler's state, and a good frame by its KIND, the slots, its payload and its tier. -/
theorem framesAreAssembledAndDispatched : Obligations.FramesAreAssembledAndDispatched := by
  constructor
  · intro b s _ _ l next errors long bad lost
    refine ⟨fun h sync => ?_, fun h other => ?_, fun h two most => ?_, fun h bounds => ?_, fun len kept h => ?_,
      fun len kept h wrong => ?_, fun h => ?_, fun h => ?_⟩
    · exact exec_byte ((assemble_hunt h).trans (by rw [if_pos sync]))
    · exact exec_byte ((assemble_hunt h).trans (by rw [if_neg other, ← h]))
    · exact exec_byte (assemble_length h two most)
    · exact exec_byte ((assemble_length_error h bounds).trans (linkError_eq _ _))
    · exact exec_byte (assemble_body h)
    · exact exec_byte ((assemble_crc_error h wrong).trans (linkError_eq _ _))
    · rw [exec_gapTimerExpiry (gapExpiry_hunt h), settle_nil]
      rfl
    · exact exec_gapTimerExpiry ((gapExpiry_frame h).trans (linkError_eq _ _))
  · intro kind tag payload s _ _ asm b code heard next reply u counters overruns taken
    have slots (h : HasSlot s) : heard.lnk.slots.length < 2 := h
    refine ⟨fun h => ?_, fun one most full => ?_, fun ⟨one, most, slot⟩ spelled => ?_,
      fun r spelled ⟨one, most, slot⟩ => ?_⟩
    · exact exec_byte ((assemble_frame asm).trans (dispatchFrame_discarded h))
    · exact exec_frame asm one most (dispatchRequest_overrun _ full)
    · refine exec_frame asm one most ?_
      rw [spelled, dispatchRequest_unknown (slots slot), ofNat_toNat_add]
      rfl
    · have coded : r.code = kind.toNat := (parseRequest_spells spelled).1
      have basic (h : r.code < 0x30) : code < 0x30 := coded.symm.trans_lt h
      have isOpen {l : Lnk} {ms : List Msg} (tier : code < 0x30 ∨ s.lnk.service = true)
          (h : routeRequest r (heard.lnk.reserving reply tag) (fresh s) = (l, ms)) :=
        exec_frame_open asm one most slot spelled tier h
      refine ⟨fun tier low => ?_, fun tier m owned => ?_, ?_, ?_, ?_, ?_, ?_⟩
      · refine exec_frame asm one most ?_
        have service : serviceTier kind.toNat = true := coded ▸ (serviceTier_iff r).mpr (coded ▸ tier)
        rw [spelled, dispatchRequest_denied (slots slot) service low, ofNat_toNat_add]
        rfl
      · exact isOpen tier (routeRequest_owner owned)
      · rintro rfl
        exact isOpen (.inl (basic (by simp [Request.code]))) rfl
      · rintro rfl
        exact isOpen (.inl (basic (by simp [Request.code]))) rfl
      · rintro rfl
        exact isOpen (.inl (basic (by simp [Request.code]))) (congrArg (·, []) (linkStatsRequest_answered (Nat.zero_le 1)))
      · rintro rfl
        exact isOpen (.inl (basic (by simp [Request.code]))) (congrArg (·, []) (linkStatsRequest_answered (Nat.le_refl 1)))
      · rintro n rfl bad
        exact isOpen (.inl (basic (by simp [Request.code]))) (congrArg (·, []) (linkStatsRequest_range bad))

end Sys2Proof.Machine

/-! O50 and O51: the replies of STATUS and READINGS by their fields (R195, Table 10-6). -/

namespace Sys2Proof.Machine

open Sys2Proof.Laws.Fields

/-- A message that hands nothing on. -/
theorem settle_one {m : Msg} {s s' : State} (h : m.rank = 0) (hd : deliver m s = (s', [])) : settle [m] s = s' := by
  show run (9999 + 1) [m] s = s'
  rw [run_cons _ _ h, hd]
  exact run_nil _ _

theorem finish_nil (u : State) : finish [] u = closed u := congrArg closed (run_nil _ _)

/-- A request whose dispatch hands one message on, which hands nothing on. -/
theorem exec_dispatch_one {c : Instr} {tag : Byte} {r : Request} {s w : State} {l : Lnk} {m : Msg}
    (hc : requestOf c = some (tag, r)) (hd : dispatchRequest r.code tag (some r) (fresh s) s.lnk = (l, [m]))
    (hm : m.rank = 0) (hw : deliver m { fresh s with lnk := l } = (w, [])) : exec c s = .next (finish [] w) := by
  rw [exec_dispatch hc hd, settle_one hm hw, finish_nil]

/-- A request whose dispatch hands nothing on. -/
theorem exec_dispatch_quiet {c : Instr} {tag : Byte} {r : Request} {s : State} {l : Lnk}
    (hc : requestOf c = some (tag, r)) (hd : dispatchRequest r.code tag (some r) (fresh s) s.lnk = (l, [])) :
    exec c s = .next (finish [] { fresh s with lnk := l }) := by
  rw [exec_dispatch hc hd, settle_nil, finish_nil]

/-! ### The summary (Table 10-6) -/

section Summary

variable {s : State}

/-- The entries held, slot by slot. -/
theorem zipIdx_eq_map_range {α : Type} (l : List (Option α)) :
    l.zipIdx = (List.range l.length).map fun n => ((l[n]?).join, n) := by
  refine List.ext_getElem (by simp) fun n h _ => ?_
  have hn : n < l.length := by simpa using h
  simp [hn]

theorem entriesIn_eq {c : Sch} (p : Nat → Bool) : entriesIn c p =
    ((List.range c.slots.length).filter fun n => p n && ((c.slots[n]?).join).isSome).length := by
  rw [entriesIn, heldEntries, zipIdx_eq_map_range, ← List.countP_eq_length_filter, ← List.countP_eq_length_filter,
    List.countP_filterMap, List.countP_map]
  refine List.countP_congr fun n _ => ?_
  cases hx : (c.slots[n]?).join <;> simp [hx]

/-- The entries held in the slots from `lo` to below `hi`. -/
def heldIn (s : State) (lo hi : Nat) : Nat :=
  ((List.range 16).filter fun n => decide (lo ≤ n ∧ n < hi) && ((s.sch.slots[n]?).join).isSome).length

theorem entriesIn_below (h : s.sch.slots.length = 16) : entriesIn s.sch (fun n => decide (n < 10)) = heldIn s 0 10 := by
  rw [entriesIn_eq, h, heldIn]
  simp

theorem entriesIn_above (h : s.sch.slots.length = 16) : entriesIn s.sch (fun n => decide (10 ≤ n)) = heldIn s 10 16 := by
  rw [entriesIn_eq, h, heldIn]
  refine congrArg List.length (List.filter_congr fun n hn => ?_)
  simp [List.mem_range.mp hn]

theorem statusModes_eq (s : State) : statusModes s =
    u8 (bitIf s.rcl.timeSet 0 + bitIf s.rcl.record.isSome 1 + bitIf s.rcl.quiet 2 + bitIf s.rcl.due 3 +
        bitIf s.rcl.overdue 4 + 32 * s.rcl.period.activity.code) ++
      u8 (s.chg.mode.code + bitIf s.chg.synced 2 + 8 * s.chg.floor.code + 32 * s.dmd.budget.code) ++
      u8 s.htr.seq.code ++
      u8 (s.htr.level + bitIf s.htr.keep.lockout 3 + bitIf s.htr.pendingTable.isSome 4) ++
      u8 (faultCode s.htr.keep.fault) ++
      u8 (s.clr.state.code + 16 * s.clr.speed) ++
      u8 (s.lgt.stack.length + bitIf (s.lgt.channels.any fun c => c.flash.isSome) 3 +
        bitIf (tableOrder s.sch).head?.isSome 7) := by
  rw [statusModes, Nat.mul_comm _ 32, Nat.mul_comm _ 8, Nat.mul_comm _ 32, Nat.mul_comm _ 16]

/-- The due time of the head entry, 0 for none. -/
def headDue (s : State) : Nat := match (tableOrder s.sch).head? with
  | none => 0
  | some e => e.2.due

theorem statusSchedule_eq (h : s.sch.slots.length = 16) :
    statusSchedule s = u8 (heldIn s 0 10 + 16 * heldIn s 10 16) ++ u32 (headDue s) := by
  rw [statusSchedule, entriesIn_below h, entriesIn_above h, Nat.mul_comm _ 16, headDue]
  cases (tableOrder s.sch).head? <;> rfl

theorem sum_eight (f : Nat → Nat) :
    ((List.range 8).map f).sum = f 0 + f 1 + f 2 + f 3 + f 4 + f 5 + f 6 + f 7 := by
  simp [List.range_succ, Nat.add_assoc]

theorem statusAlerts_eq (s : State) : statusAlerts s =
    u16 ((s.alr.record 0).state.code * 16384 + (s.alr.record 1).state.code * 4096 + (s.alr.record 2).state.code * 1024 +
      (s.alr.record 3).state.code * 256 + (s.alr.record 4).state.code * 64 + (s.alr.record 5).state.code * 16 +
      (s.alr.record 6).state.code * 4 + (s.alr.record 7).state.code) ++ u8 (s.alr.owner.getD 255) := by
  rw [statusAlerts, sum_eight]
  norm_num

theorem markByte_eq (marks : List Bool) (i : Nat) : markByte marks i =
    bitIf (marks.getD (8 * i) false) 0 + bitIf (marks.getD (8 * i + 1) false) 1 + bitIf (marks.getD (8 * i + 2) false) 2 +
      bitIf (marks.getD (8 * i + 3) false) 3 + bitIf (marks.getD (8 * i + 4) false) 4 +
      bitIf (marks.getD (8 * i + 5) false) 5 + bitIf (marks.getD (8 * i + 6) false) 6 +
      bitIf (marks.getD (8 * i + 7) false) 7 := sum_eight _

theorem statusReports_eq (s : State) : statusReports s =
    u8 (s.rpq.queue.length + bitIf s.rpq.gate 5 + bitIf s.sto.saving.isSome 6 + bitIf s.lnk.service 7) ++ u16 s.rpq.lost ++
      u8 (markByte s.rpq.marks 0) ++ u8 (markByte s.rpq.marks 1) ++ u8 (markByte s.rpq.marks 2) ++
      u8 (markByte s.rpq.marks 3) ++ u8 (markByte s.rpq.marks 4) ++
      u8 ((s.rpq.desc 0).state.code + 4 * (s.rpq.desc 1).state.code + 16 * (s.rpq.desc 2).state.code +
        64 * (s.rpq.desc 3).state.code) := by
  have marks : (List.range 5).flatMap (fun i => u8 (markByte s.rpq.marks i)) =
      u8 (markByte s.rpq.marks 0) ++ u8 (markByte s.rpq.marks 1) ++ u8 (markByte s.rpq.marks 2) ++
        u8 (markByte s.rpq.marks 3) ++ u8 (markByte s.rpq.marks 4) := rfl
  have descs : ((List.range 4).map fun d => (s.rpq.desc d).state.code * 2 ^ (2 * d)).sum =
      (s.rpq.desc 0).state.code + 4 * (s.rpq.desc 1).state.code + 16 * (s.rpq.desc 2).state.code +
        64 * (s.rpq.desc 3).state.code := by
    simp [List.range_succ]
    omega
  rw [statusReports, marks, descs]
  simp only [List.append_assoc]

end Summary

/-- Marks carried as set are cleared, and with a slot reserved nothing follows (R195). -/
theorem deliver_clearMarks {s : State} (hr : s.lnk.reserved ≠ none) : deliver (.rpq (.clearMarks s.rpq.marks)) s =
    ({ s with rpq := { s.rpq with marks := s.rpq.marks.map fun _ => false, attn := attnOf s.rpq } }, []) := by
  have cleared : List.zipWith (fun m c => m && !c) s.rpq.marks s.rpq.marks = s.rpq.marks.map fun _ => false := by
    rw [List.zipWith_self]
    exact List.map_congr_left fun m _ => Bool.and_not_self m
  have follow := reportsFollow_reserved (q := { s.rpq with marks := s.rpq.marks.map fun _ => false }) hr rfl
  rw [deliver_rpq_of (ev := .clearMarks s.rpq.marks) rfl, cleared, reportsKept_reserved hr, follow]
  rfl

/-- Settles O50: STATUS is answered by LNK itself, field by field, and clears the marks it carries. -/
theorem statusCarriesTheSummary : Obligations.StatusCarriesTheSummary := by
  intro tag s slot u bit held alert desc marks body
  refine ⟨by simp [body], fun slots => ?_⟩
  have summary : statusBody (fresh s) = body := by
    show statusBody s = body
    rw [statusBody, statusModes_eq, statusSchedule_eq slots, statusAlerts_eq, statusReports_eq]
    simp only [markByte_eq, body, List.append_assoc]
    rfl
  have dispatch : dispatchRequest 1 tag (some .status) (fresh s) s.lnk =
      (takeAnswer .ok body (s.lnk.reserving 0x81#8 tag), [.rpq (.clearMarks s.rpq.marks)]) := by
    rw [dispatchRequest_open slot fun tier => absurd tier (by decide), routeRequest, summary]
    rfl
  have cleared := deliver_clearMarks (s := answered 0x81#8 tag 0 body u) nofun
  exact exec_dispatch_one rfl dispatch rfl cleared

/-! ### The figures (R25, R81, R100, R123, R143, R172) -/

theorem shownVolts_eq (free : Nat) (c : Chg) : shownVolts free c = match c.v with
    | some v => (v : Int)
    | none => Config.unmeasuredFigure free 0 := by
  unfold shownVolts
  cases c.v <;> rfl

theorem shownCurrent_eq (free : Nat) (c : Chg) : shownCurrent free c = match c.i with
    | some i => i
    | none => Config.unmeasuredFigure free 1 := by
  unfold shownCurrent
  cases c.i <;> rfl

theorem shownFigure_eq (s : State) (n : Nat) (f : Figures → Nat) : shownFigure s n f = match s.chg.figures with
    | some x => (f x : Int)
    | none => Config.unmeasuredFigure s.free n := by
  unfold shownFigure
  cases s.chg.figures <;> rfl

theorem flatMap_range_eight (f : Nat → List Byte) :
    (List.range 8).flatMap f = f 0 ++ f 1 ++ f 2 ++ f 3 ++ f 4 ++ f 5 ++ f 6 ++ f 7 := by
  simp [List.range_succ]

theorem flatMap_range_five (f : Nat → List Byte) : (List.range 5).flatMap f = f 0 ++ f 1 ++ f 2 ++ f 3 ++ f 4 := by
  simp [List.range_succ]

theorem htrReadings_eq (h : Htr) : htrReadings h =
    u8 h.seq.code ++ u8 h.level ++ u8 (faultCode h.keep.fault) ++ flagByte h.keep.lockout ++
      flagByte h.pendingTable.isSome ++ u8 h.keep.failures ++ u8 h.keep.overheats ++ flagByte h.frostFlag ++
      flagByte h.frostLimited ++ u8 h.sc ++ u8 (if h.bias = .raise then 0 else 1) := by
  rw [htrReadings]
  cases h.bias <;> rfl

/-- Settles O51: READINGS is answered by LNK itself, block by block. -/
theorem readingsCarryTheFigures : Obligations.ReadingsCarryTheFigures := by
  intro tag s slot c h k l r a u temp timer figure activity record chg htr clr light lgt rcl alr
  have chgs : chgReadings (fresh s) = chg := by
    rw [chgReadings, flatMap_range_five, shownVolts_eq, shownCurrent_eq]
    simp only [shownFigure_eq, chg, List.append_assoc]
    rfl
  have htrs : htrReadings h = htr := htrReadings_eq h
  have clrs : clrReadings k = clr := rfl
  have lgts : lgtReadings s = lgt := by
    rw [lgtReadings, flatMap_range_eight, grantCap_eq]
    simp only [lgt, light, List.append_assoc]
    rfl
  have rcls : rclReadings r = rcl := by
    simp only [rclReadings, rcl, r, List.append_assoc]
    cases s.rcl.breakRun <;> cases s.rcl.record <;> rfl
  have alrs : alrReadings a = alr := by
    simp only [alrReadings, alr, a, List.flatMap_cons, List.flatMap_nil, List.append_nil, List.append_assoc]
    cases s.alr.owner <;> rfl
  have dispatch : dispatchRequest 2 tag (some .readings) (fresh s) s.lnk =
      (takeAnswer .ok (chg ++ htr ++ clr ++ lgt ++ rcl ++ alr) (s.lnk.reserving 0x82#8 tag), []) := by
    rw [← chgs, ← htrs, ← clrs, ← lgts, ← rcls, ← alrs, dispatchRequest_open slot fun tier => absurd tier (by decide)]
    rfl
  exact exec_dispatch_quiet rfl dispatch

end Sys2Proof.Machine

/-! O8: the areas give the values in use (R197, R200), and a RESTART waits for what holds it (R202). -/

namespace Sys2Proof.Machine

/-! ### The areas (R197, R200) -/

theorem readSettings_of_valid {a : Area Settings} (valid : a.crc = crc16 (settingsBytes a.fields)) :
    readSettings (some a) = some a.fields := by
  rw [readSettings, if_pos valid]

theorem readSettings_of_invalid {x : Option (Area Settings)}
    (invalid : x = none ∨ ∃ a, x = some a ∧ a.crc ≠ crc16 (settingsBytes a.fields)) : readSettings x = none := by
  rcases invalid with rfl | ⟨a, rfl, mismatch⟩
  · rfl
  · rw [readSettings, if_neg mismatch]

theorem readSaved_of_valid {a : Area Saved} (valid : a.crc = crc16 (savedBytes a.fields)) :
    readSaved (some a) = some a.fields := by
  rw [readSaved, if_pos valid]

theorem readSaved_of_invalid {x : Option (Area Saved)}
    (invalid : x = none ∨ ∃ a, x = some a ∧ a.crc ≠ crc16 (savedBytes a.fields)) : readSaved x = none := by
  rcases invalid with rfl | ⟨a, rfl, mismatch⟩
  · rfl
  · rw [readSaved, if_neg mismatch]

theorem usedSettings_of_read {t : Sto} {x : Settings} (h : readSettings t.settingsArea = some x) : usedSettings t = x := by
  rw [usedSettings, h, Option.getD_some]

theorem usedSettings_of_lost {t : Sto} (h : readSettings t.settingsArea = none) : usedSettings t = defaultSettings := by
  rw [usedSettings, h, Option.getD_none]

theorem usedItems_of_read {t : Sto} {x : Saved} (h : readSaved t.stateArea = some x) : usedItems t = x.heater := by
  rw [usedItems, h, Option.map_some, Option.getD_some]

/-- R26: the Q kept, bounded by the nominal capacity. -/
theorem usedCharge_of_read {t : Sto} {x : Saved} (h : readSaved t.stateArea = some x) (cNom : Nat) :
    usedCharge t cNom = if cNom < x.q then cNom else x.q := by
  rw [usedCharge, h, Option.map_some, Option.getD_some, min_comm, min_def_lt]

theorem usedCharge_of_lost {t : Sto} (h : readSaved t.stateArea = none) (cNom : Nat) : usedCharge t cNom = cNom / 2 := by
  rw [usedCharge, h, Option.map_none, Option.getD_none]

/-! ### The reset of a RESTART (R202; log 10) -/

/-- What holds the reset that a RESTART asks for: its stage, a Settings save, or its OK reply. -/
def RestartHeld (s : State) : Prop :=
  s.sto.restarting ≠ .done ∨ s.sto.saving ≠ none ∨
    ∃ r ∈ s.lnk.slots ++ s.lnk.answer.toList, r.kind = 0xB6#8 ∧ r.status = 0

theorem restartReplyWaits_iff (l : Lnk) :
    restartReplyWaits l = true ↔ ∃ r ∈ l.slots ++ l.answer.toList, r.kind = 0xB6#8 ∧ r.status = 0 := by
  simp only [restartReplyWaits, List.any_eq_true, Bool.and_eq_true, beq_iff_eq]

/-- A RESTART's reset is due exactly when nothing holds it. -/
theorem restartDue_iff (s : State) : restartDue s = true ↔ ¬RestartHeld s := by
  have stage : (s.sto.restarting == .done) = true ↔ s.sto.restarting = .done := by
    cases s.sto.restarting <;> decide
  simp only [restartDue, RestartHeld, ← restartReplyWaits_iff, Bool.and_eq_true, stage, Option.isNone_iff_eq_none,
    Bool.not_eq_true', not_or, not_not, Bool.not_eq_true, ne_eq, and_assoc]

theorem exec_restartReset_held {s : State} (held : RestartHeld s) (pins : Pins) :
    exec (.restartReset pins) s = .next s := by
  show Host.Outcome.next (if restartDue s then startUp .restart pins s else s) = _
  rw [if_neg fun due => (restartDue_iff s).mp due held]

/-- Settles O8: each area by whether its CRC is that of its fields, and the reset by whether something holds it. -/
theorem areasAndRestart : Obligations.AreasAndRestart := by
  refine ⟨fun t => ⟨fun a area valid => ?_, fun invalid => ?_, fun a area valid => ?_, fun invalid => ?_⟩,
    fun pins s => ⟨fun held => exec_restartReset_held held pins, (restartDue_iff s).mpr⟩⟩
  · exact usedSettings_of_read (area ▸ readSettings_of_valid valid)
  · exact usedSettings_of_lost (readSettings_of_invalid invalid)
  · have kept : readSaved t.stateArea = some a.fields := area ▸ readSaved_of_valid valid
    exact ⟨usedItems_of_read kept, usedCharge_of_read kept⟩
  · have lost := readSaved_of_invalid invalid
    exact ⟨usedItems_of_lost lost, usedCharge_of_lost lost⟩

end Sys2Proof.Machine

/-! O1 and O2: a step runs the command at the front of the queue, and no command touches those that wait (00 5.4; log 5). -/

namespace Sys2Proof.Machine

/-! ### A step -/

/-- With no command waiting the part idles (log 5). -/
theorem step_of_no_pending {s : State} (idle : s.pending = []) : step s = .next s := by
  rw [step, idle]

/-- The command at the front runs with the rest still waiting. -/
theorem step_of_pending {c : Instr} {rest : List Instr} {s : State} (waits : s.pending = c :: rest) :
    step s = exec c { s with pending := rest } := by
  rw [step, waits]

/-- Settles O1: the two shapes of the queue. -/
theorem stepRunsTheFrontCommand : Obligations.StepRunsTheFrontCommand :=
  ⟨fun _ _ _ => step_of_pending, fun _ => step_of_no_pending⟩

/-! ### What a command leaves of the queue -/

/-- R201: a reset sets the blocks only; the commands that wait still wait. -/
theorem blocksAtReset_pending (pins : Pins) (s : State) : (blocksAtReset pins s).pending = s.pending := rfl

/-- Settles O2: every command is made of deliveries, advances of the event counter and resets (`exec_keeps`), and each of the
three leaves the queue of commands as it was. -/
theorem everyCommandAnswersANextState : Obligations.EveryCommandAnswersANextState := by
  intro c s
  refine exec_keeps (P := fun t => t.pending = s.pending) ?counter ?delivery ?reset c s rfl
  case counter => exact fun t kept => (fresh_pending t).trans kept
  case delivery => exact fun m t kept => (deliver_pending m t).trans kept
  case reset => exact fun pins t kept => (blocksAtReset_pending pins t).trans kept

end Sys2Proof.Machine
